-- ==== Sys2Proof/Word.lean ====
section
/-! DEFINITION. The two word types of the BX40: the data byte of a character (R121) and the 16-bit value of CHECK and of a
notice set (R123, R125). Everything else the part counts or measures is a Nat, an Int or a named type. -/

namespace Sys2Proof

/-- The eight data bits of one character (R121). -/
abbrev Byte := BitVec 8

/-- A 16-bit word: CHECK (R123) or a notice set (R125). -/
abbrev Word16 := BitVec 16

end Sys2Proof
end

