-- ==== Sys2Proof/Syntax.lean ====
section
/-! DEFINITION. The commands of the BX40: one constructor of `Instr` for each row of spec/opcode_table.json, in the table's
order, with the operands the governing rules give the event, and the types of those operands. -/

namespace Sys2Proof

/-- The three segment ports (chapter 7). -/
inductive Port where
  | h
  | y
  | p
deriving DecidableEq, Repr, Inhabited

/-- The two room segments, H (house) and Y (yard). -/
inductive Room where
  | h
  | y
deriving DecidableEq, Repr, Inhabited

/-- One character as the receiver sampled it (R121): the data bits, the parity bit, and the stop bit, `true` for the idle
level. -/
structure RxChar where
  data : Byte
  parity : Bool
  stop : Bool
deriving DecidableEq, Repr, Inhabited

/-- What every management request carries beside its op, object and index (R170): the room segment it arrived on, its
source address and its data bytes. -/
structure Req where
  room : Room
  src : Byte
  data : List Byte
deriving DecidableEq, Repr, Inhabited

/-- The scaling settings of R72, each an index of TANK_SET. -/
inductive ScalingItem where
  | sense
  | zero
  | gain
  | tankHeight
deriving DecidableEq, Repr

/-- The filter-shape settings of R76, each an index of TANK_SET. -/
inductive ShapeItem where
  | windowN
  | order
deriving DecidableEq, Repr

/-- The tank-level settings of R106, each an index of TANK_SET. -/
inductive LevelsItem where
  | reserveLevel
  | emptyLevel
  | hyst
deriving DecidableEq, Repr

/-- The settings of BURNER_SET (R42). -/
inductive BurnerItem where
  | minOn
  | minOff
  | pumpOverrun
  | holdExtend
deriving DecidableEq, Repr

/-- The settings of RECOVERY_SET (R51). -/
inductive RecoveryItem where
  | retryBase
  | cap
  | window
  | budget
  | resetWidth
  | waxTemp
deriving DecidableEq, Repr

/-- The relay settings of RELAY_COUNTERS (R156). -/
inductive RelayItem where
  | ageLimit
  | nodeCap
  | bcastCap
deriving DecidableEq, Repr

/-- The commands. A timer's expiry is a command of its own; a request row carries the request it stands for. -/
inductive Instr where
  /-- POWER_ON (R174) -/
  | powerOn
  /-- PIN_RESET (R174) -/
  | pinReset
  /-- RESTART_TAKEN (R173) -/
  | restartTaken
  /-- RX_FIRST_CHARACTER (R126): on `port` -/
  | rxFirstCharacter (port : Port)
  /-- RX_TELEGRAM_END (R127): on `port`, with every character of the telegram -/
  | rxTelegramEnd (port : Port) (chars : List RxChar)
  /-- STARTUP_GRACE_EXPIRY (R13) -/
  | startupGraceExpiry
  /-- HOUR_WINDOW_BOUNDARY (R15) -/
  | hourWindowBoundary
  /-- DUTY_PORTION_END (R15): of zone `z` -/
  | dutyPortionEnd (z : Nat)
  /-- RUN_SENSE_CHANGE (R22): to `level`, true for active -/
  | runSenseChange (level : Bool)
  /-- LOCKOUT_SENSE_CHANGE (R22): to `level`, true for active -/
  | lockoutSenseChange (level : Bool)
  /-- RUN_RISE (R23) -/
  | runRise
  /-- RUN_FALL (R24) -/
  | runFall
  /-- LOCKOUT_TAKEN (R26) -/
  | lockoutTaken
  /-- LOCKOUT_RELEASED (R59) -/
  | lockoutReleased
  /-- MIN_OFF_ELAPSED (R39) -/
  | minOffElapsed
  /-- MIN_ON_EXPIRY (R35) -/
  | minOnExpiry
  /-- START_WINDOW_EXPIRY (R33) -/
  | startWindowExpiry
  /-- PUMP_OVERRUN_EXPIRY (R40) -/
  | pumpOverrunExpiry
  /-- HOLD_EXTEND_EXPIRY (R41) -/
  | holdExtendExpiry
  /-- RETRY_DUE (R52) -/
  | retryDue
  /-- SAFETY_WRITE_START (R65) -/
  | safetyWriteStart
  /-- SAFETY_WRITE_COMPLETE (R55) -/
  | safetyWriteComplete
  /-- RESET_PULSE_END (R56) -/
  | resetPulseEnd
  /-- CONFIRM_TIMEOUT (R57) -/
  | confirmTimeout
  /-- PROVING_COMPLETE (R58) -/
  | provingComplete
  /-- RESET_HISTORY_LAPSE (R54) -/
  | resetHistoryLapse
  /-- DELIVERY_TIMEOUT (R118) -/
  | deliveryTimeout
  /-- STALE_TIMER_EXPIRY (R83) -/
  | staleTimerExpiry
  /-- SERVICE_HOLD_EXPIRY (R82) -/
  | serviceHoldExpiry
  /-- BREAK_ENTRY (R129): on `port` -/
  | breakEntry (port : Port)
  /-- BREAK_EXIT (R130): on `port` -/
  | breakExit (port : Port)
  /-- QUIET_WAIT_MET (R132): on `port` -/
  | quietWaitMet (port : Port)
  /-- EARLY_COLLISION (R134): on a room segment, in character `ch` of the head, counted from 1 -/
  | earlyCollision (r : Room) (ch : Nat)
  /-- LATE_COLLISION (R135): on a room segment, in character `ch` of the head, counted from 1 -/
  | lateCollision (r : Room) (ch : Nat)
  /-- BACKOFF_END (R134): on a room segment -/
  | backoffEnd (r : Room)
  /-- P_TX_MISMATCH (R136) -/
  | pTxMismatch
  /-- P_RETRY_PAUSE_END (R136) -/
  | pRetryPauseEnd
  /-- TX_SENT (R135): on `port` -/
  | txSent (port : Port)
  /-- HOLD_OFF_REPEAT (R139) -/
  | holdOffRepeat
  /-- NODE_AGING_CHECK (R146) -/
  | nodeAgingCheck
  /-- STORM_INTERVAL_START (R148) -/
  | stormIntervalStart
  /-- BROADCAST_INTERVAL_START (R150) -/
  | broadcastIntervalStart
  /-- POLL_DUE (R162) -/
  | pollDue
  /-- RESPONSE_WINDOW_CLOSE (R160) -/
  | responseWindowClose
  /-- VALVE_TRAVEL_EXPIRY (R166): of the valve record of poll slot `slot` -/
  | valveTravelExpiry (slot : Nat)
  /-- NOTICE_REPEAT (R177) -/
  | noticeRepeat
  /-- READ (R171): of object `obj` at `idx`; the data is the optional part number -/
  | read (obj idx : Byte) (q : Req)
  /-- ENROL_WRITE (R19): of slot `idx` -/
  | enrolWrite (idx : Byte) (q : Req)
  /-- ZONE_WRITE (R20): of zone `idx` -/
  | zoneWrite (idx : Byte) (q : Req)
  /-- RESERVE_SETBACK_WRITE (R9): ZONE index 8 -/
  | reserveSetbackWrite (q : Req)
  /-- POLL_WRITE (R158): of slot `idx` -/
  | pollWrite (idx : Byte) (q : Req)
  /-- STRAP_STAGED_WRITE (R89): of position `idx`, or of the count at 32 -/
  | strapStagedWrite (idx : Byte) (q : Req)
  /-- SCALING_WRITE (R72) -/
  | scalingWrite (item : ScalingItem) (q : Req)
  /-- FILTER_SHAPE_WRITE (R76) -/
  | filterShapeWrite (item : ShapeItem) (q : Req)
  /-- TANK_LEVELS_WRITE (R106) -/
  | tankLevelsWrite (item : LevelsItem) (q : Req)
  /-- BURNER_SET_WRITE (R42) -/
  | burnerSetWrite (item : BurnerItem) (q : Req)
  /-- RECOVERY_SET_WRITE (R51) -/
  | recoverySetWrite (item : RecoveryItem) (q : Req)
  /-- RELAY_SETTINGS_WRITE (R156) -/
  | relaySettingsWrite (item : RelayItem) (q : Req)
  /-- NOTICE_MASK_WRITE (R176) -/
  | noticeMaskWrite (q : Req)
  /-- COUNTER_CLEAR (R172): at counter index `idx` of object `obj` -/
  | counterClear (obj idx : Byte) (q : Req)
  /-- MGMT_WRITE (R172): at `idx` of object `obj` -/
  | mgmtWrite (obj idx : Byte) (q : Req)
  /-- SWAP_STRAP (R91) -/
  | swapStrap (idx : Byte) (q : Req)
  /-- STORE (R175) -/
  | store (idx : Byte) (q : Req)
  /-- STORE_WRITE_START (R175) -/
  | storeWriteStart
  /-- STORE_COMPLETE (R175): with the verify's result -/
  | storeComplete (verified : Bool)
  /-- CLEAR_NOTICE (R176) -/
  | clearNotice (idx : Byte) (q : Req)
  /-- RESET_BURNER (R64) -/
  | resetBurner (idx : Byte) (q : Req)
  /-- CLEAR_HARD_LOCK (R62) -/
  | clearHardLock (idx : Byte) (q : Req)
  /-- HOLD_TANK (R82): index 0 off, 1 on -/
  | holdTank (idx : Byte) (q : Req)
  /-- FORGET_LEVEL (R85) -/
  | forgetLevel (idx : Byte) (q : Req)
  /-- RESTART (R173) -/
  | restart (idx : Byte) (q : Req)
  /-- SEGMENT_LINE_CHANGE (R130): the line of `port` changes to active (`true`) or idle without starting a character -/
  | segmentLineChange (port : Port) (level : Bool)
deriving DecidableEq, Repr

end Sys2Proof
end

