-- ==== Sys2Proof/Decode.lean ====
section
/-! DEFINITION. Decoding of table words. The opcode table gives no row any bits (spec/98_reader.md: no row with fixed bits
or fields), so no word spells a command. -/

namespace Sys2Proof

/-- The command that a word spells by the table's bits: none, for every row has none. -/
def decodeTableWord (_nbits _w : Nat) : Option Instr := none

end Sys2Proof
end

