-- ==== Sys2Proof/Config.lean ====
section
/-! DEFINITION. What the spec leaves open: free values without a body, so that a claim about the model is true whatever
they are. -/

namespace Sys2Proof

/-- What a write of non-volatile memory leaves when a reset cuts it off or its verify fails (R65, R175): the record as it
was, as written, or failing its check. -/
inductive CutWrite where
  | before
  | written
  | failing
deriving DecidableEq, Repr, Inhabited

namespace Config

/-- FREE VALUE (log 6). The port's random source (R134): the n-th draw, reduced by the meaning to the range of the draw. -/
opaque backoffDraw : Nat → Nat

/-- FREE VALUE (log 7). What the n-th cut-off or FAILED write leaves in non-volatile memory (R65, R175). -/
opaque cutWrite : Nat → CutWrite

/-- FREE VALUE (log 8). Whether the STATUS composed for the n-th DEMAND that changed the plant state shows that change
already; the spec calls either correct (R17). -/
opaque statusShowsHandOff : Nat → Bool

/-- FREE VALUE (log 9). The part code, fixed in the part (R171, IDENT index 0). -/
opaque partCode : Word16

/-- FREE VALUE (log 9). The object-map edition, fixed in the part (R171, IDENT index 1). -/
opaque mapEdition : Word16

end Config

end Sys2Proof
end

