-- ==== Sys2Proof/Machine/Arith.lean ====
section
/-! DEFINITION. The arithmetic conventions of the introduction: clamping, saturating counters, the fields of telegrams and
items as bytes (high byte first, two's complement where signed), and the lists the tables are kept in. -/

namespace Sys2Proof.Machine

/-- `v` clamped to `lo` .. `hi` (00, "Arithmetic"; R172). -/
def clampNat (lo hi v : Nat) : Nat := if v < lo then lo else if hi < v then hi else v

/-- `v` clamped to `lo` .. `hi`, signed. -/
def clampInt (lo hi v : Int) : Int := if v < lo then lo else if hi < v then hi else v

/-- A temperature held in its range, −300 to +500 (00, "Quantities"). -/
def clampTemp (v : Int) : Int := clampInt (-300) 500 v

/-- A 16-bit event counter, saturating at 65535 (00, "Counters"). -/
def bump (c : Nat) : Nat := if c < 65535 then c + 1 else 65535

/-- An 8-bit count, saturating at 255 (R142, R158). -/
def bump8 (c : Nat) : Nat := if c < 255 then c + 1 else 255

/-- `x / d` rounded toward minus infinity, for a positive `d` (R75, R76). -/
def floorDiv (x : Int) (d : Nat) : Int := Int.fdiv x d

/-! ### Fields as bytes (R122, R124, R171) -/

/-- `w` bytes of `v`, high byte first: the low `8 w` bits. -/
def beBytes : Nat → Nat → List Byte
  | 0, _ => []
  | w + 1, v => BitVec.ofNat 8 (v / 256 ^ w) :: beBytes w v

/-- `w` bytes of a signed value in two's complement, high byte first. -/
def beSigned (w : Nat) (v : Int) : List Byte := beBytes w (v % (256 ^ w : Nat)).toNat

/-- The unsigned value of bytes sent high byte first. -/
def ofBytes (bs : List Byte) : Nat := bs.foldl (fun acc b => acc * 256 + b.toNat) 0

/-- The two's complement value of bytes sent high byte first. -/
def ofSigned (bs : List Byte) : Int :=
  let v := ofBytes bs
  let m := 256 ^ bs.length
  if 2 * v < m then (v : Int) else (v : Int) - m

/-- A flag as a byte (R171). -/
def flagByte (b : Bool) : Byte := if b then 1 else 0

/-! ### Tables of slots -/

/-- The entry in slot `i`, if the slot holds one. -/
def slotGet {α : Type} (xs : List (Option α)) (i : Nat) : Option α := (xs[i]?).join

/-- The slots with their numbers. -/
def numbered {α : Type} (xs : List α) : List (Nat × α) := (List.range xs.length).zip xs

/-- The first slot whose entry satisfies `f`. -/
def findSlot {α : Type} (f : α → Bool) : List (Option α) → Option Nat
  | [] => none
  | none :: xs => (findSlot f xs).map (· + 1)
  | some a :: xs => if f a then some 0 else (findSlot f xs).map (· + 1)

/-- The lowest empty slot. -/
def emptySlot {α : Type} : List (Option α) → Option Nat
  | [] => none
  | none :: _ => some 0
  | some _ :: xs => (emptySlot xs).map (· + 1)

/-- Change the entry of slot `i`, if it holds one. -/
def modifySlot {α : Type} (xs : List (Option α)) (i : Nat) (f : α → α) : List (Option α) :=
  xs.modify i (Option.map f)

/-- Append to a log of capacity `cap`, dropping the oldest entry when it is full (R46, R114, R117). -/
def logAppend {α : Type} (cap : Nat) (xs : List α) (x : α) : List α :=
  (if cap ≤ xs.length then xs.drop 1 else xs) ++ [x]

/-- Apply `f` once for each element, from the left. -/
def forEach {α σ : Type} (xs : List α) (f : α → σ → σ) (s : σ) : σ := xs.foldl (fun s x => f x s) s

end Sys2Proof.Machine
end

