-- ==== Sys2Proof/Machine/Types.lean ====
section
/-! DEFINITION. The types of the machine's state, block by block. Every type is plain data. Times: "tenths" are tenths of a
second of uptime, "seconds" are uptime seconds, "ticks" are 0.1 ms (log 1, log 18). -/

namespace Sys2Proof.Machine

/-! ### Telegrams (chapter 7) -/

/-- A telegram as a buffer holds it (R122). LEN is the number of payload bytes; CHECK is kept as received. -/
structure Telegram where
  dest : Byte
  src : Byte
  kind : Byte
  payload : List Byte
  check : Word16
deriving DecidableEq, Repr, Inhabited

/-- What a queued telegram is to the block that offered it: nothing more, the request of the outstanding exchange (R160), or
the response that a RESTART waits for (R173). -/
inductive QMark where
  | plain
  | request
  | restart
deriving DecidableEq, Repr, Inhabited

/-- One entry of a transmit queue (R131). -/
structure QItem where
  tel : Telegram
  mark : QMark
deriving DecidableEq, Repr, Inhabited

/-! ### Segment ports and pool (chapter 7) -/

/-- Port state: ACTIVE, or BREAK (R129). -/
inductive PortMode where
  | active
  | broken
deriving DecidableEq, Repr, Inhabited

/-- What is known of the line between commands: idle or held active since a tick, or, since a tick at which it was last known
to be idle or to turn active, carrying a telegram whose single level changes are not followed (log 15). -/
inductive Line where
  | idle (since : Nat)
  | active (since : Nat)
  | busy (since : Nat)
deriving DecidableEq, Repr, Inhabited

/-- What the head of the transmit queue is doing (R131): waiting for a quiet line, being sent, backing off until a tick
(R134), or, on P, pausing until a tick before its second attempt (R136). -/
inductive TxPhase where
  | wait
  | sending
  | backoff (till : Nat)
  | pause (till : Nat)
deriving DecidableEq, Repr, Inhabited

/-- A telegram in receive assembly (R126): whether it holds a buffer, and the tick it began. -/
structure Assembly where
  hasBuffer : Bool
  start : Nat
deriving DecidableEq, Repr, Inhabited

/-- The port counters (R140), in the order of its table. -/
structure PortCounters where
  rxGood : Nat := 0
  parity : Nat := 0
  framing : Nat := 0
  length : Nat := 0
  check : Nat := 0
  noBuffer : Nat := 0
  badAddress : Nat := 0
  breaks : Nat := 0
  flushed : Nat := 0
  queueFull : Nat := 0
  txSent : Nat := 0
  collision : Nat := 0
  excessCollision : Nat := 0
  lateCollision : Nat := 0
  txFail : Nat := 0
deriving DecidableEq, Repr, Inhabited

/-- One segment port. `attempts` is the head's attempt count k on H and Y (R134) and its mismatches on P (R136). `armed`
says that the line has been idle for 8 ms since the last reset, telegram or transmission, so that a first character may be
taken (R122, R126). -/
structure PortState where
  mode : PortMode := .active
  line : Line := .idle 0
  armed : Bool := false
  asm : Option Assembly := none
  queue : List QItem := []
  phase : TxPhase := .wait
  attempts : Nat := 0
  ctr : PortCounters := {}
deriving DecidableEq, Repr, Inhabited

/-- The buffer pool (R137 to R139). `held` is the pool state HELD; `repeatFrom` is the tick from which the 20 s repeat timer
runs. -/
structure Pool where
  free : Nat := 32
  held : Bool := false
  repeatFrom : Option Nat := none
  genDropped : Nat := 0
  holdEntry : Nat := 0
deriving DecidableEq, Repr, Inhabited

/-! ### Relay unit (chapter 8) -/

/-- The demand part of a node entry (R4). -/
structure DemandPart where
  temp : Int
  setpoint : Option Nat
  batteryLow : Bool
  manual : Bool
  calling : Bool
  frost : Bool
  time : Nat
deriving DecidableEq, Repr, Inhabited

/-- An entry of the node table (R142). -/
structure NodeEntry where
  addr : Nat
  seg : Room
  heard : Nat
  storm : Nat
  holdOffSent : Bool
  part : Option DemandPart
deriving DecidableEq, Repr, Inhabited

/-- The relay counters (R156), in the order of its table. -/
structure RelayCounters where
  learned : Nat := 0
  evicted : Nat := 0
  migrated : Nat := 0
  aged : Nat := 0
  nodeStorm : Nat := 0
  holdOffSent : Nat := 0
  foreignKind : Nat := 0
  unknownKind : Nat := 0
  localDest : Nat := 0
  plantGuard : Nat := 0
  segmentDown : Nat := 0
  bcastDrop : Nat := 0
  relayedH : Nat := 0
  relayedY : Nat := 0
  relayedP : Nat := 0
  relayListFull : Nat := 0
  returned : Nat := 0
deriving DecidableEq, Repr, Inhabited

/-- The relay settings (R156). -/
structure RelaySet where
  ageLimit : Nat
  nodeCap : Nat
  bcastCap : Nat
deriving DecidableEq, Repr, Inhabited

/-- The relay unit. -/
structure Relay where
  set : RelaySet
  nodes : List (Option NodeEntry)
  bcastH : Nat := 0
  bcastY : Nat := 0
  ctr : RelayCounters := {}
deriving DecidableEq, Repr, Inhabited

/-! ### Zone unit (chapter 1) -/

/-- The role of an enrolled address; a ROOM_UNIT carries its zone (R1). -/
inductive Role where
  | roomUnit (zone : Nat)
  | service
  | display
deriving DecidableEq, Repr, Inhabited

/-- An entry of the enrolment map (R1). -/
structure Enrolment where
  addr : Nat
  role : Role
deriving DecidableEq, Repr, Inhabited

/-- Zone class (R2). -/
inductive ZoneClass where
  | unused
  | essential
  | normal
  | low
deriving DecidableEq, Repr, Inhabited

/-- Zone mode (R2). -/
inductive ZoneMode where
  | select
  | group
deriving DecidableEq, Repr, Inhabited

/-- An entry of the zone table (R2). -/
structure ZoneEntry where
  cls : ZoneClass
  mode : ZoneMode
  lead : Option Nat
  setpoint : Nat
  ceiling : Nat
  frost : Nat
  diff : Nat
  duty : Nat
  valve : Option Nat
deriving DecidableEq, Repr, Inhabited

/-- Zone state (R11). -/
inductive ZoneState where
  | unused
  | waiting
  | blind
  | frost
  | calling
  | satisfied
deriving DecidableEq, Repr, Inhabited

/-- The zone unit. Sets of zones are ascending lists of zone numbers. -/
structure ZoneUnit where
  enrol : List (Option Enrolment)
  table : List ZoneEntry
  setback : Nat
  states : List ZoneState
  wanting : List Nat := []
  grace : Bool := true
  badDemand : Nat := 0
  unenrolled : Nat := 0
deriving DecidableEq, Repr, Inhabited

/-! ### Burner supervisor (chapter 2) -/

/-- Supervisor state (section 2.5). -/
inductive SupState where
  | idle
  | waitOff
  | calling
  | firing
  | holding
  | locked
  | inhibited
deriving DecidableEq, Repr, Inhabited

/-- A debounce stage (R22): the raw input, the debounced value, and the tenth from which its timer runs. -/
structure Debounce where
  raw : Bool := false
  value : Bool := false
  timer : Option Nat := none
deriving DecidableEq, Repr, Inhabited

/-- The run record (R23). Times in tenths. -/
structure RunRecord where
  active : Bool := false
  rise : Nat := 0
  start : Nat := 0
  lastDuration : Nat := 0
  burnCount : Nat := 0
  seen : Bool := false
  uncalled : Nat := 0
deriving DecidableEq, Repr, Inhabited

/-- BURNER_SET (R42), in seconds. -/
structure BurnerSet where
  minOn : Nat
  minOff : Nat
  pumpOverrun : Nat
  holdExtend : Nat
deriving DecidableEq, Repr, Inhabited

/-- The burner supervisor. The four optional fields are the tenths from which the timers run; `minOn` is the CALL rise and
stands while CALL is asserted. -/
structure Supervisor where
  set : BurnerSet
  state : SupState := .idle
  pump : Bool := false
  run : Debounce := {}
  lockout : Debounce := {}
  rr : RunRecord := {}
  minOffRef : Nat := 0
  minOn : Option Nat := none
  startWindow : Option Nat := none
  overrun : Option Nat := none
  holdExt : Option Nat := none
  wanting : List Nat := []
  served : List Nat := []
  heldSet : List Nat := []
deriving DecidableEq, Repr, Inhabited

/-! ### Accounting unit (chapter 6): the tank state is read by the recovery unit's records -/

/-- Tank state (R104). -/
inductive TankState where
  | unknown
  | normal
  | reserve
  | empty
deriving DecidableEq, Repr, Inhabited

/-! ### Recovery unit (chapter 3) -/

/-- Recovery state (R44). -/
inductive RecState where
  | closed
  | waitRetry
  | pulsing
  | confirming
  | proving
  | fuelWait
  | hardLock
deriving DecidableEq, Repr, Inhabited

/-- Lockout cause (R47); UNKNOWN only for an episode restored from a failing record (R45). -/
inductive Cause where
  | fuelEmpty
  | fuelCold
  | external
  | noIgnition
  | flameLoss
  | unknown
deriving DecidableEq, Repr, Inhabited

/-- Kind of a reset-history entry (R53). -/
inductive EntryKind where
  | automatic
  | service
  | forgiven
  | lapsed
deriving DecidableEq, Repr, Inhabited

/-- Outcome of a reset-history entry (R53). -/
inductive AttemptOutcome where
  | pending
  | cleared
  | notCleared
deriving DecidableEq, Repr, Inhabited

/-- A reset-history entry (R53). -/
structure HistEntry where
  time : Nat
  kind : EntryKind
  episode : Nat
  outcome : AttemptOutcome
deriving DecidableEq, Repr, Inhabited

/-- The safety record (R65); the history is oldest first. -/
structure SafetyRecord where
  flag : Bool
  episode : Nat
  cause : Cause
  history : List HistEntry
deriving DecidableEq, Repr, Inhabited

/-- The attempt in hand (R45): automatic or service, the position of its entry counted from 0 at the oldest (DESIGN CHOICE,
log 24), and whether a safety write that carries the entry has started (log 23). -/
structure Attempt where
  automatic : Bool
  pos : Nat
  carried : Bool
deriving DecidableEq, Repr, Inhabited

/-- Return state of a service pulse (R45). -/
inductive ReturnState where
  | waitRetry
  | fuelWait
deriving DecidableEq, Repr, Inhabited

/-- The episode record (R45). The due time is computed from `ref` (R51). -/
structure Episode where
  number : Nat
  k : Nat
  cause : Cause
  ref : Option Nat := none
  attempt : Option Attempt := none
  ret : Option ReturnState := none
  proving : Option Nat := none
deriving DecidableEq, Repr, Inhabited

/-- A lockout record (R46). -/
structure LockoutRecord where
  episode : Nat
  time : Nat
  cause : Cause
  sup : SupState
  seen : Bool
  tank : TankState
  v15 : Option Nat
  temp : Option Int
deriving DecidableEq, Repr, Inhabited

/-- RECOVERY_SET (R51): seconds, but `resetWidth` in tenths and `waxTemp` in 0.1 °C. -/
structure RecoverySet where
  retryBase : Nat
  cap : Nat
  window : Nat
  budget : Nat
  resetWidth : Nat
  waxTemp : Int
deriving DecidableEq, Repr, Inhabited

/-- The recovery unit. `safe` is the working copy of the safety record; `pulseEnd` and `confirmFrom` are tenths. -/
structure Recovery where
  set : RecoverySet
  state : RecState := .closed
  episode : Option Episode := none
  counter : Nat := 0
  log : List LockoutRecord := []
  safe : SafetyRecord
  pulseEnd : Option Nat := none
  confirmFrom : Option Nat := none
deriving DecidableEq, Repr, Inhabited

/-! ### Poll scheduler (chapter 9) -/

/-- A position a valve can be told to take (R159). -/
inductive ValvePos where
  | closed
  | opened
deriving DecidableEq, Repr, Inhabited

/-- A valve's reported position (R159). -/
inductive Reported where
  | closed
  | opened
  | moving
  | fault
  | unknown
deriving DecidableEq, Repr, Inhabited

/-- A valve record (R159). The travel timer, when it runs, runs from `since` (tenths). -/
structure ValveRecord where
  desired : ValvePos
  since : Nat
  pending : Bool
  reported : Reported
  fault : Bool
  travel : Bool
deriving DecidableEq, Repr, Inhabited

/-- The role of a poll-list entry; a VALVE entry carries its valve record (R158, R159). -/
inductive PollRole where
  | gauge
  | valve (r : ValveRecord)
deriving DecidableEq, Repr, Inhabited

/-- A poll-list entry (R158). `start` is the start of the entry's last exchange, `base` the moment its due time counts from
(after a return of port P still that start: log 20), `due` the due time: all in tenths. -/
structure PollEntry where
  addr : Nat
  role : PollRole
  interval : Nat
  present : Bool
  misses : Nat
  lastAnswer : Nat
  due : Nat
  start : Option Nat
  base : Nat
deriving DecidableEq, Repr, Inhabited

/-- The stored part of a poll-list entry (R174). -/
structure PollCfg where
  addr : Nat
  isValve : Bool
  interval : Nat
deriving DecidableEq, Repr, Inhabited

/-- The kinds of exchange (R160): a poll of a slot, a command to a slot's valve with the position it carries, or a relayed
telegram with the requester's segment. -/
inductive ExKind where
  | poll (slot : Nat)
  | valve (slot : Nat) (pos : ValvePos)
  | relay (requester : Room)
deriving DecidableEq, Repr, Inhabited

/-- The outstanding exchange (R160). `start` in tenths; `window` is the tick at which the response window opened. -/
structure Exchange where
  kind : ExKind
  node : Byte
  start : Nat
  attempt : Nat
  window : Option Nat
deriving DecidableEq, Repr, Inhabited

/-- The scheduler's counters (R169), in the order of its table. -/
structure SchedCounters where
  pollSent : Nat := 0
  setSent : Nat := 0
  retry : Nat := 0
  answered : Nat := 0
  badReport : Nat := 0
  miss : Nat := 0
  stray : Nat := 0
  relayNoReply : Nat := 0
deriving DecidableEq, Repr, Inhabited

/-- The poll scheduler. `rr` is the slot of the last poll served (R161). `wake` is the model's own: an arbitration event of
R161 occurred in the command being run (log 14). -/
structure Scheduler where
  slots : List (Option PollEntry)
  relayList : List (Telegram × Room) := []
  exch : Option Exchange := none
  rr : Nat := 11
  wake : Bool := false
  ctr : SchedCounters := {}
deriving DecidableEq, Repr, Inhabited

/-! ### Level filter (chapter 4) -/

/-- What the gauge measures (R71). -/
inductive Sense where
  | head
  | ullage
deriving DecidableEq, Repr, Inhabited

/-- Status of the level record (R78). -/
inductive LevelStatus where
  | none
  | valid
  | stale
  | fault
deriving DecidableEq, Repr, Inhabited

/-- The level filter's settings (R72, R73, R76). -/
structure LevelSet where
  sense : Sense
  zero : Nat
  gain : Nat
  tankHeight : Nat
  slew : Nat
  windowN : Nat
  order : Nat
deriving DecidableEq, Repr, Inhabited

/-- A completed box or a filter output: a depth and an optional temperature (R75, R76). -/
structure Box where
  depth : Nat
  temp : Option Int
deriving DecidableEq, Repr, Inhabited

/-- The partial box (R75): sums, count, and the mark of a sample without a temperature. -/
structure PartialBox where
  depthSum : Nat := 0
  tempSum : Int := 0
  count : Nat := 0
  mark : Bool := false
deriving DecidableEq, Repr, Inhabited

/-- The level filter's counters (R86), in the order of its table. -/
structure LevelCounters where
  badSample : Nat := 0
  sensorFault : Nat := 0
  range : Nat := 0
  spike : Nat := 0
  stepRestart : Nat := 0
  held : Nat := 0
  published : Nat := 0
deriving DecidableEq, Repr, Inhabited

/-- The level filter and the level record (R78). SERVICE is in the hold-cause set while `serviceFrom`, the second of the
last HOLD-TANK on, is present (R79, R82); `staleFrom` is the second from which the stale timer runs (R83). -/
structure Level where
  set : LevelSet
  box : PartialBox := {}
  prev : Option Box := none
  ref : Option Nat := none
  spikeRun : Nat := 0
  faultRun : Nat := 0
  depth : Option Nat := none
  temp : Option Int := none
  time : Nat := 0
  status : LevelStatus := .none
  burnerStart : Bool := false
  serviceFrom : Option Nat := none
  staleFrom : Option Nat := none
  ctr : LevelCounters := {}
deriving DecidableEq, Repr, Inhabited

/-! ### Volume unit (chapter 5) -/

/-- A strapping point (R88). -/
structure Point where
  depth : Nat
  vol : Nat
deriving DecidableEq, Repr, Inhabited

/-- A strapping bank (R88): the point count and 32 positions. -/
structure Bank where
  n : Nat
  points : List Point
deriving DecidableEq, Repr, Inhabited

/-- Range flag (R93). -/
inductive RangeFlag where
  | below
  | above
  | none
deriving DecidableEq, Repr, Inhabited

/-- The published volume record (R97). -/
structure VolRecord where
  v : Nat
  v15 : Nat
  space : Nat
  flag : RangeFlag
  time : Nat
deriving DecidableEq, Repr, Inhabited

/-- A stage of the history chain (R100). -/
structure Stage where
  v15 : Nat
  time : Nat
deriving DecidableEq, Repr, Inhabited

/-- The volume unit. `activeB` says that bank B is ACTIVE. The chain is newest first; absent stages are not listed. -/
structure Volume where
  bankA : Bank
  bankB : Bank
  activeB : Bool := false
  coef : Nat
  record : Option VolRecord := none
  chain : List Stage := []
deriving DecidableEq, Repr, Inhabited

/-! ### Accounting unit (chapter 6) -/

/-- The accounting settings. -/
structure AcctSet where
  reserveLevel : Nat
  emptyLevel : Nat
  hyst : Nat
  nozzleRate : Nat
  period : Nat
  tolFixed : Nat
  tolPct : Nat
  delivMin : Nat
deriving DecidableEq, Repr, Inhabited

/-- Why a period was skipped (R112). -/
inductive SkipReason where
  | swap
  | scaling
  | forget
deriving DecidableEq, Repr, Inhabited

/-- The open period (R110). Its skip reason is recorded in the closed record, since the event that gives one ends it. -/
structure Period where
  start : Nat
  startV15 : Nat
  burn : Nat
  delivery : Bool
deriving DecidableEq, Repr, Inhabited

/-- Outcome of a period (R113). -/
inductive PeriodOutcome where
  | skipped
  | delivery
  | overdraw
  | underdraw
  | balanced
deriving DecidableEq, Repr, Inhabited

/-- A closed period record (R114). -/
structure PeriodRecord where
  start : Nat
  stop : Nat
  startV15 : Nat
  endV15 : Option Nat
  burn : Nat
  drop : Option Int
  discrepancy : Option Int
  outcome : PeriodOutcome
  skip : Option SkipReason
deriving DecidableEq, Repr, Inhabited

/-- Why a delivery record closed (R117). -/
inductive CloseReason where
  | settled
  | timeout
  | truncated
deriving DecidableEq, Repr, Inhabited

/-- A delivery record (R117); it is open while `reason` is absent. -/
structure DeliveryRecord where
  start : Nat
  startV15 : Nat
  openTime : Nat
  settle : Nat
  stop : Option Nat
  endV15 : Option Nat
  delivered : Option Int
  reason : Option CloseReason
deriving DecidableEq, Repr, Inhabited

/-- The accounting unit. Both logs are oldest first. -/
structure Accounting where
  set : AcctSet
  tank : TankState := .unknown
  accum : Nat := 0
  residue : Nat := 0
  period : Option Period := none
  periods : List PeriodRecord := []
  leak : Nat := 0
  deliveries : List DeliveryRecord := []
  lastH0 : Option Stage := none
deriving DecidableEq, Repr, Inhabited

/-! ### Management unit and non-volatile memory (chapter 10) -/

/-- The content of the settings store (R174). -/
structure StoreImage where
  enrol : List (Option Enrolment)
  table : List ZoneEntry
  setback : Nat
  poll : List (Option PollCfg)
  bank : Bank
  level : LevelSet
  coef : Nat
  acct : AcctSet
  burner : BurnerSet
  recovery : RecoverySet
  relay : RelaySet
  mask : Word16
deriving DecidableEq, Repr, Inhabited

/-- The STORE in progress (R175): none, waiting for the memory, or writing the content taken; with its requester. -/
inductive StoreJob where
  | none
  | waiting (room : Room) (src : Byte) (idx : Byte)
  | writing (room : Room) (src : Byte) (idx : Byte) (content : StoreImage)
deriving DecidableEq, Repr, Inhabited

/-- The management unit. `events` holds the event kinds of the pending set; the condition kinds are computed (log 13).
`line` is the NOTICE line, asserted; `repeatFrom` is the tick from which the 30 s repeat timer runs. `restart` says that a
RESTART waits. -/
structure Management where
  mask : Word16
  events : Word16 := 0
  line : Bool := false
  repeatFrom : Option Nat := none
  badRequest : Nat := 0
  storeOk : Bool := true
  job : StoreJob := .none
  restart : Bool := false
deriving DecidableEq, Repr, Inhabited

/-- Non-volatile memory: the settings store and the safety record, each absent when its check fails (R65, R174); the safety
write in progress with the content it writes, and whether one waits (R65, R175). -/
structure NonVolatile where
  store : Option StoreImage
  safety : Option SafetyRecord
  writing : Option SafetyRecord := none
  waiting : Bool := false
deriving DecidableEq, Repr, Inhabited

end Sys2Proof.Machine
end

