-- ==== Sys2Proof/Machine/Factory.lean ====
section
/-! DEFINITION. The fixed values of the introduction's parameter summary, the factory content of the stores, and what each
block holds after a reset, given the settings it loads. -/

namespace Sys2Proof.Machine

/-! ### The timebase (log 1) -/

/-- Ticks of 0.1 ms in a second. -/
def ticksPerSecond : Nat := 10000
/-- Ticks in a tenth of a second. -/
def ticksPerTenth : Nat := 1000
/-- Ticks in a millisecond. -/
def ticksPerMs : Nat := 10
/-- The last uptime second (00, "Quantities"). -/
def lastUptime : Nat := 4294967295

/-! ### Fixed settings (00, "Parameter summary") -/

/-- Startup grace, seconds (R13). -/
def startupGrace : Nat := 120
/-- START_WINDOW, tenths (R33). -/
def startWindowTenths : Nat := 1200
/-- RUN_SENSE debounce, tenths (R22). -/
def runStable : Nat := 5
/-- LOCKOUT_SENSE debounce, tenths (R22). -/
def lockoutStable : Nat := 20
/-- COLD_BASE, seconds (R51). -/
def coldBase : Nat := 1800
/-- Confirmation time, tenths (R57). -/
def confirmTenths : Nat := 100
/-- PROVING_TIME, tenths (R58). -/
def provingTenths : Nat := 1200
/-- STALE_TIME, seconds (R83). -/
def staleTime : Nat := 600
/-- Expiry of the SERVICE hold, seconds (R82). -/
def serviceHoldTime : Nat := 3600
/-- DELIV_SETTLE, dL (R118). -/
def delivSettle : Nat := 50
/-- Timeout of an open delivery record, seconds (R118). -/
def deliveryTimeoutTime : Nat := 3600
/-- VALVE_TRAVEL, tenths (R159). -/
def valveTravelTenths : Nat := 900
/-- Poll interval of an ABSENT entry, tenths (R162). -/
def absentIntervalTenths : Nat := 600
/-- Poll interval of a valve that has not reached its desired position, tenths (R162). -/
def travelIntervalTenths : Nat := 20
/-- Response window, ticks: 400 ms (R160). -/
def windowTicks : Nat := 400 * ticksPerMs
/-- End of a telegram, ticks: 8 ms of idle line (R122). -/
def endIdleTicks : Nat := 8 * ticksPerMs
/-- Quiet wait, ticks: 10 ms (R132). -/
def quietTicks : Nat := 10 * ticksPerMs
/-- Backoff slot and P retry pause, ticks: 10 ms (R134, R136). -/
def slotTicks : Nat := 10 * ticksPerMs
/-- Break, ticks: 100 ms (R129). -/
def breakTicks : Nat := 100 * ticksPerMs
/-- Return from break, ticks: 1 s (R130). -/
def returnTicks : Nat := ticksPerSecond
/-- NOTICE repeat, ticks: 30 s (R177). -/
def noticeRepeatTicks : Nat := 30 * ticksPerSecond
/-- Hold-off repeat, ticks: 20 s (R139). -/
def holdOffRepeatTicks : Nat := 20 * ticksPerSecond
/-- Transmit queue capacity (R131). -/
def queueCap : Nat := 8
/-- Buffers of the pool (R137). -/
def poolSize : Nat := 32
/-- H and Y receive take a buffer only while more than this many are free (R126). -/
def receiveReserve : Nat := 2
/-- The pool enters HELD at this free count or less (R139). -/
def holdThreshold : Nat := 6
/-- The pool enters OPEN at this free count or more (R139). -/
def openThreshold : Nat := 14
/-- Relay list capacity (R154). -/
def relayListCap : Nat := 4
/-- Characters that a buffer holds (R126). -/
def bufferChars : Nat := 22

/-! ### Factory content (R2, R88, R174; 00, "Parameter summary") -/

/-- The factory entry of a zone-table entry, with the class of zone 0 or of the others (R2). -/
def factoryZone (cls : ZoneClass) : ZoneEntry :=
  { cls := cls, mode := .group, lead := none, setpoint := 180, ceiling := 240, frost := 50, diff := 5, duty := 15,
    valve := none }

/-- The factory zone table (R2). -/
def factoryTable : List ZoneEntry := factoryZone .essential :: List.replicate 7 (factoryZone .unused)

/-- The factory strapping bank (R88). -/
def factoryBank : Bank :=
  { n := 2, points := ⟨0, 0⟩ :: ⟨12000, 25000⟩ :: List.replicate 30 ⟨0, 0⟩ }

/-- Bits 0 to 14: all kinds (R125, R174). -/
def allKinds : Word16 := 0x7FFF

/-- The factory value of every stored item (R174). -/
def factoryImage : StoreImage :=
  { enrol := List.replicate 16 none
    table := factoryTable
    setback := 30
    poll := List.replicate 12 none
    bank := factoryBank
    level := { sense := .head, zero := 0, gain := 4096, tankHeight := 12000, slew := 200, windowN := 8, order := 2 }
    coef := 900
    acct := { reserveLevel := 3000, emptyLevel := 800, hyst := 500, nozzleRate := 2270, period := 6, tolFixed := 400,
              tolPct := 5, delivMin := 1000 }
    burner := { minOn := 240, minOff := 180, pumpOverrun := 120, holdExtend := 30 }
    recovery := { retryBase := 120, cap := 3840, window := 86400, budget := 3, resetWidth := 10, waxTemp := 0 }
    relay := { ageLimit := 600, nodeCap := 12, bcastCap := 20 }
    mask := allKinds }

/-- The safety record the part leaves the factory with (R65). -/
def factorySafety : SafetyRecord := { flag := false, episode := 0, cause := .unknown, history := [] }

/-! ### What each block holds after a reset -/

/-- Relay unit after reset (R157). -/
def relayAfterReset (img : StoreImage) : Relay := { set := img.relay, nodes := List.replicate 24 none }

/-- Zone unit after reset (R21). -/
def zoneAfterReset (img : StoreImage) : ZoneUnit :=
  { enrol := img.enrol, table := img.table, setback := img.setback,
    states := img.table.map fun z => if z.cls = .unused then .unused else .waiting }

/-- A debounce stage after reset (R22): the value is inactive, and the timer runs from 0 if the raw input is active. -/
def debounceAfterReset (raw : Bool) : Debounce := { raw := raw, value := false, timer := if raw then some 0 else none }

/-- Burner supervisor after reset (R43), with the raw inputs as they stand. -/
def supervisorAfterReset (img : StoreImage) (runRaw lockoutRaw : Bool) : Supervisor :=
  { set := img.burner, run := debounceAfterReset runRaw, lockout := debounceAfterReset lockoutRaw }

/-- The valve record of a new entry or of a loaded one (R159). -/
def newValve (now : Nat) : ValveRecord :=
  { desired := .closed, since := now, pending := true, reported := .unknown, fault := false, travel := true }

/-- A loaded poll-list entry (R158): as if last served at uptime 0, due at the interval that R162 selects. -/
def loadPollEntry (c : PollCfg) : PollEntry :=
  { addr := c.addr
    role := if c.isValve then .valve (newValve 0) else .gauge
    interval := c.interval
    present := true
    misses := 0
    lastAnswer := 0
    due := if c.isValve then travelIntervalTenths else c.interval * 10
    start := some 0
    base := 0 }

/-- Poll scheduler after reset (R169). -/
def schedAfterReset (img : StoreImage) : Scheduler := { slots := img.poll.map (Option.map loadPollEntry) }

/-- Whether the stored poll list holds a TANK_GAUGE entry (R83). -/
def storedGauge (img : StoreImage) : Bool := img.poll.any fun o => o.any fun c => !c.isValve

/-- Level filter after reset (R87). -/
def levelAfterReset (img : StoreImage) : Level :=
  { set := img.level, staleFrom := if storedGauge img then some 0 else none }

/-- Volume unit after reset (R102). -/
def volumeAfterReset (img : StoreImage) : Volume := { bankA := img.bank, bankB := img.bank, coef := img.coef }

/-- Accounting unit after reset (R119). -/
def accountingAfterReset (img : StoreImage) : Accounting := { set := img.acct }

/-- The oldest `n` AUTOMATIC entries become LAPSED (R54). -/
def lapseOldest : Nat → List HistEntry → List HistEntry
  | 0, es => es
  | _ + 1, [] => []
  | n + 1, e :: es =>
    if e.kind = .automatic then { e with kind := .lapsed } :: lapseOldest n es else e :: lapseOldest (n + 1) es

/-- C, the number of AUTOMATIC entries (R54). -/
def autoCount (es : List HistEntry) : Nat := (es.filter fun e => e.kind = .automatic).length

/-- Lapse the oldest AUTOMATIC entries until C is at most BUDGET (R54). -/
def lapseToBudget (budget : Nat) (es : List HistEntry) : List HistEntry := lapseOldest (autoCount es - budget) es

/-- A restored history entry (R66): time 0, and PENDING becomes NOT_CLEARED. -/
def restoreEntry (e : HistEntry) : HistEntry :=
  { e with time := 0, outcome := if e.outcome = .pending then .notCleared else e.outcome }

/-- The restored reset history (R66). -/
def restoreHistory (budget : Nat) (es : List HistEntry) : List HistEntry := lapseToBudget budget (es.map restoreEntry)

/-- Recovery unit after reset, restored from the safety record, absent when its check fails (R66, R67). -/
def recoveryAfterReset (img : StoreImage) : Option SafetyRecord → Recovery
  | none =>
    { set := img.recovery, state := .hardLock, episode := some { number := 0, k := 1, cause := .unknown }, counter := 0,
      safe := { flag := true, episode := 0, cause := .unknown, history := [] } }
  | some r =>
    let history := restoreHistory img.recovery.budget r.history
    let safe := { r with history := history }
    if r.flag then
      { set := img.recovery, state := .hardLock, episode := some { number := r.episode, k := 1, cause := r.cause },
        counter := r.episode, safe := safe }
    else
      { set := img.recovery, counter := (history.getLast?.map (·.episode)).getD 0, safe := safe }

end Sys2Proof.Machine
end

