-- ==== Sys2Proof/Machine/State.lean ====
section
/-! DEFINITION. The machine's state: everything the spec gives the BX40, as plain data; the reasons a step can stop; and the
state right after reset. -/

namespace Sys2Proof.Machine

/-- The state of the BX40 and the queue of waiting commands. -/
structure State where
  /-- ticks of 0.1 ms since the last reset (log 1) -/
  now : Nat
  /-- port H -/
  portH : PortState
  /-- port Y -/
  portY : PortState
  /-- port P -/
  portP : PortState
  /-- buffer pool -/
  pool : Pool
  /-- relay unit with the node table -/
  relay : Relay
  /-- zone unit -/
  zone : ZoneUnit
  /-- burner supervisor -/
  sup : Supervisor
  /-- recovery unit -/
  recov : Recovery
  /-- poll scheduler -/
  sched : Scheduler
  /-- level filter -/
  level : Level
  /-- volume unit -/
  vol : Volume
  /-- accounting unit -/
  acct : Accounting
  /-- management unit -/
  mgmt : Management
  /-- non-volatile memory -/
  nv : NonVolatile
  /-- the model's own: how many free values have been drawn (log 6) -/
  freeIdx : Nat
  /-- the commands that wait, first in, first out -/
  pending : List Instr
deriving DecidableEq, Repr

/-- Why the machine stops. The part itself has no fault that stops it. -/
inductive Fault where
  /-- Raised by `step` alone, when the clock would pass the last uptime second, 4,294,967,295: the spec gives uptime no value
  beyond it. Safe: the model stops where the part would go on in a way the spec does not state (log 1). -/
  | uptimeRangeEnded
deriving DecidableEq, Repr

/-- Why a command is refused. No meaning refuses. -/
inductive Refusal where
  /-- Raised by an arm of `exec` whose command has no meaning yet. Safe. No arm raises it. -/
  | notModelled (mnemonic : String)
deriving DecidableEq, Repr

/-- The machine right after reset: a part with the factory settings store and safety record (log 4), raw inputs inactive and
lines idle (log 5), every block as its chapter's after-reset table says (R21, R43, R66, R67, R87, R102, R119, R141, R157,
R169, R178), and no command waiting. -/
def State.reset : State :=
  { now := 0
    portH := {}
    portY := {}
    portP := {}
    pool := {}
    relay := relayAfterReset factoryImage
    zone := zoneAfterReset factoryImage
    sup := supervisorAfterReset factoryImage false false
    recov := recoveryAfterReset factoryImage (some factorySafety)
    sched := schedAfterReset factoryImage
    level := levelAfterReset factoryImage
    vol := volumeAfterReset factoryImage
    acct := accountingAfterReset factoryImage
    mgmt := { mask := factoryImage.mask }
    nv := { store := some factoryImage, safety := some factorySafety }
    freeIdx := 0
    pending := [] }

end Sys2Proof.Machine
end

