-- ==== Sys2Proof/Machine/Telegram.lean ====
section
/-! DEFINITION. Characters and telegrams on the line (R121 to R124): parity, framing, CHECK, the order of the fields, and the
kind codes. -/

namespace Sys2Proof.Machine

/-! ### Characters (R121) -/

/-- The number of 1s among the data bits. -/
def ones (b : Byte) : Nat := ((List.range 8).filter fun i => b.getLsbD i).length

/-- The parity bit that makes the number of 1s even. -/
def parityOf (b : Byte) : Bool := ones b % 2 = 1

/-- A parity error: data and parity bits together do not hold an even number of 1s. -/
def parityError (c : RxChar) : Bool := c.parity != parityOf c.data

/-- A framing error: the stop bit was sampled active. -/
def framingError (c : RxChar) : Bool := !c.stop

/-- The eleven levels of a character in the order sent, `true` for idle: start bit, data bits least significant first,
parity bit, stop bit. -/
def charLevels (b : Byte) : List Bool :=
  false :: (List.range 8).map (fun i => b.getLsbD i) ++ [parityOf b, true]

/-- A character that arrives without an error. -/
def cleanChar (b : Byte) : RxChar := { data := b, parity := parityOf b, stop := true }

/-! ### CHECK (R123) -/

/-- One shift of the running value: left by one place, adding 1021 hex when the bit shifted out was 1. -/
def crcShift (v : Word16) : Word16 := if v.msb then (v <<< 1) ^^^ 0x1021 else v <<< 1

/-- `n` shifts. -/
def crcShifts : Nat → Word16 → Word16
  | 0, v => v
  | n + 1, v => crcShifts n (crcShift v)

/-- One byte: added into the high eight bits, then eight shifts. -/
def crcByte (v : Word16) (b : Byte) : Word16 := crcShifts 8 (v ^^^ ((b.zeroExtend 16) <<< 8))

/-- CHECK over the bytes in the order sent, from FFFF hex. -/
def checkOf (bs : List Byte) : Word16 := bs.foldl crcByte 0xFFFF

/-! ### Telegrams (R122) -/

/-- The LEN field. -/
def Telegram.len (t : Telegram) : Byte := BitVec.ofNat 8 t.payload.length

/-- The bytes that CHECK covers: DEST, SRC, KIND, LEN and the payload. -/
def Telegram.body (t : Telegram) : List Byte := t.dest :: t.src :: t.kind :: t.len :: t.payload

/-- The characters of a telegram in the order sent. -/
def Telegram.wire (t : Telegram) : List Byte := t.body ++ beBytes 2 t.check.toNat

/-- A telegram that the BX40 composes: SRC 0 and CHECK computed (R122, R123). -/
def composeTel (dest kind : Byte) (payload : List Byte) : Telegram :=
  let t : Telegram := { dest := dest, src := 0, kind := kind, payload := payload, check := 0 }
  { t with check := checkOf t.body }

/-- The telegram that stands in received bytes whose count fits their LEN field. -/
def parseTel (bs : List Byte) : Telegram :=
  let n := (bs.getD 3 0).toNat
  { dest := bs.getD 0 0
    src := bs.getD 1 0
    kind := bs.getD 2 0
    payload := (bs.drop 4).take n
    check := BitVec.ofNat 16 (ofBytes ((bs.drop (4 + n)).take 2)) }

/-! ### Kind codes (R124) -/

/-- DEMAND -/
def kindDemand : Byte := 0x11
/-- STATUS -/
def kindStatus : Byte := 0x12
/-- POLL -/
def kindPoll : Byte := 0x20
/-- SAMPLE -/
def kindSample : Byte := 0x21
/-- VALVE_SET -/
def kindValveSet : Byte := 0x22
/-- VALVE_REPORT -/
def kindValveReport : Byte := 0x23
/-- HOLD_OFF -/
def kindHoldOff : Byte := 0x30
/-- NOTICE -/
def kindNotice : Byte := 0x31
/-- MGMT_REQ -/
def kindMgmtReq : Byte := 0x40
/-- MGMT_RSP -/
def kindMgmtRsp : Byte := 0x41

/-- The broadcast address (00, "Addresses"). -/
def broadcast : Byte := 127

/-- A HOLD_OFF of `seconds` (R124). -/
def holdOffTel (dest : Byte) (seconds : Nat) : Telegram := composeTel dest kindHoldOff (beBytes 1 seconds)

/-- The kinds that only the BX40 sends (R151, first test). -/
def ownKind (k : Byte) : Bool :=
  k = kindStatus || k = kindPoll || k = kindValveSet || k = kindHoldOff || k = kindNotice

end Sys2Proof.Machine
end

