-- ==== Sys2Proof/Machine/Ops.lean ====
section
/-! DEFINITION. The named operations over the state: one setter per block, the clock, the ports, the buffer pool with its
hold-off (R137 to R139), and the offering of telegrams to transmit queues (R131). -/

namespace Sys2Proof.Machine

/-! ### Setters: the state with one block replaced -/

/-- Replace the clock. -/
def State.setNow (s : State) (v : Nat) : State := { s with now := v }
/-- Replace port H. -/
def State.setPortH (s : State) (v : PortState) : State := { s with portH := v }
/-- Replace port Y. -/
def State.setPortY (s : State) (v : PortState) : State := { s with portY := v }
/-- Replace port P. -/
def State.setPortP (s : State) (v : PortState) : State := { s with portP := v }
/-- Replace the pool. -/
def State.setPool (s : State) (v : Pool) : State := { s with pool := v }
/-- Replace the relay unit. -/
def State.setRelay (s : State) (v : Relay) : State := { s with relay := v }
/-- Replace the zone unit. -/
def State.setZone (s : State) (v : ZoneUnit) : State := { s with zone := v }
/-- Replace the supervisor. -/
def State.setSup (s : State) (v : Supervisor) : State := { s with sup := v }
/-- Replace the recovery unit. -/
def State.setRecov (s : State) (v : Recovery) : State := { s with recov := v }
/-- Replace the poll scheduler. -/
def State.setSched (s : State) (v : Scheduler) : State := { s with sched := v }
/-- Replace the level filter. -/
def State.setLevel (s : State) (v : Level) : State := { s with level := v }
/-- Replace the volume unit. -/
def State.setVol (s : State) (v : Volume) : State := { s with vol := v }
/-- Replace the accounting unit. -/
def State.setAcct (s : State) (v : Accounting) : State := { s with acct := v }
/-- Replace the management unit. -/
def State.setMgmt (s : State) (v : Management) : State := { s with mgmt := v }
/-- Replace non-volatile memory. -/
def State.setNv (s : State) (v : NonVolatile) : State := { s with nv := v }
/-- Replace the free-value counter. -/
def State.setFreeIdx (s : State) (v : Nat) : State := { s with freeIdx := v }
/-- Replace the queue of commands. -/
def State.setPending (s : State) (v : List Instr) : State := { s with pending := v }

/-! ### The clock (00, "Uptime, timers and windows"; log 1) -/

/-- Uptime in whole seconds. -/
def State.sec (s : State) : Nat := s.now / ticksPerSecond

/-- Uptime in tenths of a second, truncated. -/
def State.tenths (s : State) : Nat := s.now / ticksPerTenth

/-- Whether a timer that runs from `start`, if it runs at all, has run for `len` at `now` (all in one unit). -/
def ranOut (start : Option Nat) (len now : Nat) : Bool := start.any fun t => decide (t + len ≤ now)

/-- The time that a running timer has left. -/
def timeLeft (start : Option Nat) (len now : Nat) : Option Nat := start.map fun t => t + len - now

/-! ### Ports -/

/-- The room segment's port. -/
def roomPort : Room → Port
  | .h => .h
  | .y => .y

/-- The other room segment. -/
def otherRoom : Room → Room
  | .h => .y
  | .y => .h

/-- One port's state. -/
def State.port (s : State) : Port → PortState
  | .h => s.portH
  | .y => s.portY
  | .p => s.portP

/-- Replace one port's state. -/
def State.setPort (s : State) (port : Port) (v : PortState) : State :=
  match port with
  | .h => s.setPortH v
  | .y => s.setPortY v
  | .p => s.setPortP v

/-- Change one port's state. -/
def State.modPort (s : State) (port : Port) (f : PortState → PortState) : State := s.setPort port (f (s.port port))

/-- Change one port's counters. -/
def State.countPort (s : State) (port : Port) (f : PortCounters → PortCounters) : State :=
  s.modPort port fun q => { q with ctr := f q.ctr }

/-! ### Offering telegrams to a queue (R131) -/

/-- Offer a telegram to a port's queue: it joins the tail, or is dropped as QUEUE_FULL or, in BREAK, FLUSHED. The answer
says whether it joined; its buffer is not returned here. -/
def offerItem (port : Port) (it : QItem) (s : State) : State × Bool :=
  let q := s.port port
  match q.mode with
  | .broken => (s.countPort port fun c => { c with flushed := bump c.flushed }, false)
  | .active =>
    if q.queue.length < queueCap then (s.setPort port { q with queue := q.queue ++ [it] }, true)
    else (s.countPort port fun c => { c with queueFull := bump c.queueFull }, false)

/-! ### The pool (R137 to R139) -/

/-- Set the free count and nothing else. -/
def setFree (n : Nat) (s : State) : State := s.setPool { s.pool with free := n }

/-- Count GEN_DROPPED (R138). -/
def countGenDropped (s : State) : State := s.setPool { s.pool with genDropped := bump s.pool.genDropped }

/-- Compose a telegram without a look at the pool's thresholds: only for the hold-offs that a threshold itself causes, which
cross none (R139). -/
def generateRaw (port : Port) (t : Telegram) (s : State) : State :=
  if s.pool.free = 0 then countGenDropped s
  else
    match offerItem port { tel := t, mark := .plain } (setFree (s.pool.free - 1) s) with
    | (s', true) => s'
    | (s', false) => setFree (s'.pool.free + 1) s'

/-- The pool's broadcast HOLD_OFF for H and for Y (R139). -/
def broadcastHoldOff (seconds : Nat) (s : State) : State :=
  generateRaw .y (holdOffTel broadcast seconds) (generateRaw .h (holdOffTel broadcast seconds) s)

/-- The pool enters HELD (R139). -/
def enterHeld (s : State) : State :=
  broadcastHoldOff 30
    (s.setPool { s.pool with held := true, holdEntry := bump s.pool.holdEntry, repeatFrom := some s.now })

/-- The pool enters OPEN (R139). -/
def enterOpen (s : State) : State := broadcastHoldOff 0 (s.setPool { s.pool with held := false, repeatFrom := none })

/-- Take a free buffer; the free count's fall may put the pool in HELD (R139, log 12). -/
def takeBuffer (s : State) : State :=
  let s := setFree (s.pool.free - 1) s
  if !s.pool.held && decide (s.pool.free ≤ holdThreshold) then enterHeld s else s

/-- Return a buffer; the free count's rise may put the pool in OPEN (R139, log 12). -/
def returnBuffer (s : State) : State :=
  let s := setFree (s.pool.free + 1) s
  if s.pool.held && decide (openThreshold ≤ s.pool.free) then enterOpen s else s

/-- Return `n` buffers one after another. -/
def returnBuffers : Nat → State → State
  | 0, s => s
  | n + 1, s => returnBuffers n (returnBuffer s)

/-- A generator composes a telegram and offers it (R138): with no free buffer it is not made and GEN_DROPPED is counted;
dropped on offer, its buffer returns. The answer says whether it joined the queue. -/
def generate (port : Port) (t : Telegram) (mark : QMark) (s : State) : State × Bool :=
  if s.pool.free = 0 then (countGenDropped s, false)
  else
    match offerItem port { tel := t, mark := mark } (takeBuffer s) with
    | (s', true) => (s', true)
    | (s', false) => (returnBuffer s', false)

/-- Move a buffer already held to a queue; dropped on offer, it returns (R131, R154, R155). -/
def moveToQueue (port : Port) (t : Telegram) (mark : QMark) (s : State) : State × Bool :=
  match offerItem port { tel := t, mark := mark } s with
  | (s', true) => (s', true)
  | (s', false) => (returnBuffer s', false)

/-- The head leaves the queue: the next telegram becomes the head with its attempt count at 0, waiting for a quiet line, and
the buffer returns (R131). -/
def dropHead (port : Port) (s : State) : State :=
  returnBuffer (s.modPort port fun q => { q with queue := q.queue.drop 1, phase := .wait, attempts := 0 })

end Sys2Proof.Machine
end

