-- ==== Sys2Proof/Machine/Flags.lean ====
section
/-! DEFINITION. The notices (R125, R176, R177): the fifteen kinds and their bits, the pending and enabled sets, the NOTICE
line and telegram. The event kinds of the pending set are stored; the condition kinds are computed from the blocks that own
them, so that a condition kind is pending exactly while its condition holds (log 13). -/

namespace Sys2Proof.Machine

/-- The notice kinds in the order of their bits (R125). -/
inductive Notice where
  | lockout
  | delivery
  | leakSuspect
  | startOverdue
  | configDefaulted
  | storeFault
  | hardLock
  | reserve
  | empty
  | levelStale
  | segmentBreak
  | zoneBlind
  | frost
  | nodeAbsent
  | valveFault
deriving DecidableEq, Repr, Inhabited

/-- The bit of a kind (R125). -/
def Notice.bit : Notice → Nat
  | .lockout => 0
  | .delivery => 1
  | .leakSuspect => 2
  | .startOverdue => 3
  | .configDefaulted => 4
  | .storeFault => 5
  | .hardLock => 6
  | .reserve => 7
  | .empty => 8
  | .levelStale => 9
  | .segmentBreak => 10
  | .zoneBlind => 11
  | .frost => 12
  | .nodeAbsent => 13
  | .valveFault => 14

/-- The set that holds one kind. -/
def Notice.set (k : Notice) : Word16 := (1 : Word16) <<< k.bit

/-- The six event kinds, bits 0 to 5 (R176). -/
def eventKinds : Word16 := 0x003F

/-- One kind's set while its condition holds, else the empty set. -/
def condBit (c : Bool) (k : Notice) : Word16 := if c then k.set else 0

/-- HARD_LOCK (R68). -/
def hardLockCond (s : State) : Bool := s.recov.state = .hardLock
/-- RESERVE (R107). -/
def reserveCond (s : State) : Bool := s.acct.tank = .reserve
/-- EMPTY (R107). -/
def emptyCond (s : State) : Bool := s.acct.tank = .empty
/-- LEVEL_STALE: the level status is STALE or FAULT (R84). -/
def levelStaleCond (s : State) : Bool := s.level.status = .stale || s.level.status = .fault
/-- SEGMENT_BREAK: at least one port is in BREAK (R130). -/
def segmentBreakCond (s : State) : Bool :=
  s.portH.mode = .broken || s.portY.mode = .broken || s.portP.mode = .broken
/-- ZONE_BLIND: at least one zone is BLIND (R18). -/
def zoneBlindCond (s : State) : Bool := s.zone.states.contains .blind
/-- FROST: at least one zone is FROST (R18). -/
def frostCond (s : State) : Bool := s.zone.states.contains .frost
/-- NODE_ABSENT: at least one poll-list entry is ABSENT (R164). -/
def nodeAbsentCond (s : State) : Bool := s.sched.slots.any fun o => o.any fun e => !e.present
/-- A poll-list entry whose valve record has its fault flag set. -/
def entryFault (e : PollEntry) : Bool :=
  match e.role with
  | .gauge => false
  | .valve r => r.fault
/-- VALVE_FAULT: at least one valve record has its fault flag set (R166). -/
def valveFaultCond (s : State) : Bool := s.sched.slots.any fun o => o.any entryFault

/-- The condition kinds that hold. -/
def conditionSet (s : State) : Word16 :=
  condBit (hardLockCond s) .hardLock ||| condBit (reserveCond s) .reserve ||| condBit (emptyCond s) .empty |||
  condBit (levelStaleCond s) .levelStale ||| condBit (segmentBreakCond s) .segmentBreak |||
  condBit (zoneBlindCond s) .zoneBlind ||| condBit (frostCond s) .frost ||| condBit (nodeAbsentCond s) .nodeAbsent |||
  condBit (valveFaultCond s) .valveFault

/-- The notice pending set (R176). -/
def pendingSet (s : State) : Word16 := s.mgmt.events ||| conditionSet s

/-- The enabled set (R177). -/
def enabledSet (s : State) : Word16 := pendingSet s &&& s.mgmt.mask

/-- The NOTICE telegram: the enabled set, then the pending set (R124, R177). -/
def noticeTel (s : State) : Telegram :=
  composeTel broadcast kindNotice (beBytes 2 (enabledSet s).toNat ++ beBytes 2 (pendingSet s).toNat)

/-- Compose NOTICE for H and for Y (R177). -/
def composeNotices (s : State) : State :=
  (generate .y (noticeTel s) .plain (generate .h (noticeTel s) .plain s).1).1

/-- Bring the NOTICE line in step with the enabled set (R177): a change from empty asserts it, starts the repeat timer and
composes the telegrams; a change to empty releases it and stops the timer. -/
def settleNotices (s : State) : State :=
  if enabledSet s = 0 then s.setMgmt { s.mgmt with line := false, repeatFrom := none }
  else if s.mgmt.line then s
  else composeNotices (s.setMgmt { s.mgmt with line := true, repeatFrom := some s.now })

/-- An event notice occurs (R176): its kind enters the pending set, or is there already. -/
def raiseEvent (k : Notice) (s : State) : State :=
  settleNotices (s.setMgmt { s.mgmt with events := s.mgmt.events ||| k.set })

end Sys2Proof.Machine
end

