-- ==== Sys2Proof/Machine/Valves.lean ====
section
/-! DEFINITION. The poll list, the valve records and the arbitration of the P line (R158 to R162, R166). -/

namespace Sys2Proof.Machine

/-! ### The poll list -/

/-- Replace the poll list. -/
def setSlots (slots : List (Option PollEntry)) (s : State) : State := s.setSched { s.sched with slots := slots }

/-- Change the entry of a slot. -/
def modEntry (slot : Nat) (f : PollEntry → PollEntry) (s : State) : State :=
  setSlots (modifySlot s.sched.slots slot f) s

/-- Change the scheduler's counters. -/
def countSched (f : SchedCounters → SchedCounters) (s : State) : State :=
  s.setSched { s.sched with ctr := f s.sched.ctr }

/-- One of the arbitration events of R161 has occurred (log 14). -/
def wakeSched (s : State) : State := s.setSched { s.sched with wake := true }

/-- The valve record of an entry of role VALVE. -/
def PollEntry.valve? (e : PollEntry) : Option ValveRecord :=
  match e.role with
  | .gauge => none
  | .valve r => some r

/-- Whether the entry is the TANK_GAUGE. -/
def PollEntry.isGauge (e : PollEntry) : Bool :=
  match e.role with
  | .gauge => true
  | .valve _ => false

/-- Change the entry's valve record, if it has one. -/
def PollEntry.modValve (f : ValveRecord → ValveRecord) (e : PollEntry) : PollEntry :=
  match e.role with
  | .gauge => e
  | .valve r => { e with role := .valve (f r) }

/-- The slot of the VALVE entry with an address. -/
def valveSlot (s : State) (addr : Nat) : Option Nat :=
  findSlot (fun e => e.addr = addr && !e.isGauge) s.sched.slots

/-- The valve record of the VALVE entry with an address. -/
def valveAt (s : State) (addr : Nat) : Option ValveRecord :=
  (valveSlot s addr).bind fun i => (slotGet s.sched.slots i).bind PollEntry.valve?

/-- Whether the poll list holds an address. -/
def inPollList (s : State) (addr : Nat) : Bool := s.sched.slots.any fun o => o.any fun e => e.addr = addr

/-- Whether the poll list holds a TANK_GAUGE entry (R83). -/
def hasGauge (s : State) : Bool := s.sched.slots.any fun o => o.any PollEntry.isGauge

/-! ### Due times (R162) -/

/-- Whether the reported position is the desired one. -/
def matchesDesired : Reported → ValvePos → Bool
  | .closed, .closed => true
  | .opened, .opened => true
  | _, _ => false

/-- The interval that R162 selects for an entry, in tenths. -/
def intervalOf (e : PollEntry) : Nat :=
  if e.present then
    match e.role with
    | .gauge => e.interval * 10
    | .valve r => if matchesDesired r.reported r.desired then e.interval * 10 else travelIntervalTenths
  else absentIntervalTenths

/-- Decide the due time from the moment it counts from. -/
def decideDue (e : PollEntry) : PollEntry := { e with due := e.base + intervalOf e }

/-- Decide a slot's due time after a change of presence, reported or desired position; a due time now past makes the entry
due at once (R162). -/
def redecide (slot : Nat) (s : State) : State :=
  let s := modEntry slot decideDue s
  if (slotGet s.sched.slots slot).any fun e => decide (e.due ≤ s.tenths) then wakeSched s else s

/-! ### Valve records (R159, R166) -/

/-- The travel timer stops when reported and desired position are equal (R166). -/
def stopTravelIfThere (r : ValveRecord) : ValveRecord :=
  if matchesDesired r.reported r.desired then { r with travel := false } else r

/-- A change of the desired position, in the order of R159. -/
def changeDesired (pos : ValvePos) (now : Nat) (r : ValveRecord) : ValveRecord :=
  stopTravelIfThere { r with desired := pos, since := now, pending := true, travel := true }

/-- The supervisor writes a desired position; writing the position already desired changes nothing (R159). -/
def writeDesired (addr : Nat) (pos : ValvePos) (s : State) : State :=
  match valveSlot s addr with
  | none => s
  | some i =>
    match (slotGet s.sched.slots i).bind PollEntry.valve? with
    | none => s
    | some r =>
      if r.desired = pos then s
      else wakeSched (redecide i (modEntry i (PollEntry.modValve (changeDesired pos s.tenths)) s))

/-- The command of a slot's valve is set pending, with desired-since and the travel timer unchanged (R159). -/
def setPending (slot : Nat) (s : State) : State :=
  wakeSched (modEntry slot (PollEntry.modValve fun r => { r with pending := true }) s)

/-! ### Exchanges and arbitration (R160, R161) -/

/-- The byte of a position in VALVE_SET (R125). -/
def posByte : ValvePos → Byte
  | .closed => 0
  | .opened => 1

/-- The request of a poll or valve command to an address (R160). -/
def requestTel (kind : ExKind) (node : Byte) : Telegram :=
  match kind with
  | .valve _ pos => composeTel node kindValveSet [posByte pos]
  | _ => composeTel node kindPoll []

/-- Count a request sent (R169, log 19). -/
def countRequest (kind : ExKind) (s : State) : State :=
  match kind with
  | .valve _ _ => countSched (fun c => { c with setSent := bump c.setSent }) s
  | .poll _ => countSched (fun c => { c with pollSent := bump c.pollSent }) s
  | .relay _ => s

/-- The slot of the entry an exchange is with; a relay exchange is with none. -/
def ExKind.slot? : ExKind → Option Nat
  | .poll i => some i
  | .valve i _ => some i
  | .relay _ => none

/-- Begin a poll or valve command with the entry of a slot (R160, R161): the request takes a buffer and is offered to P;
with no free buffer no exchange begins. -/
def beginRequest (kind : ExKind) (slot : Nat) (e : PollEntry) (s : State) : State :=
  let node := BitVec.ofNat 8 e.addr
  match generate .p (requestTel kind node) .request s with
  | (s', false) => s'
  | (s', true) =>
    let s' := modEntry slot (fun e => { e with start := some s.tenths, base := s.tenths }) (countRequest kind s')
    s'.setSched { s'.sched with exch := some { kind := kind, node := node, start := s.tenths, attempt := 1, window := none } }

/-- Begin a relay exchange: the oldest relayed telegram's buffer moves to the P queue (R160, R167). -/
def beginRelay (t : Telegram) (requester : Room) (s : State) : State :=
  let s := s.setSched { s.sched with relayList := s.sched.relayList.drop 1 }
  match moveToQueue .p t .request s with
  | (s', false) => s'
  | (s', true) =>
    s'.setSched { s'.sched with
      exch := some { kind := .relay requester, node := t.dest, start := s.tenths, attempt := 1, window := none } }

/-- The pending valve command to take first: the oldest desired-since among PRESENT entries, then the lowest slot (R161). -/
def pickCommand (slots : List (Nat × Option PollEntry)) : Option (Nat × PollEntry × ValveRecord) :=
  slots.foldl
    (fun best ie =>
      match ie.2 with
      | none => best
      | some e =>
        match e.role with
        | .gauge => best
        | .valve r =>
          if r.pending && e.present then
            match best with
            | none => some (ie.1, e, r)
            | some (_, _, rb) => if r.since < rb.since then some (ie.1, e, r) else best
          else best)
    none

/-- The due poll to take: the first due entry from the slot after the last poll served round to that slot (R161). -/
def pickPoll (s : State) : Option (Nat × PollEntry) :=
  let order := (List.range s.sched.slots.length).map fun i => (s.sched.rr + 1 + i) % s.sched.slots.length
  order.findSome? fun i =>
    match slotGet s.sched.slots i with
    | some e => if e.due ≤ s.tenths then some (i, e) else none
    | none => none

/-- Choose and begin the next exchange (R161). -/
def chooseExchange (s : State) : State :=
  match pickCommand (numbered s.sched.slots) with
  | some (i, e, r) => beginRequest (.valve i r.desired) i e s
  | none =>
    match s.sched.relayList with
    | (t, room) :: _ => beginRelay t room s
    | [] =>
      match pickPoll s with
      | some (i, e) =>
        let s' := beginRequest (.poll i) i e s
        if s'.sched.exch.isSome then s'.setSched { s'.sched with rr := i } else s'
      | none => s

/-- Arbitrate, if an arbitration event occurred in the command being run: only while no exchange is outstanding and port P
is ACTIVE (R161, log 14). -/
def arbitrate (s : State) : State :=
  if s.sched.wake then
    let s := s.setSched { s.sched with wake := false }
    if s.sched.exch.isNone && s.portP.mode = .active then chooseExchange s else s
  else s

/-- The end of every command: the P line is arbitrated if need be, and the NOTICE line follows the enabled set. A NOTICE that
NODE_ABSENT or VALVE_FAULT causes thus takes its buffers after the next request on P (DESIGN CHOICE, log 13). -/
def finish (s : State) : State := settleNotices (arbitrate s)

/-- An event acts when its cause holds; otherwise it does not occur, and the state stays as it is (log 2). -/
def act (cause : Bool) (effect : State → State) (s : State) : Host.Outcome State Fault Refusal :=
  .next (if cause then finish (effect s) else s)

end Sys2Proof.Machine
end

