-- ==== Sys2Proof/Machine/Supervisor.lean ====
section
/-! DEFINITION. The burner supervisor (chapter 2): served set, path and valves, the state machine, CALL and PUMP, and the
timers. The events themselves are in Burner.lean. -/

namespace Sys2Proof.Machine

/-! ### Lines and timers -/

/-- CALL is asserted in CALLING, FIRING and HOLDING (R31). -/
def callAsserted (s : State) : Bool :=
  s.sup.state = .calling || s.sup.state = .firing || s.sup.state = .holding

/-- Min-off has elapsed: RUN is not active and MIN_OFF has passed since the reference (R39). It is measured with the value in
force at each test, so a write that raises MIN_OFF after the elapse makes it pending again (DESIGN CHOICE, log 28: R42 speaks of
running timers). -/
def minOffElapsed (s : State) : Bool :=
  !s.sup.rr.active && decide (s.sup.minOffRef + s.sup.set.minOff * 10 ≤ s.tenths)

/-- MIN_ON has passed since CALL rose (R35), by the value in force: a write that raises MIN_ON after the expiry makes it pending
again (DESIGN CHOICE, log 28). -/
def minOnPassed (s : State) : Bool := ranOut s.sup.minOn (s.sup.set.minOn * 10) s.tenths

/-- Take the present moment as the min-off reference (R39). -/
def markMinOff (s : State) : State := s.setSup { s.sup with minOffRef := s.tenths }

/-- Set or clear the BURNER_START hold cause (R41, R79). -/
def setBurnerStart (b : Bool) (s : State) : State := s.setLevel { s.level with burnerStart := b }

/-- The hold extension starts; with HOLD_EXTEND 0 the cause is cleared at this moment (R41). -/
def startHoldExtension (s : State) : State :=
  if s.sup.set.holdExtend = 0 then setBurnerStart false (s.setSup { s.sup with holdExt := none })
  else s.setSup { s.sup with holdExt := some s.tenths }

/-! ### Paths and sets (R27) -/

/-- The valve node of a zone. -/
def zoneValve (s : State) (z : Nat) : Option Nat := (s.zone.table[z]?).bind (·.valve)

/-- Whether a zone is in use. -/
def zoneInUse (s : State) (z : Nat) : Bool := (s.zone.table[z]?).any fun e => e.cls ≠ .unused

/-- A zone's circuit is open to boiler water: it has no valve node, or its valve last reported OPEN. -/
def heatPath (s : State) (z : Nat) : Bool :=
  match zoneValve s z with
  | none => true
  | some a => (valveAt s a).any fun r => r.reported = .opened

/-- The served set of a set of wanting zones (R27). -/
def servedOf (s : State) (wanting : List Nat) : List Nat := wanting.filter (heatPath s)

/-- A path exists (R27). -/
def pathExists (s : State) : Bool := (List.range s.zone.table.length).any fun z => zoneInUse s z && heatPath s z

/-! ### Valves (R28, R29) -/

/-- Write a zone's valve. -/
def writeZoneValve (pos : ValvePos) (z : Nat) (s : State) : State :=
  match zoneValve s z with
  | none => s
  | some a => writeDesired a pos s

/-- A wanting zone's valve is desired OPEN unless its fault flag is set (R28). -/
def openWanting (z : Nat) (s : State) : State :=
  match zoneValve s z with
  | none => s
  | some a => if (valveAt s a).any (·.fault) then s else writeDesired a .opened s

/-- Every zone of the held set is released and its valve closed (R29). -/
def releaseHeld (s : State) : State :=
  let s := forEach s.sup.heldSet (writeZoneValve .closed) s
  s.setSup { s.sup with heldSet := [] }

/-- PUMP becomes inactive, which releases the held set (R29, R40). -/
def dropPump (s : State) : State := releaseHeld (s.setSup { s.sup with pump := false, overrun := none })

/-- A zone has left the wanting-heat set: its valve is closed, or held as the last path (R29). `servedRest` says that the
served set without it is not empty. -/
def zoneLeaves (servedRest : Bool) (z : Nat) (s : State) : State :=
  match zoneValve s z with
  | none => s
  | some _ =>
    if servedRest || !s.sup.pump then writeZoneValve .closed z s
    else s.setSup { s.sup with heldSet := s.sup.heldSet ++ [z] }

/-! ### The state machine (R31 to R38) -/

/-- CALL drops and the supervisor enters `next` (R36). -/
def dropCall (next : SupState) (s : State) : State :=
  let s := s.setSup { s.sup with state := next, minOn := none, startWindow := none }
  let s := if s.sup.set.pumpOverrun = 0 then dropPump s else s.setSup { s.sup with overrun := some s.tenths }
  if s.sup.rr.seen then s else startHoldExtension (markMinOff s)

/-- The supervisor enters CALLING, and FIRING at once when RUN is already active (R33). -/
def enterCalling (s : State) : State :=
  let s := s.setSup { s.sup with
    state := .calling, pump := true, overrun := none, rr := { s.sup.rr with seen := false }, minOn := some s.tenths,
    startWindow := some s.tenths, holdExt := none }
  let s := setBurnerStart true s
  if s.sup.rr.active then
    startHoldExtension
      (s.setSup { s.sup with state := .firing, rr := { s.sup.rr with seen := true }, startWindow := none })
  else s

/-- The transitions that depend on the served set, the path and the timers, in the current state (R32, R35). -/
def testSupervisor (s : State) : State :=
  match s.sup.state with
  | .idle =>
    if s.sup.served.isEmpty then s
    else if minOffElapsed s then enterCalling s
    else s.setSup { s.sup with state := .waitOff }
  | .waitOff =>
    if s.sup.served.isEmpty then s.setSup { s.sup with state := .idle }
    else if minOffElapsed s then enterCalling s
    else s
  | .calling | .firing | .holding =>
    if !pathExists s then dropCall .idle s
    else if s.sup.served.isEmpty && minOnPassed s then dropCall .idle s
    else s
  | .locked | .inhibited => s

/-- Enter IDLE and test at once (R32). -/
def enterIdle (s : State) : State := testSupervisor (s.setSup { s.sup with state := .idle })

/-- Recompute the served set and the path, move the valves that depend on them, and take the transitions (R27 to R29). -/
def recompute (s : State) : State :=
  let s := s.setSup { s.sup with served := servedOf s s.sup.wanting }
  let s := if s.sup.served.isEmpty then s else releaseHeld s
  testSupervisor (forEach s.sup.wanting openWanting s)

/-- The zone unit hands over a new wanting-heat set (R16, R27, R29). -/
def takeWanting (wanting : List Nat) (s : State) : State :=
  let left := s.sup.wanting.filter fun z => !wanting.contains z
  let s := s.setSup { s.sup with wanting := wanting, heldSet := s.sup.heldSet.filter fun z => !wanting.contains z }
  recompute (forEach left (zoneLeaves (!(servedOf s wanting).isEmpty)) s)

/-- The zone unit hands over a changed valve node of zone `z` with the wanting-heat set as it now stands: the record no
longer named is closed, the zone leaves the held set, and the record newly named follows R28 and R29 (R30, log 26). -/
def takeValveNode (z : Nat) (old : Option Nat) (wanting : List Nat) (s : State) : State :=
  let s := match old with
    | none => s
    | some a => writeDesired a .closed s
  let s := s.setSup { s.sup with
    heldSet := s.sup.heldSet.filter (· ≠ z)
    wanting := if wanting.contains z then s.sup.wanting else s.sup.wanting.filter (· ≠ z) }
  if wanting.contains z then openWanting z s else writeZoneValve .closed z s

/-- The recovery unit has stopped blocking (R37). -/
def leaveLocked (s : State) : State :=
  if s.sup.state = .locked then
    let s := markMinOff s
    if s.acct.tank = .empty then s.setSup { s.sup with state := .inhibited } else enterIdle s
  else s

/-- The supervisor goes to LOCKED, dropping CALL if it is asserted (R37). -/
def enterLocked (s : State) : State :=
  if s.sup.state = .locked then s
  else if callAsserted s then dropCall .locked s
  else s.setSup { s.sup with state := .locked }

/-- A change of the tank state from `old`, at the supervisor (R38). -/
def supTankChanged (old : TankState) (s : State) : State :=
  if s.acct.tank = .empty then
    if s.sup.state = .locked then s
    else if callAsserted s then dropCall .inhibited s
    else s.setSup { s.sup with state := .inhibited }
  else if old = .empty && s.sup.state = .inhibited then enterIdle s
  else s

/-- The burn portion of an active run up to now, with run start moved to now (R25). -/
def splitBurn (s : State) : Option (Nat × State) :=
  if s.sup.rr.active then
    some (s.tenths - s.sup.rr.start, s.setSup { s.sup with rr := { s.sup.rr with start := s.tenths } })
  else none

end Sys2Proof.Machine
end

