-- ==== Sys2Proof/Machine/Recovery.lean ====
section
/-! DEFINITION. The recovery unit (chapter 3): episodes, lockout records, spacing, the reset history and its budget,
attempts, proving, the hard lock, and the safety writes. The events are in Burner.lean; the requests in Management.lean. -/

namespace Sys2Proof.Machine

/-! ### Pieces of the state -/

/-- Replace the open episode's record. -/
def modEpisode (f : Episode → Episode) (s : State) : State :=
  s.setRecov { s.recov with episode := s.recov.episode.map f }

/-- Replace the reset history of the working copy. -/
def setHistory (h : List HistEntry) (s : State) : State :=
  s.setRecov { s.recov with safe := { s.recov.safe with history := h } }

/-- The recovery unit is blocking in every state but CLOSED and PROVING (R44). -/
def blocking (s : State) : Bool := !(s.recov.state = .closed || s.recov.state = .proving)

/-- RESET_OUT is active only in PULSING (R56). -/
def resetOut (s : State) : Bool := s.recov.state = .pulsing

/-- The attempt in hand, if any. -/
def attemptInHand (s : State) : Option Attempt := s.recov.episode.bind (·.attempt)

/-- The attempt index increments, saturating at 255 (R45). -/
def bumpK (s : State) : State := modEpisode (fun e => { e with k := bump8 e.k }) s

/-! ### Spacing (R51) -/

/-- BASE for a cause (R51). -/
def spacingBase (set : RecoverySet) (cause : Cause) : Nat := if cause = .fuelCold then coldBase else set.retryBase

/-- S_k in seconds (R51). -/
def spacing (set : RecoverySet) (cause : Cause) (k : Nat) : Nat :=
  min (spacingBase set cause * 2 ^ (k - 1)) (max set.cap (spacingBase set cause))

/-- The due time of the next automatic attempt, in tenths (R45, R51). -/
def dueTime (set : RecoverySet) (e : Episode) : Option Nat := e.ref.map fun t => t + spacing set e.cause e.k * 10

/-- An automatic attempt is due: WAIT_RETRY, no attempt in hand, and the due time has come. -/
def attemptDue (s : State) : Bool :=
  s.recov.state = .waitRetry && (attemptInHand s).isNone &&
    (s.recov.episode.bind (dueTime s.recov.set)).any fun d => decide (d ≤ s.tenths)

/-! ### The reset history (R53, R54) -/

/-- Remove the oldest entry whose kind is not AUTOMATIC (R53). -/
def evictEntry : List HistEntry → List HistEntry
  | [] => []
  | e :: es => if e.kind = .automatic then e :: evictEntry es else es

/-- Append an entry, evicting one first when the history holds eight (R53). -/
def appendEntry (es : List HistEntry) (e : HistEntry) : List HistEntry :=
  (if es.length < 8 then es else evictEntry es) ++ [e]

/-- An AUTOMATIC entry older than WINDOW becomes LAPSED (R54). -/
def lapseEntry (window now : Nat) (e : HistEntry) : HistEntry :=
  if e.kind = .automatic && decide (e.time + window ≤ now) then { e with kind := .lapsed } else e

/-- Apply every lapse that is due (R54). -/
def applyLapses (s : State) : State :=
  setHistory (s.recov.safe.history.map (lapseEntry s.recov.set.window s.sec)) s

/-- Lapse the oldest AUTOMATIC entries beyond BUDGET (R54). -/
def enforceBudget (s : State) : State := setHistory (lapseToBudget s.recov.set.budget s.recov.safe.history) s

/-- Set the outcome of one entry. -/
def setOutcome (pos : Nat) (o : AttemptOutcome) (s : State) : State :=
  setHistory (s.recov.safe.history.modify pos fun e => { e with outcome := o }) s

/-- The AUTOMATIC entries of an episode become FORGIVEN (R62, R63), entries restored at a reset among them where they carry its
number (DESIGN CHOICE, log 27). -/
def forgive (episode : Nat) (es : List HistEntry) : List HistEntry :=
  es.map fun e => if e.kind = .automatic && e.episode = episode then { e with kind := .forgiven } else e

/-! ### Safety writes (R65, R175) -/

/-- A STORE is writing. -/
def storeWriting (s : State) : Bool :=
  match s.mgmt.job with
  | .writing _ _ _ _ => true
  | _ => false

/-- The non-volatile memory is idle (R175). -/
def memoryIdle (s : State) : Bool := s.nv.writing.isNone && !storeWriting s

/-- A safety write starts: it writes the whole working copy as it stands, the entry of an attempt in hand among it. -/
def startSafetyWrite (s : State) : State :=
  let s := s.setNv { s.nv with writing := some s.recov.safe, waiting := false }
  modEpisode (fun e => { e with attempt := e.attempt.map fun a => { a with carried := true } }) s

/-- A safety write is requested (R65): it starts at once, or joins a waiting one, or waits for the memory. No STORE waits on an
idle memory, for the end of each write starts the next (`startNextWrite`; log 10). -/
def requestSafetyWrite (s : State) : State :=
  if memoryIdle s && !s.nv.waiting then startSafetyWrite s else s.setNv { s.nv with waiting := true }

/-! ### Transitions (R48 to R64) -/

/-- Enter WAIT_RETRY, referenced to this moment (R48). -/
def enterWaitRetry (s : State) : State :=
  modEpisode (fun e => { e with ref := some s.tenths, ret := none }) (s.setRecov { s.recov with state := .waitRetry })

/-- Enter FUEL_WAIT, which keeps no due time (R60). -/
def enterFuelWait (s : State) : State :=
  modEpisode (fun e => { e with ref := none, ret := none }) (s.setRecov { s.recov with state := .fuelWait })

/-- Enter PROVING: not blocking, so the supervisor leaves LOCKED; the proving start is now if RUN is active (R37, R58). -/
def enterProving (s : State) : State :=
  let s := s.setRecov { s.recov with state := .proving, confirmFrom := none }
  leaveLocked
    (modEpisode
      (fun e => { e with ref := none, ret := none, proving := if s.sup.rr.active then some s.tenths else none }) s)

/-- Enter PULSING: RESET_OUT becomes active for the RESET_WIDTH in force (R56). -/
def enterPulsing (s : State) : State :=
  s.setRecov { s.recov with state := .pulsing, pulseEnd := some (s.tenths + s.recov.set.resetWidth) }

/-- Enter HARD_LOCK from a due time (R61). -/
def enterHardLock (s : State) : State :=
  let number := (s.recov.episode.map (·.number)).getD 0
  let cause := (s.recov.episode.map (·.cause)).getD .unknown
  let s := s.setRecov { s.recov with
    state := .hardLock, safe := { s.recov.safe with flag := true, episode := number, cause := cause } }
  settleNotices (requestSafetyWrite (modEpisode (fun e => { e with ref := none }) s))

/-- Append a reset-history entry of this moment for the open episode and make it the attempt in hand (R53). Its position counts
from 0 at the oldest entry (DESIGN CHOICE, log 24). -/
def startAttempt (automatic : Bool) (s : State) : State :=
  let entry : HistEntry :=
    { time := s.sec, kind := if automatic then .automatic else .service,
      episode := (s.recov.episode.map (·.number)).getD 0, outcome := .pending }
  let h := appendEntry s.recov.safe.history entry
  modEpisode (fun e => { e with attempt := some { automatic := automatic, pos := h.length - 1, carried := false } })
    (setHistory h s)

/-- The due time has come: fuel, budget, attempt (R52). -/
def decideAttempt (s : State) : State :=
  if s.acct.tank = .empty then enterFuelWait s
  else
    let s := applyLapses s
    if s.recov.set.budget ≤ autoCount s.recov.safe.history then enterHardLock s
    else requestSafetyWrite (startAttempt true s)

/-- Apply R52 at once if an attempt is due. -/
def checkDue (s : State) : State := if attemptDue s then decideAttempt s else s

/-- The attempt in hand ends with an outcome; after an automatic one k increments (R57). -/
def endAttempt (a : Attempt) (o : AttemptOutcome) (s : State) : State :=
  let s := modEpisode (fun e => { e with attempt := none }) (setOutcome a.pos o s)
  if a.automatic then bumpK s else s

/-- Outcome CLEARED: the episode enters PROVING (R55, R57, R64). -/
def attemptCleared (s : State) : State :=
  match attemptInHand s with
  | none => enterProving s
  | some a => enterProving (endAttempt a .cleared s)

/-- Outcome NOT_CLEARED at the end of CONFIRMING (R57, R64). -/
def attemptNotCleared (s : State) : State :=
  let s := s.setRecov { s.recov with confirmFrom := none }
  match attemptInHand s with
  | none => enterWaitRetry s
  | some a =>
    let ret := s.recov.episode.bind (·.ret)
    let s := endAttempt a .notCleared s
    if a.automatic then enterWaitRetry s
    else
      match ret with
      | some .fuelWait => if s.acct.tank = .empty then enterFuelWait s else enterWaitRetry s
      | _ => checkDue (modEpisode (fun e => { e with ret := none }) (s.setRecov { s.recov with state := .waitRetry }))

/-- The pulse has ended: CONFIRMING, which ends at once if LOCKOUT is found released (R56, R57). -/
def enterConfirming (s : State) : State :=
  let s := s.setRecov { s.recov with state := .confirming, pulseEnd := none, confirmFrom := some s.tenths }
  if s.sup.lockout.value then s else attemptCleared s

/-- The hard lock is cleared by a service source or a grant (R62, R63). After a restored HARD_LOCK the restored entries that carry
the hard-locked episode's number are forgiven as well (DESIGN CHOICE, log 27). -/
def clearLock (s : State) : State :=
  let number := (s.recov.episode.map (·.number)).getD 0
  let s := s.setRecov { s.recov with
    safe := { s.recov.safe with flag := false, history := forgive number s.recov.safe.history } }
  let s := requestSafetyWrite s
  settleNotices
    (if s.sup.lockout.value then enterWaitRetry (modEpisode (fun e => { e with k := 1 }) s) else enterProving s)

/-- A service pulse from WAIT_RETRY or FUEL_WAIT (R64). -/
def servicePulse (ret : ReturnState) (s : State) : State :=
  enterPulsing (modEpisode (fun e => { e with ret := some ret }) (startAttempt false s))

/-! ### Lockouts (R46 to R50, R59) -/

/-- The cause of a lockout (R47). -/
def lockoutCause (call seen : Bool) (s : State) : Cause :=
  if s.acct.tank = .empty then .fuelEmpty
  else if s.level.temp.any fun t => decide (t ≤ s.recov.set.waxTemp) then .fuelCold
  else if !call then .external
  else if !seen then .noIgnition
  else .flameLoss

/-- Append a lockout record of the open episode and raise LOCKOUT (R46). -/
def appendLockout (cause : Cause) (sup : SupState) (seen : Bool) (s : State) : State :=
  let r : LockoutRecord :=
    { episode := (s.recov.episode.map (·.number)).getD 0, time := s.sec, cause := cause, sup := sup, seen := seen,
      tank := s.acct.tank, v15 := s.vol.record.map (·.v15), temp := s.level.temp }
  raiseEvent .lockout (s.setRecov { s.recov with log := logAppend 8 s.recov.log r })

/-- The episode's latest cause. -/
def setCause (c : Cause) (s : State) : State := modEpisode (fun e => { e with cause := c }) s

/-- Where a lockout that opens or resumes an episode leads (R48, R49). -/
def afterLockout (cause : Cause) (s : State) : State :=
  if cause = .fuelEmpty then enterFuelWait s else enterWaitRetry s

/-- A lockout taken, with the facts the supervisor hands over (R26, R48, R49, R50). -/
def recLockoutTaken (sup : SupState) (call seen : Bool) (s : State) : State :=
  let cause := lockoutCause call seen s
  match s.recov.state with
  | .closed =>
    let number := (s.recov.counter + 1) % 65536
    let s := s.setRecov { s.recov with
      counter := number, episode := some { number := number, k := 1, cause := cause } }
    afterLockout cause (appendLockout cause sup seen s)
  | .proving =>
    afterLockout cause
      (modEpisode (fun e => { e with cause := cause, proving := none }) (appendLockout cause sup seen s))
  | _ => checkDue (setCause cause (appendLockout cause sup seen s))

/-- A lockout released (R59). -/
def recLockoutReleased (s : State) : State :=
  match s.recov.state with
  | .waitRetry | .fuelWait | .confirming => attemptCleared s
  | _ => s

/-- A RUN rise or fall at the recovery unit (R58). -/
def recRunEdge (rise : Bool) (s : State) : State :=
  if s.recov.state = .proving then
    modEpisode (fun e => { e with proving := if rise then some s.tenths else none }) s
  else s

/-- A change of the tank state from `old`, at the recovery unit: leaving EMPTY ends FUEL_WAIT (R60). -/
def recTankChanged (old : TankState) (s : State) : State :=
  if old = .empty && s.acct.tank ≠ .empty && s.recov.state = .fuelWait then enterWaitRetry s else s

/-- A delivery record opens: in HARD_LOCK it grants a clear if a record of the open episode shows RESERVE or EMPTY (R63). -/
def recDelivery (s : State) : State :=
  let number := (s.recov.episode.map (·.number)).getD 0
  let low := s.recov.log.any fun r => r.episode = number && (r.tank = .reserve || r.tank = .empty)
  if s.recov.state = .hardLock && low then clearLock s else s

/-- A safety write completes, at the recovery unit (R55). -/
def recWriteDone (s : State) : State :=
  match attemptInHand s with
  | none => s
  | some a =>
    if s.recov.state = .waitRetry && a.automatic && a.carried then
      if s.acct.tank = .empty then enterFuelWait (endAttempt a .notCleared s)
      else if s.sup.lockout.value then enterPulsing (modEpisode (fun e => { e with ref := none }) s)
      else s
    else s

end Sys2Proof.Machine
end

