-- ==== Sys2Proof/Machine/Zones.lean ====
section
/-! DEFINITION. The zone unit (chapter 1): the evaluation of a DEMAND and of the zones, the wanting-heat set, and what STATUS
carries. -/

namespace Sys2Proof.Machine

/-! ### Enrolment (R1, R3) -/

/-- The enrolment of an address. -/
def enrolOf (s : State) (addr : Nat) : Option Enrolment := s.zone.enrol.findSome? fun o => o.filter fun e => e.addr = addr

/-- The zone of an address enrolled as ROOM_UNIT. -/
def unitZone (s : State) (addr : Nat) : Option Nat :=
  match enrolOf s addr with
  | some ⟨_, .roomUnit z⟩ => some z
  | _ => none

/-- A service source: address 126, or an address enrolled with role SERVICE (00, "Terms"; R148, R170). -/
def isService (s : State) (addr : Nat) : Bool := addr = 126 || (enrolOf s addr).any fun e => e.role = .service

/-! ### The node table, as the zone unit reads and writes it -/

/-- The slot of an address in the node table. -/
def nodeSlot (s : State) (addr : Nat) : Option Nat := findSlot (fun e => e.addr = addr) s.relay.nodes

/-- The node entry of an address. -/
def nodeOf (s : State) (addr : Nat) : Option NodeEntry := (nodeSlot s addr).bind (slotGet s.relay.nodes)

/-- Replace the node table. -/
def setNodes (nodes : List (Option NodeEntry)) (s : State) : State := s.setRelay { s.relay with nodes := nodes }

/-- Change every node entry. -/
def mapNodes (f : NodeEntry → NodeEntry) (s : State) : State := setNodes (s.relay.nodes.map (Option.map f)) s

/-- Delete the demand part of an address (R19, R147). -/
def deletePart (addr : Nat) (s : State) : State :=
  mapNodes (fun e => if e.addr = addr then { e with part := none } else e) s

/-! ### Evaluating a reading (R6, R7) -/

/-- The effective setpoint (R6, steps 3 and 4). -/
def effectiveSetpoint (tank : TankState) (setback : Nat) (z : ZoneEntry) (setpoint : Nat) : Nat :=
  let e := min setpoint z.ceiling
  if tank = .reserve then
    match z.cls with
    | .unused | .essential => e
    | .normal => if e ≤ z.frost then e else max (e - setback) z.frost
    | .low => z.frost
  else e

/-- The call state and frost flag after a reading T against E (R7). -/
def updateStates (z : ZoneEntry) (temp : Int) (e : Nat) (p : DemandPart) : DemandPart :=
  { p with
    calling := if temp ≤ (e : Int) - z.diff then true else if (e : Int) ≤ temp then false else p.calling
    frost := if temp ≤ (z.frost : Int) then true else if (z.frost : Int) + z.diff ≤ temp then false else p.frost }

/-- Re-run a stored demand part without a new reading (R9). -/
def rerunPart (tank : TankState) (setback : Nat) (z : ZoneEntry) (p : DemandPart) : DemandPart :=
  updateStates z p.temp (effectiveSetpoint tank setback z (p.setpoint.getD z.setpoint)) p

/-- Re-run a node entry's demand part against the zone its address is enrolled in (R9). -/
def rerunNode (s : State) (n : NodeEntry) : NodeEntry :=
  match (unitZone s n.addr).bind fun z => s.zone.table[z]? with
  | none => n
  | some ze => { n with part := n.part.map (rerunPart s.acct.tank s.zone.setback ze) }

/-- Re-run the demand parts of the room units whose zone satisfies `which` (R9). -/
def rerunParts (which : Nat → Bool) (s : State) : State :=
  mapNodes (fun n => if (unitZone s n.addr).any which then rerunNode s n else n) s

/-- Re-run the demand part of one address (R9, R19). -/
def rerunAddr (addr : Nat) (s : State) : State := mapNodes (fun n => if n.addr = addr then rerunNode s n else n) s

/-! ### Zone state and wanting heat (R10, R11, R14, R15) -/

/-- The fresh members of a zone, as node entries (R3). -/
def freshMembers (s : State) (z : Nat) : List NodeEntry :=
  s.relay.nodes.filterMap fun o => o.filter fun n => unitZone s n.addr = some z

/-- The governing members (R10): in SELECT mode a lead that is a fresh member alone, else all fresh members. -/
def governing (s : State) (ze : ZoneEntry) (z : Nat) : List NodeEntry :=
  let fresh := freshMembers s z
  match ze.mode with
  | .group => fresh
  | .select =>
    match fresh.filter fun n => ze.lead = some n.addr with
    | [] => fresh
    | lead => lead

/-- The zone's state: the first row of R11 that holds. -/
def zoneStateOf (s : State) (z : Nat) : ZoneState :=
  match s.zone.table[z]? with
  | none => .unused
  | some ze =>
    if ze.cls = .unused then .unused
    else if (freshMembers s z).isEmpty then (if s.zone.grace then .waiting else .blind)
    else if (governing s ze z).any fun n => n.part.any (·.frost) then .frost
    else if (governing s ze z).any fun n => n.part.any (·.calling) then .calling
    else .satisfied

/-- The adjusted duty of a zone, in minutes per hour (R15). Its table has no row for UNUSED: an UNUSED zone, which never wants
heat, keeps its whole fallback duty (DESIGN CHOICE, log 32). -/
def adjustedDuty (tank : TankState) (ze : ZoneEntry) : Nat :=
  if tank = .reserve then
    match ze.cls with
    | .normal => ze.duty / 2
    | .low => 0
    | .essential | .unused => ze.duty
  else ze.duty

/-- The position within the hour (00, "The hour window"). -/
def hourPosition (s : State) : Nat := s.sec % 3600

/-- Whether a zone in a state wants heat (R14). -/
def wantsHeat (s : State) (z : Nat) (st : ZoneState) : Bool :=
  match s.zone.table[z]? with
  | none => false
  | some ze =>
    if s.acct.tank = .empty then false
    else
      match st with
      | .unused | .waiting | .satisfied => false
      | .frost => true
      | .calling => !(ze.cls = .low && s.acct.tank = .reserve)
      | .blind => decide (hourPosition s < adjustedDuty s.acct.tank ze * 60)

/-- Every zone number. -/
def allZones (s : State) : List Nat := List.range s.zone.table.length

/-- The zone states and the wanting-heat set after the zones of `zs` have been evaluated (R12). -/
def evaluated (zs : List Nat) (s : State) : State :=
  let states := (numbered s.zone.states).map fun ist => if zs.contains ist.1 then zoneStateOf s ist.1 else ist.2
  let wanting := (allZones s).filter fun z =>
    if zs.contains z then wantsHeat s z (zoneStateOf s z) else s.zone.wanting.contains z
  s.setZone { s.zone with states := states, wanting := wanting }

/-- Hand the wanting-heat set to the supervisor if it changed (R16). -/
def handOver (old : List Nat) (s : State) : State := if s.zone.wanting = old then s else takeWanting s.zone.wanting s

/-- Evaluate zones (R12): their states and standing, the notices ZONE_BLIND and FROST (R18), and the hand-off (R16). -/
def evaluateZones (zs : List Nat) (s : State) : State := handOver s.zone.wanting (settleNotices (evaluated zs s))

/-- Evaluate every zone. -/
def evaluateAll (s : State) : State := evaluateZones (allZones s) s

/-- A node entry of an address has been created, migrated or removed: if the address is enrolled as ROOM_UNIT, its zone is
evaluated (R12). -/
def nodeChanged (addr : Nat) (s : State) : State :=
  match unitZone s addr with
  | none => s
  | some z => evaluateZones [z] s

/-- A change of the tank state at the zone unit: every part is re-run and every zone evaluated (R9, R12, R107). -/
def zoneTankChanged (s : State) : State := evaluateAll (rerunParts (fun _ => true) s)

/-! ### Plant state (R17) -/

/-- The plant state that STATUS carries (R17). -/
inductive PlantState where
  | idle
  | heating
  | lockout
  | hardLock
  | fuelEmpty
deriving DecidableEq, Repr, Inhabited

/-- The first plant state that holds (R17). -/
def plantState (s : State) : PlantState :=
  if s.recov.state = .hardLock then .hardLock
  else if !(s.recov.state = .closed || s.recov.state = .proving) || s.sup.state = .locked then .lockout
  else if s.sup.state = .inhibited then .fuelEmpty
  else if callAsserted s then .heating
  else .idle

/-! ### Codes (R125) -/

/-- Zone state code. -/
def ZoneState.code : ZoneState → Byte
  | .unused => 0
  | .waiting => 1
  | .blind => 2
  | .frost => 3
  | .calling => 4
  | .satisfied => 5

/-- Plant state code. -/
def PlantState.code : PlantState → Byte
  | .idle => 0
  | .heating => 1
  | .lockout => 2
  | .hardLock => 3
  | .fuelEmpty => 4

/-- Tank state code. -/
def TankState.code : TankState → Byte
  | .unknown => 0
  | .normal => 1
  | .reserve => 2
  | .empty => 3

/-! ### DEMAND (R5 to R8, R17) -/

/-- A DEMAND's fields (R124): the clamped temperature, the flags, and the clamped setpoint if it carries one (R4, R6). -/
structure Demand where
  temp : Int
  batteryLow : Bool
  manual : Bool
  setpoint : Option Nat
deriving DecidableEq, Repr

/-- Read a DEMAND payload; none when LEN is neither 3 nor 5 (R5). -/
def readDemand : List Byte → Option Demand
  | [t1, t0, f] =>
    some { temp := clampTemp (ofSigned [t1, t0]), batteryLow := f.getLsbD 0, manual := f.getLsbD 1, setpoint := none }
  | [t1, t0, f, s1, s0] =>
    some { temp := clampTemp (ofSigned [t1, t0]), batteryLow := f.getLsbD 0, manual := f.getLsbD 1,
           setpoint := some (clampInt 50 300 (ofSigned [s1, s0])).toNat }
  | _ => none

/-- The demand part after an accepted DEMAND (R6 to R8); a new part starts from NO_CALL with the frost flag off (R4). -/
def demandPart (ze : ZoneEntry) (d : Demand) (e now : Nat) (old : Option DemandPart) : DemandPart :=
  let start : DemandPart :=
    { temp := d.temp, setpoint := d.setpoint, batteryLow := d.batteryLow, manual := d.manual,
      calling := (old.map (·.calling)).getD false, frost := (old.map (·.frost)).getD false, time := now }
  updateStates ze d.temp e start

/-- The STATUS reply (R17, R124). -/
def statusTel (dest : Byte) (z : Nat) (st : ZoneState) (e : Nat) (calling : Bool) (plant : PlantState) (tank : TankState) :
    Telegram :=
  composeTel dest kindStatus
    ([BitVec.ofNat 8 z, st.code] ++ beBytes 2 e ++ [flagByte calling, plant.code, tank.code])

/-- The plant state that the STATUS of this DEMAND shows: the state after the evaluation, or, where the DEMAND's own evaluation
changed it, either (R17, log 8). -/
def statusPlant (before after : State) : State × PlantState :=
  if plantState before = plantState after then (after, plantState after)
  else
    (after.setFreeIdx (after.freeIdx + 1),
      if Config.statusShowsHandOff after.freeIdx then plantState after else plantState before)

/-- A DEMAND that the relay unit hands to the zone unit with its arrival port (R5 to R8). Its buffer returns after the
evaluation and before the STATUS is composed (log 11). A change of the plant state that the learning of this arrival caused is
always shown (R17; DESIGN CHOICE, log 33). -/
def takeDemand (room : Room) (t : Telegram) (s : State) : State :=
  match readDemand t.payload with
  | none => returnBuffer (s.setZone { s.zone with badDemand := bump s.zone.badDemand })
  | some d =>
    match (unitZone s t.src.toNat).bind fun z => (s.zone.table[z]?).map fun ze => (z, ze) with
    | none => returnBuffer (s.setZone { s.zone with unenrolled := bump s.zone.unenrolled })
    | some (z, ze) =>
      let e := effectiveSetpoint s.acct.tank s.zone.setback ze (d.setpoint.getD ze.setpoint)
      let part := demandPart ze d e s.sec ((nodeOf s t.src.toNat).bind (·.part))
      let stored := mapNodes (fun n => if n.addr = t.src.toNat then { n with part := some part } else n) s
      let done := returnBuffer (evaluateZones [z] stored)
      let (done, plant) := statusPlant stored done
      (generate (roomPort room)
        (statusTel t.src z (done.zone.states.getD z .unused) e part.calling plant done.acct.tank) .plain done).1

end Sys2Proof.Machine
end

