-- ==== Sys2Proof/Machine/Accounting.lean ====
section
/-! DEFINITION. The accounting unit (chapter 6): the tank state, burn credit, accounting periods, and deliveries. -/

namespace Sys2Proof.Machine

/-! ### Tank state (R104, R107) -/

/-- The next tank state at a volume (R104). -/
def nextTank (set : AcctSet) (tank : TankState) (v15 : Nat) : TankState :=
  match tank with
  | .unknown | .normal =>
    if v15 ≤ set.emptyLevel then .empty else if v15 ≤ set.reserveLevel then .reserve else .normal
  | .reserve =>
    if v15 ≤ set.emptyLevel then .empty else if set.reserveLevel + set.hyst ≤ v15 then .normal else .reserve
  | .empty =>
    if set.reserveLevel + set.hyst ≤ v15 then .normal
    else if set.emptyLevel + set.hyst ≤ v15 then .reserve
    else .empty

/-- The tank state becomes `tank`; a change is handed to the zone unit, the supervisor, the recovery unit and the notice set
(R107). -/
def setTank (tank : TankState) (s : State) : State :=
  if s.acct.tank = tank then s
  else
    let old := s.acct.tank
    let s := s.setAcct { s.acct with tank := tank }
    recTankChanged old (supTankChanged old (zoneTankChanged s))

/-- Evaluate the tank state from a published V15 (R104). -/
def evaluateTank (v15 : Nat) (s : State) : State := setTank (nextTank s.acct.set s.acct.tank v15) s

/-! ### Burn credit (R108, R109) -/

/-- dL × tenths per dL at one ml per hour: 3,600,000 (R108). -/
def creditUnit : Nat := 3600000

/-- Credit a burn portion of `t` tenths (R108, R109). -/
def creditBurn (t : Nat) (s : State) : State :=
  let x := t * s.acct.set.nozzleRate + s.acct.residue
  let credit := x / creditUnit
  s.setAcct { s.acct with
    residue := x % creditUnit
    accum := s.acct.accum + credit
    period := s.acct.period.map fun p => { p with burn := p.burn + credit } }

/-- Ask the supervisor for a partial burn and credit what it hands back (R25, R111). -/
def takePartialBurn (s : State) : State :=
  match splitBurn s with
  | none => s
  | some (t, s') => creditBurn t s'

/-! ### Periods (R110 to R115) -/

/-- Tolerance of a period (R113). -/
def tolerance (set : AcctSet) (burn : Nat) : Nat := set.tolFixed + burn * set.tolPct / 100

/-- Close a period at a publication (R113). -/
def closePeriod (set : AcctSet) (p : Period) (stop endV15 : Nat) : PeriodRecord :=
  let drop : Int := (p.startV15 : Int) - endV15
  let discrepancy : Int := drop - p.burn
  let base : PeriodRecord :=
    { start := p.start, stop := stop, startV15 := p.startV15, endV15 := some endV15, burn := p.burn, drop := none,
      discrepancy := none, outcome := .skipped, skip := none }
  if p.start + 2 * set.period * 3600 < stop then base
  else if p.delivery then { base with drop := some drop, outcome := .delivery }
  else
    { base with
      drop := some drop
      discrepancy := some discrepancy
      outcome :=
        if (tolerance set p.burn : Int) < discrepancy then .overdraw
        else if (tolerance set p.burn : Int) < -discrepancy then .underdraw
        else .balanced }

/-- The leak count after a record's outcome, and whether LEAK_SUSPECT is raised (R115). -/
def leakAfter (leak : Nat) : PeriodOutcome → Nat × Bool
  | .overdraw => if leak = 0 then (1, false) else (0, true)
  | .balanced | .underdraw => (0, false)
  | .skipped | .delivery => (leak, false)

/-- Append a record to the period log and apply the leak count (R114, R115); no period is open. -/
def logPeriod (r : PeriodRecord) (s : State) : State :=
  let (leak, raised) := leakAfter s.acct.leak r.outcome
  let s := s.setAcct { s.acct with period := none, periods := logAppend 4 s.acct.periods r, leak := leak }
  if raised then raiseEvent .leakSuspect s else s

/-- Whether a delivery record is open (R117). -/
def deliveryOpen (s : State) : Bool := s.acct.deliveries.getLast?.any fun d => d.reason.isNone

/-- Open a period at a publication (R110). -/
def openPeriod (time v15 : Nat) (s : State) : State :=
  s.setAcct { s.acct with period := some { start := time, startV15 := v15, burn := 0, delivery := deliveryOpen s } }

/-- Step 4 of a publication: open a period, or test the open one for its end (R110, R111). -/
def testPeriod (time v15 : Nat) (s : State) : State :=
  match s.acct.period with
  | none => openPeriod time v15 s
  | some p =>
    if p.start + s.acct.set.period * 3600 ≤ time then
      let s := takePartialBurn s
      let r := closePeriod s.acct.set (s.acct.period.getD p) time v15
      let s := logPeriod r s
      if r.outcome = .skipped then s else openPeriod time v15 s
    else s

/-- A swap, a scaling change or FORGET-LEVEL ends the open period as SKIPPED (R112). -/
def skipPeriod (reason : SkipReason) (s : State) : State :=
  match s.acct.period with
  | none => s
  | some _ =>
    let s := takePartialBurn s
    match s.acct.period with
    | none => s
    | some p =>
      logPeriod
        { start := p.start, stop := s.sec, startV15 := p.startV15, endV15 := none, burn := p.burn, drop := none,
          discrepancy := none, outcome := .skipped, skip := some reason } s

/-! ### Deliveries (R116 to R118) -/

/-- Change the newest delivery record. -/
def modDelivery (f : DeliveryRecord → DeliveryRecord) (s : State) : State :=
  s.setAcct { s.acct with deliveries := s.acct.deliveries.modify (s.acct.deliveries.length - 1) f }

/-- Close a delivery record at a stage, absent only where no last H0 exists (R117, R118). The settle count, which R117 gives a
meaning only while the record is open, stays as it is (DESIGN CHOICE, log 35). -/
def closeDelivery (reason : CloseReason) (stop : Option Stage) (d : DeliveryRecord) : DeliveryRecord :=
  { d with
    stop := stop.map (·.time)
    endV15 := stop.map (·.v15)
    delivered := stop.map fun h => (h.v15 : Int) - d.startV15
    reason := some reason }

/-- Close the open delivery record, if there is one, with the last H0 (R118). -/
def endDelivery (reason : CloseReason) (s : State) : State :=
  if deliveryOpen s then modDelivery (closeDelivery reason s.acct.lastH0) s else s

/-- The settling test of an open delivery record at a publication (R118). -/
def settleDelivery (h0 : Stage) (h1 : Option Stage) (d : DeliveryRecord) : DeliveryRecord :=
  let still := h1.any fun h => decide ((h0.v15 : Int) - h.v15 < delivSettle)
  let d := { d with settle := if still then d.settle + 1 else 0 }
  if 2 ≤ d.settle then closeDelivery .settled (some h0) d else d

/-- Open a delivery record in the order of R116. -/
def openDelivery (h3 : Stage) (time : Nat) (s : State) : State :=
  let d : DeliveryRecord :=
    { start := h3.time, startV15 := h3.v15, openTime := time, settle := 0, stop := none, endV15 := none,
      delivered := none, reason := none }
  let s := s.setAcct { s.acct with deliveries := logAppend 8 s.acct.deliveries d }
  let s := raiseEvent .delivery s
  let s := s.setAcct { s.acct with period := s.acct.period.map fun p => { p with delivery := true } }
  recDelivery s

/-- Step 3 of a publication: settle the open record, or test the chain for a new delivery (R116, R118). -/
def testDelivery (chain : List Stage) (time : Nat) (s : State) : State :=
  match chain with
  | h0 :: rest =>
    if deliveryOpen s then modDelivery (settleDelivery h0 rest.head?) s
    else
      match rest with
      | [_, _, h3] =>
        let after := match s.acct.deliveries.getLast? with
          | none => true
          | some d => d.stop.all fun t => decide (t ≤ h3.time)
        if after && decide ((s.acct.set.delivMin : Int) ≤ (h0.v15 : Int) - h3.v15) then openDelivery h3 time s else s
      | _ => s
  | [] => s

/-! ### The work of one publication, and the other hand-offs (R103, R105, R112, R118) -/

/-- A publication with its volume record and the shifted chain, in the order of R103. -/
def acctPublication (r : VolRecord) (chain : List Stage) (s : State) : State :=
  let s := s.setAcct { s.acct with lastH0 := chain.head? }
  let s := evaluateTank r.v15 s
  let s := testDelivery chain r.time s
  testPeriod r.time r.v15 s

/-- The open delivery is truncated, the open period skipped, and the last H0 becomes absent (R103, R112, R118). -/
def acctBreak (reason : SkipReason) (s : State) : State :=
  let s := skipPeriod reason (endDelivery .truncated s)
  s.setAcct { s.acct with lastH0 := none }

end Sys2Proof.Machine
end

