-- ==== Sys2Proof/Machine/Volume.lean ====
section
/-! DEFINITION. The volume unit (chapter 5): strapping, interpolation, temperature correction, the volume record and the
history chain. -/

namespace Sys2Proof.Machine

/-! ### Banks (R88, R90) -/

/-- The ACTIVE bank. -/
def activeBank (v : Volume) : Bank := if v.activeB then v.bankB else v.bankA

/-- The STAGED bank. -/
def stagedBank (v : Volume) : Bank := if v.activeB then v.bankA else v.bankB

/-- Replace the STAGED bank. -/
def setStaged (b : Bank) (v : Volume) : Volume := if v.activeB then { v with bankA := b } else { v with bankB := b }

/-- The points in use, positions 0 to n − 1. -/
def usedPoints (b : Bank) : List Point := b.points.take b.n

/-- Why a swap is refused (R90). -/
inductive StrapReason where
  | count
  | depthOrder
  | volumeOrder
deriving DecidableEq, Repr, Inhabited

/-- The first break of order after a point, positions counted from `i` (R90). -/
def orderFault (i : Nat) (before : Point) : List Point → Option (Nat × StrapReason)
  | [] => none
  | x :: xs =>
    if x.depth ≤ before.depth then some (i, .depthOrder)
    else if x.vol < before.vol then some (i, .volumeOrder)
    else orderFault (i + 1) x xs

/-- Validation of a bank (R90): none when it passes, else the offending index and the reason. -/
def strapFault (b : Bank) : Option (Nat × StrapReason) :=
  if b.n < 2 then some (b.n, .count)
  else
    match usedPoints b with
    | [] => some (b.n, .count)
    | x :: xs => orderFault 1 x xs

/-! ### From depth to volume (R93 to R95) -/

/-- Interpolation between two points (R93). -/
def between (lo hi : Point) (d : Nat) : Nat := lo.vol + (d - lo.depth) * (hi.vol - lo.vol) / (hi.depth - lo.depth)

/-- The gross volume at a depth above the point `lo`, on the points that follow it, with the range flag (R93). -/
def grossAbove (d : Nat) (lo : Point) : List Point → Nat × RangeFlag
  | [] => (lo.vol, if lo.depth < d then .above else .none)
  | hi :: rest => if d < hi.depth then (between lo hi d, .none) else grossAbove d hi rest

/-- The gross volume V at a depth, with the range flag (R93). -/
def grossVolume (ps : List Point) (d : Nat) : Nat × RangeFlag :=
  match ps with
  | [] => (0, .none)
  | x :: xs => if d ≤ x.depth then (x.vol, if d < x.depth then .below else .none) else grossAbove d x xs

/-- The correction factor f, in parts per million (R94): the term is truncated toward zero. -/
def correction (coef : Nat) (temp : Option Int) : Int :=
  1000000 - Int.tdiv (coef * (clampTemp (temp.getD 150) - 150)) 10

/-- V15 (R94). -/
def volume15 (coef v : Nat) (temp : Option Int) : Nat := (Int.fdiv (v * correction coef temp) 1000000).toNat

/-- The last volume of the points in use. -/
def lastVol (ps : List Point) : Nat := (ps.getLast?.map (·.vol)).getD 0

/-- The volume record of a depth and a temperature under the ACTIVE bank (R93 to R95, R97). -/
def computeRecord (v : Volume) (depth : Nat) (temp : Option Int) (time : Nat) : VolRecord :=
  let ps := usedPoints (activeBank v)
  let g := grossVolume ps depth
  { v := g.1, v15 := volume15 v.coef g.1 temp, space := lastVol ps - g.1, flag := g.2, time := time }

/-! ### Publications, swaps, scaling changes and FORGET-LEVEL (R91, R92, R98 to R101) -/

/-- A publication (R98): the record, the shift of the chain (R100), and the hand-off to the accounting unit. -/
def volPublication (b : Box) (time : Nat) (s : State) : State :=
  let r := computeRecord s.vol b.depth b.temp time
  let chain := ({ v15 := r.v15, time := time } :: s.vol.chain).take 4
  acctPublication r chain (s.setVol { s.vol with record := some r, chain := chain })

/-- A swap that passed validation, in the order of R91. -/
def swapBanks (s : State) : State :=
  let s := s.setVol { s.vol with activeB := !s.vol.activeB }
  let s := acctBreak .swap s
  let s := s.setVol { s.vol with chain := [] }
  match s.level.depth with
  | none => s
  | some d =>
    let r := computeRecord s.vol d s.level.temp s.level.time
    let s := s.setVol { s.vol with record := some r }
    if s.level.status = .fault then s else evaluateTank r.v15 s

/-- A scaling change, told by the level filter (R72, R99). -/
def volScaling (s : State) : State := acctBreak .scaling (s.setVol { s.vol with chain := [] })

/-- FORGET-LEVEL, told by the level filter (R85, R99, R105). -/
def volForget (s : State) : State :=
  setTank .unknown (acctBreak .forget (s.setVol { s.vol with record := none, chain := [] }))

end Sys2Proof.Machine
end

