-- ==== Sys2Proof/Machine/Level.lean ====
section
/-! DEFINITION. The level filter (chapter 4): screening, scaling, spike rejection, the box filter, publication and the hold
causes. -/

namespace Sys2Proof.Machine

/-- Change the level filter. -/
def modLevel (f : Level → Level) (s : State) : State := s.setLevel (f s.level)

/-- Change the level filter's counters. -/
def countLevel (f : LevelCounters → LevelCounters) (s : State) : State :=
  modLevel (fun l => { l with ctr := f l.ctr }) s

/-- A restart of the filter discards its working state (R77). -/
def restartFilter (l : Level) : Level := { l with box := {}, prev := none, ref := none, spikeRun := 0 }

/-- The stale timer restarts, if a gauge is configured (R83). -/
def restartStale (s : State) : State :=
  modLevel (fun l => { l with staleFrom := if hasGauge s then some s.sec else none }) s

/-! ### Scaling (R71) -/

/-- The measured value of a raw level. -/
def measured (set : LevelSet) (raw : Nat) : Nat := min ((raw - set.zero) * set.gain / 4096) 65535

/-- The depth of a raw level. -/
def scaleDepth (set : LevelSet) (raw : Nat) : Nat :=
  match set.sense with
  | .head => measured set raw
  | .ullage => set.tankHeight - measured set raw

/-! ### Publication (R80) -/

/-- Whether a hold cause stands (R79). -/
def holdStands (l : Level) : Bool := l.burnerStart || l.serviceFrom.isSome

/-- A filter output at the publication gate: held and discarded, or published (R80). -/
def publish (b : Box) (s : State) : State :=
  if holdStands s.level then countLevel (fun c => { c with held := bump c.held }) s
  else
    let s := modLevel
      (fun l => { l with depth := some b.depth, temp := b.temp, time := s.sec, status := .valid,
                         ctr := { l.ctr with published := bump l.ctr.published } }) s
    volPublication b s.sec (settleNotices s)

/-! ### The box filter (R75, R76) -/

/-- Add an accepted sample to the partial box (R75). -/
def addSample (depth : Nat) (temp : Option Int) (b : PartialBox) : PartialBox :=
  { depthSum := b.depthSum + depth
    tempSum := b.tempSum + temp.getD 0
    count := b.count + 1
    mark := b.mark || temp.isNone }

/-- The completed box (R75). -/
def completeBox (n : Nat) (b : PartialBox) : Box :=
  { depth := b.depthSum / n, temp := if b.mark then none else some (floorDiv b.tempSum n) }

/-- The mean of two boxes (R76). -/
def meanBox (a b : Box) : Box :=
  { depth := (a.depth + b.depth) / 2
    temp := match a.temp, b.temp with
      | some x, some y => some (floorDiv (x + y) 2)
      | _, _ => none }

/-- The output stage (R76). -/
def outputStage (b : Box) (s : State) : State :=
  if s.level.set.order = 1 then publish b s
  else
    let prev := s.level.prev
    let s := modLevel (fun l => { l with prev := some b }) s
    match prev with
    | none => s
    | some a => publish (meanBox a b) s

/-- An accepted sample joins the box; the sample that completes it makes the box the spike reference and sends it to the
output stage (R73, R75). -/
def acceptSample (depth : Nat) (temp : Option Int) (s : State) : State :=
  let box := addSample depth temp s.level.box
  if s.level.set.windowN ≤ box.count then
    let b := completeBox s.level.set.windowN box
    outputStage b (modLevel (fun l => { l with spikeRun := 0, box := {}, ref := some b.depth }) s)
  else modLevel (fun l => { l with spikeRun := 0, box := box }) s

/-- Whether a depth is farther than SLEW from the spike reference (R73). -/
def isSpike (l : Level) (depth : Nat) : Bool :=
  l.set.slew ≠ 0 && l.ref.any fun r => decide (l.set.slew < (depth - r) + (r - depth))

/-- The spike check of a scaled depth (R73, R74). -/
def checkSpike (depth : Nat) (temp : Option Int) (s : State) : State :=
  if isSpike s.level depth then
    if s.level.spikeRun + 1 < 8 then
      modLevel (fun l => { l with spikeRun := l.spikeRun + 1, ctr := { l.ctr with spike := bump l.ctr.spike } }) s
    else
      acceptSample depth temp
        (modLevel (fun l => restartFilter { l with ctr := { l.ctr with stepRestart := bump l.ctr.stepRestart } }) s)
  else acceptSample depth temp s

/-! ### Samples (R69, R70) -/

/-- The quality field of a SAMPLE (R125). -/
inductive Quality where
  | good
  | range
  | sensorFault
deriving DecidableEq, Repr, Inhabited

/-- The code of a quality, if it is one. -/
def readQuality (b : Byte) : Option Quality :=
  if b = 0 then some .good else if b = 1 then some .range else if b = 2 then some .sensorFault else none

/-- Read a SAMPLE payload (R124): quality, raw level, clamped optional temperature; none when LEN is neither 3 nor 5 or the
quality is no code (R69). -/
def readSample : List Byte → Option (Quality × Nat × Option Int)
  | [q, r1, r0] => (readQuality q).map fun q => (q, ofBytes [r1, r0], none)
  | [q, r1, r0, t1, t0] => (readQuality q).map fun q => (q, ofBytes [r1, r0], some (clampTemp (ofSigned [t1, t0])))
  | _ => none

/-- A SENSOR_FAULT sample: the fault run, and FAULT at the sixth (R70, R84). -/
def takeFault (s : State) : State :=
  let s := modLevel
    (fun l => { l with faultRun := min (l.faultRun + 1) 6,
                       ctr := { l.ctr with sensorFault := bump l.ctr.sensorFault } }) s
  if s.level.faultRun = 6 then
    setTank .unknown (settleNotices (modLevel (fun l => restartFilter { l with status := .fault }) s))
  else s

/-- A SAMPLE handed over by the poll scheduler (R69). -/
def takeSample (payload : List Byte) (s : State) : State :=
  match readSample payload with
  | none => countLevel (fun c => { c with badSample := bump c.badSample }) s
  | some (q, raw, temp) =>
    let s := restartStale s
    match q with
    | .sensorFault => takeFault s
    | .good => checkSpike (scaleDepth s.level.set raw) temp (modLevel (fun l => { l with faultRun := 0 }) s)
    | .range =>
      checkSpike (scaleDepth s.level.set raw) temp
        (modLevel (fun l => { l with faultRun := 0, ctr := { l.ctr with range := bump l.ctr.range } }) s)

/-! ### Requests and timers at the level filter (R72, R76, R82, R83, R85) -/

/-- A scaling change: the filter restarts, and the volume and accounting units are told (R72). -/
def scalingChange (set : LevelSet) (s : State) : State :=
  volScaling (modLevel (fun l => restartFilter { l with set := set }) s)

/-- A change of WINDOW_N or ORDER: the filter restarts (R76). -/
def shapeChange (set : LevelSet) (s : State) : State := modLevel (fun l => restartFilter { l with set := set }) s

/-- HOLD-TANK on or off (R82). -/
def holdTank (on : Bool) (s : State) : State :=
  modLevel (fun l => { l with serviceFrom := if on then some s.sec else none }) s

/-- FORGET-LEVEL, in the order of R85. -/
def forgetLevel (s : State) : State :=
  let s := modLevel
    (fun l => restartFilter { l with depth := none, temp := none, time := 0, status := .none, faultRun := 0 }) s
  volForget (restartStale (settleNotices s))

/-- The stale timer expires (R83): NONE or VALID becomes STALE, and the timer does not run on. -/
def staleExpiry (s : State) : State :=
  modLevel
    (fun l => { l with staleFrom := none,
                       status := if l.status = .none || l.status = .valid then .stale else l.status }) s

end Sys2Proof.Machine
end

