-- ==== Sys2Proof/Machine/Plant.lean ====
section
/-! DEFINITION. The poll scheduler's exchanges (chapter 9): answers, misses, strays, relay windows, port P's states, the valve
travel timer, and the commands POLL_DUE, RESPONSE_WINDOW_CLOSE and VALVE_TRAVEL_EXPIRY. -/

namespace Sys2Proof.Machine

/-- The outstanding exchange ends; arbitration follows (R161). -/
def endExchange (s : State) : State := wakeSched (s.setSched { s.sched with exch := none })

/-- The exchange ends because the line failed: no miss, and the entry's due time counts from the exchange's start (R160,
log 20). -/
def failExchange (s : State) : State :=
  match s.sched.exch with
  | none => s
  | some x =>
    match x.kind.slot? with
    | none => endExchange s
    | some i => redecide i (endExchange s)

/-- The valve record of a slot. -/
def recordOf (s : State) (slot : Nat) : Option ValveRecord :=
  (slotGet s.sched.slots slot).bind PollEntry.valve?

/-- Change a slot's valve record; a change of its reported position decides the due time again (R162). -/
def modRecord (slot : Nat) (f : ValveRecord → ValveRecord) (s : State) : State :=
  match recordOf s slot with
  | none => s
  | some r =>
    let s := modEntry slot (PollEntry.modValve f) s
    if (f r).reported = r.reported then s else redecide slot s

/-- Change a slot's valve record and hand a change of its reported position or fault flag to the supervisor (R163, R166). -/
def changeRecord (slot : Nat) (f : ValveRecord → ValveRecord) (s : State) : State :=
  match recordOf s slot with
  | none => s
  | some r =>
    let s := modRecord slot f s
    if (f r).reported = r.reported && (f r).fault = r.fault then s else recompute s

/-! ### Answers (R163, R166) -/

/-- The position a VALVE_REPORT carries; none for another LEN or another code (R124, R163). -/
def readReport : List Byte → Option Reported
  | [b] =>
    if b = 0 then some .closed else if b = 1 then some .opened else if b = 2 then some .moving
    else if b = 3 then some .fault else none
  | _ => none

/-- A report is taken (R166): FAULT sets the flag, the desired position clears it, and either stops the travel timer. -/
def takeReport (rep : Reported) (r : ValveRecord) : ValveRecord :=
  let r := { r with reported := rep }
  if rep = .fault then { r with fault := true, travel := false }
  else if matchesDesired rep r.desired then { r with fault := false, travel := false }
  else r

/-- A valve command answered clears the command if the position it carried is still desired (R163). -/
def clearPending (kind : ExKind) (r : ValveRecord) : ValveRecord :=
  match kind with
  | .valve _ pos => if r.desired = pos then { r with pending := false } else r
  | _ => r

/-- The entry has answered (R163, step 2): PRESENT, miss count 0, last answer now; a valve that returns from ABSENT has its
command set pending (R164). -/
def markAnswered (now : Nat) (e : PollEntry) : PollEntry :=
  let back := !e.present
  let e := { e with present := true, misses := 0, lastAnswer := now }
  if back then e.modValve fun r => { r with pending := true } else e

/-- Route an answer by its kind (R163, step 3). The answer's buffer returns here (log 11). -/
def routeAnswer (x : Exchange) (slot : Nat) (t : Telegram) (s : State) : State :=
  returnBuffer
    (if t.kind = kindSample then takeSample t.payload s
     else
      match readReport t.payload with
      | some rep => changeRecord slot (fun r => takeReport rep (clearPending x.kind r)) s
      | none => countSched (fun c => { c with badReport := bump c.badReport })
          (changeRecord slot (clearPending x.kind) s))

/-- An answer is taken, in the order of R163. -/
def takeAnswer (x : Exchange) (slot : Nat) (t : Telegram) (s : State) : State :=
  let s := countSched (fun c => { c with answered := bump c.answered }) (endExchange s)
  let s := settleNotices (modEntry slot (markAnswered s.sec) s)
  redecide slot (routeAnswer x slot t s)

/-- A telegram that is no answer (R165). -/
def takeStray (s : State) : State :=
  returnBuffer (countSched (fun c => { c with stray := bump c.stray }) s)

/-- A relay-window reply goes to the requester's segment (R155, R167). -/
def takeReply (requester : Room) (t : Telegram) (s : State) : State :=
  let s := endExchange s
  let s := s.setRelay { s.relay with ctr := { s.relay.ctr with returned := bump s.relay.ctr.returned } }
  (moveToQueue (roomPort requester) t .plain s).1

/-- The kind expected of a slot's node in a poll or valve command (R160). -/
def expectedKind (s : State) (slot : Nat) : Byte :=
  if (slotGet s.sched.slots slot).any PollEntry.isGauge then kindSample else kindValveReport

/-- A telegram that port P delivers (R163, R165, R167). Its buffer is held by the scheduler. -/
def takeFromP (t : Telegram) (s : State) : State :=
  match s.sched.exch with
  | none => takeStray s
  | some x =>
    if x.window.isNone || t.src ≠ x.node then takeStray s
    else
      match x.kind with
      | .relay requester => takeReply requester t s
      | .poll slot | .valve slot _ =>
        if t.dest = 0 && t.kind = expectedKind s slot then takeAnswer x slot t s else takeStray s

/-! ### Silent windows and misses (R160, R164, R167) -/

/-- The third miss makes a PRESENT entry ABSENT; its valve's reported position is then UNKNOWN (R164). -/
def markMissed (e : PollEntry) : PollEntry :=
  let e := { e with misses := bump8 e.misses }
  if 3 ≤ e.misses && e.present then { (e.modValve fun r => { r with reported := .unknown }) with present := false } else e

/-- An exchange ends as a miss (R164). -/
def missExchange (slot : Nat) (s : State) : State :=
  let before := (recordOf s slot).map (·.reported)
  let s := countSched (fun c => { c with miss := bump c.miss }) (endExchange s)
  let s := redecide slot (modEntry slot markMissed s)
  if (recordOf s slot).map (·.reported) = before then s else recompute s

/-- The second attempt of a poll or valve command; with no free buffer the exchange ends as failed (R160). -/
def retryExchange (x : Exchange) (s : State) : State :=
  match generate .p (requestTel x.kind x.node) .request s with
  | (s', false) => failExchange s'
  | (s', true) =>
    let s' := countSched (fun c => { c with retry := bump c.retry }) (countRequest x.kind s')
    s'.setSched { s'.sched with exch := some { x with attempt := 2, window := none } }

/-- The response window closes with no answer taken (R160, R167). -/
def silentWindow (s : State) : State :=
  match s.sched.exch with
  | none => s
  | some x =>
    match x.kind.slot? with
    | none => endExchange (countSched (fun c => { c with relayNoReply := bump c.relayNoReply }) s)
    | some slot => if x.attempt = 1 then retryExchange x s else missExchange slot s

/-- The window's time has passed, and no telegram that began before its end is still being received (R160). -/
def windowOver (s : State) : Bool :=
  match s.sched.exch.bind (·.window) with
  | none => false
  | some w =>
    decide (w + windowTicks ≤ s.now) && !(s.portP.asm.any fun a => decide (a.start < w + windowTicks))

/-! ### What port P reports (R160, R168) -/

/-- Port P reports the end of the request's last character: the response window opens (R160). -/
def openWindow (s : State) : State :=
  s.setSched { s.sched with exch := s.sched.exch.map fun x => { x with window := some s.now } }

/-- Every valve record reports UNKNOWN. -/
def allUnknown (s : State) : Bool :=
  s.sched.slots.all fun o => (o.bind PollEntry.valve?).all fun r => r.reported = .unknown

/-- Port P has entered BREAK (R168): the exchange ends, every valve reports UNKNOWN, and the changes are handed to the
supervisor: all records change first, and the supervisor recomputes once (DESIGN CHOICE, log 13). -/
def pBreak (s : State) : State :=
  let s := failExchange s
  if allUnknown s then s
  else
    recompute
      (forEach (List.range s.sched.slots.length) (fun i => modRecord i fun r => { r with reported := .unknown }) s)

/-- Port P has returned to ACTIVE (R168): every valve command is set pending and every entry is due now. A due time decided
again later still counts from the start of the entry's last exchange (R162; DESIGN CHOICE, log 20). -/
def pReturn (s : State) : State :=
  wakeSched
    (setSlots
      (s.sched.slots.map (Option.map fun e =>
        { (e.modValve fun r => { r with pending := true }) with due := s.tenths })) s)

/-! ### Poll-list writes (R158) -/

/-- A new entry (R158): due after the interval that R162 selects. -/
def newEntry (c : PollCfg) (now : Nat) : PollEntry :=
  decideDue
    { addr := c.addr
      role := if c.isValve then .valve (newValve now) else .gauge
      interval := c.interval
      present := true
      misses := 0
      lastAnswer := 0
      due := now
      start := none
      base := now }

/-- The requests that wait in P's queue belong to no exchange any more (log 21). -/
def orphanRequests (s : State) : State :=
  s.modPort .p fun q => { q with queue := q.queue.map fun it => { it with mark := .plain } }

/-- Remove the entry of a slot (R158): its exchange, if outstanding, ends at once, and a gauge's stale timer stops. A relay
exchange is with an address, not with the entry, and goes on (DESIGN CHOICE, log 21). -/
def removeEntry (slot : Nat) (s : State) : State :=
  let gauge := (slotGet s.sched.slots slot).any PollEntry.isGauge
  let s := setSlots (s.sched.slots.set slot none) s
  let s := if (s.sched.exch.bind (·.kind.slot?)) = some slot then orphanRequests (endExchange s) else s
  if gauge then modLevel (fun l => { l with staleFrom := none }) s else s

/-- Make an entry in a slot (R158): a gauge starts the stale timer. -/
def addEntry (slot : Nat) (c : PollCfg) (s : State) : State :=
  let s := wakeSched (setSlots (s.sched.slots.set slot (some (newEntry c s.tenths))) s)
  if c.isValve then s else modLevel (fun l => { l with staleFrom := some s.sec }) s

/-- The due time after a written interval (R158): from the start of the entry's last exchange, or from now. -/
def changeInterval (interval now : Nat) (e : PollEntry) : PollEntry :=
  decideDue { e with interval := interval, base := e.start.getD now }

/-- Apply a poll-list write that passed its checks (R158). -/
def applyPollWrite (slot : Nat) (new : Option PollCfg) (s : State) : State :=
  wakeSched
    (match slotGet s.sched.slots slot, new with
     | none, none => s
     | none, some c => addEntry slot c s
     | some _, none => removeEntry slot s
     | some e, some c =>
       if e.addr = c.addr && e.isGauge = !c.isValve then
         (if e.interval = c.interval then s else modEntry slot (changeInterval c.interval s.tenths) s)
       else addEntry slot c (removeEntry slot s))

/-! ### Commands -/

/-- POLL_DUE (R162): an entry's due time has passed, and the scheduler arbitrates the P line. -/
def execPollDue (s : State) : Host.Outcome State Fault Refusal :=
  act (s.sched.slots.any fun o => o.any fun e => decide (e.due ≤ s.tenths)) wakeSched s

/-- RESPONSE_WINDOW_CLOSE (R160). -/
def execResponseWindowClose (s : State) : Host.Outcome State Fault Refusal := act (windowOver s) silentWindow s

/-- VALVE_TRAVEL_EXPIRY (R166): the fault flag is set and the timer stops. -/
def execValveTravelExpiry (slot : Nat) (s : State) : Host.Outcome State Fault Refusal :=
  act ((recordOf s slot).any fun r => r.travel && decide (r.since + valveTravelTenths ≤ s.tenths))
    (changeRecord slot fun r => { r with fault := true, travel := false }) s

end Sys2Proof.Machine
end

