-- ==== Sys2Proof/Machine/Burner.lean ====
section
/-! DEFINITION. The commands of the zone timers, the burner lines and timers, the recovery unit, the oil accounts and the
level filter's timers (chapters 1 to 6). -/

namespace Sys2Proof.Machine

/-! ### Zone timers (R13, R15) -/

/-- STARTUP_GRACE_EXPIRY (R13): at uptime 120 every zone is evaluated with the grace expired. -/
def execStartupGraceExpiry (s : State) : Host.Outcome State Fault Refusal :=
  act (s.zone.grace && decide (startupGrace ≤ s.sec))
    (fun s => evaluateAll (s.setZone { s.zone with grace := false })) s

/-- HOUR_WINDOW_BOUNDARY (R15): at a whole multiple of 3600 s every zone is evaluated. -/
def execHourWindowBoundary (s : State) : Host.Outcome State Fault Refusal :=
  act (hourPosition s = 0) evaluateAll s

/-- DUTY_PORTION_END (R15): the position within the hour has reached the zone's adjusted duty × 60. -/
def execDutyPortionEnd (z : Nat) (s : State) : Host.Outcome State Fault Refusal :=
  act ((s.zone.table[z]?).any fun ze => decide (adjustedDuty s.acct.tank ze * 60 ≤ hourPosition s)) (evaluateZones [z]) s

/-! ### The burner lines (R22) -/

/-- A raw input changes (R22): the timer runs anew while the raw input differs from the debounced value. -/
def rawChange (level : Bool) (now : Nat) (d : Debounce) : Debounce :=
  { d with raw := level, timer := if level = d.value then none else some now }

/-- A debounce timer has run out toward `level` (R22). -/
def debounced (d : Debounce) (level : Bool) (stable now : Nat) : Bool :=
  d.raw = level && d.value ≠ level && ranOut d.timer stable now

/-- The debounced value takes the raw level (R22). -/
def settleDebounce (d : Debounce) : Debounce := { d with value := d.raw, timer := none }

/-- RUN_SENSE_CHANGE (R22). -/
def execRunSenseChange (level : Bool) (s : State) : Host.Outcome State Fault Refusal :=
  act (s.sup.run.raw ≠ level)
    (fun s => s.setSup { s.sup with run := rawChange level s.tenths s.sup.run }) s

/-- LOCKOUT_SENSE_CHANGE (R22). -/
def execLockoutSenseChange (level : Bool) (s : State) : Host.Outcome State Fault Refusal :=
  act (s.sup.lockout.raw ≠ level)
    (fun s => s.setSup { s.sup with lockout := rawChange level s.tenths s.sup.lockout }) s

/-- The run record after a RUN rise (R23). -/
def riseRecord (call : Bool) (now : Nat) (r : RunRecord) : RunRecord :=
  if call then { r with active := true, rise := now, start := now, seen := true }
  else { r with active := true, rise := now, start := now, uncalled := bump r.uncalled }

/-- A RUN rise (R23, R33, R34): the first of the call starts the hold extension. -/
def runRise (s : State) : State :=
  let s := s.setSup { s.sup with
    run := settleDebounce s.sup.run, rr := riseRecord (callAsserted s) s.tenths s.sup.rr }
  let s := match s.sup.state with
    | .calling => startHoldExtension (s.setSup { s.sup with state := .firing, startWindow := none })
    | .holding => s.setSup { s.sup with state := .firing }
    | _ => s
  recRunEdge true s

/-- A RUN fall (R24, R34). -/
def runFall (s : State) : State :=
  let s := s.setSup { s.sup with run := settleDebounce s.sup.run }
  let s := creditBurn (s.tenths - s.sup.rr.start) s
  let s := s.setSup { s.sup with
    rr := { s.sup.rr with
      lastDuration := s.tenths - s.sup.rr.rise, burnCount := bump s.sup.rr.burnCount, active := false } }
  let s := recRunEdge false (markMinOff s)
  if s.sup.state = .firing then s.setSup { s.sup with state := .holding } else s

/-- RUN_RISE (R23). -/
def execRunRise (s : State) : Host.Outcome State Fault Refusal :=
  act (debounced s.sup.run true runStable s.tenths) runRise s

/-- RUN_FALL (R24). -/
def execRunFall (s : State) : Host.Outcome State Fault Refusal :=
  act (debounced s.sup.run false runStable s.tenths) runFall s

/-- A lockout taken (R26): handed to the recovery unit with the facts of this instant, then the supervisor is LOCKED. -/
def lockoutTaken (s : State) : State :=
  let s := s.setSup { s.sup with lockout := settleDebounce s.sup.lockout }
  enterLocked (recLockoutTaken s.sup.state (callAsserted s) s.sup.rr.seen s)

/-- LOCKOUT_TAKEN (R26). -/
def execLockoutTaken (s : State) : Host.Outcome State Fault Refusal :=
  act (debounced s.sup.lockout true lockoutStable s.tenths) lockoutTaken s

/-- LOCKOUT_RELEASED (R59). -/
def execLockoutReleased (s : State) : Host.Outcome State Fault Refusal :=
  act (debounced s.sup.lockout false lockoutStable s.tenths)
    (fun s => recLockoutReleased (s.setSup { s.sup with lockout := settleDebounce s.sup.lockout })) s

/-! ### The supervisor's timers (R33, R35, R39 to R41) -/

/-- MIN_OFF_ELAPSED (R39). -/
def execMinOffElapsed (s : State) : Host.Outcome State Fault Refusal := act (minOffElapsed s) testSupervisor s

/-- MIN_ON_EXPIRY (R35). -/
def execMinOnExpiry (s : State) : Host.Outcome State Fault Refusal :=
  act (callAsserted s && minOnPassed s) testSupervisor s

/-- START_WINDOW_EXPIRY (R33): START_OVERDUE is raised, once in a call. -/
def execStartWindowExpiry (s : State) : Host.Outcome State Fault Refusal :=
  act (s.sup.state = .calling && ranOut s.sup.startWindow startWindowTenths s.tenths)
    (fun s => raiseEvent .startOverdue (s.setSup { s.sup with startWindow := none })) s

/-- The pump overrun has run out (R40). -/
def overrunDue (s : State) : Bool := ranOut s.sup.overrun (s.sup.set.pumpOverrun * 10) s.tenths

/-- PUMP_OVERRUN_EXPIRY (R40). -/
def execPumpOverrunExpiry (s : State) : Host.Outcome State Fault Refusal := act (overrunDue s) dropPump s

/-- The hold extension has run out (R41). -/
def holdExtDue (s : State) : Bool := ranOut s.sup.holdExt (s.sup.set.holdExtend * 10) s.tenths

/-- The hold extension expires (R41). -/
def endHoldExtension (s : State) : State := setBurnerStart false (s.setSup { s.sup with holdExt := none })

/-- HOLD_EXTEND_EXPIRY (R41). -/
def execHoldExtendExpiry (s : State) : Host.Outcome State Fault Refusal := act (holdExtDue s) endHoldExtension s

/-! ### The recovery unit's timers (R52 to R58) -/

/-- RETRY_DUE (R52). -/
def execRetryDue (s : State) : Host.Outcome State Fault Refusal := act (attemptDue s) decideAttempt s

/-- RESET_PULSE_END (R56). -/
def execResetPulseEnd (s : State) : Host.Outcome State Fault Refusal :=
  act (s.recov.state = .pulsing && ranOut s.recov.pulseEnd 0 s.tenths) enterConfirming s

/-- CONFIRM_TIMEOUT (R57). -/
def execConfirmTimeout (s : State) : Host.Outcome State Fault Refusal :=
  act (s.recov.state = .confirming && ranOut s.recov.confirmFrom confirmTenths s.tenths) attemptNotCleared s

/-- The episode closes (R58). -/
def closeEpisode (s : State) : State := s.setRecov { s.recov with state := .closed, episode := none }

/-- PROVING_COMPLETE (R58): RUN has been active for 120 s since the proving start. -/
def execProvingComplete (s : State) : Host.Outcome State Fault Refusal :=
  act (s.recov.state = .proving && s.sup.rr.active &&
      ranOut (s.recov.episode.bind (·.proving)) provingTenths s.tenths)
    closeEpisode s

/-- RESET_HISTORY_LAPSE (R54): each second; the P line is arbitrated as well (R161). -/
def execResetHistoryLapse (s : State) : Host.Outcome State Fault Refusal :=
  act true (fun s => wakeSched (applyLapses s)) s

/-! ### Oil and level timers (R82, R83, R118) -/

/-- The open delivery record's timeout has come (R118). -/
def deliveryDue (s : State) : Bool :=
  s.acct.deliveries.getLast?.any fun d => d.reason.isNone && decide (d.openTime + deliveryTimeoutTime ≤ s.sec)

/-- DELIVERY_TIMEOUT (R118). -/
def execDeliveryTimeout (s : State) : Host.Outcome State Fault Refusal :=
  act (deliveryDue s) (endDelivery .timeout) s

/-- STALE_TIMER_EXPIRY (R83). -/
def execStaleTimerExpiry (s : State) : Host.Outcome State Fault Refusal :=
  act (ranOut s.level.staleFrom staleTime s.sec) staleExpiry s

/-- SERVICE_HOLD_EXPIRY (R82). -/
def execServiceHoldExpiry (s : State) : Host.Outcome State Fault Refusal :=
  act (ranOut s.level.serviceFrom serviceHoldTime s.sec) (holdTank false) s

end Sys2Proof.Machine
end

