-- ==== Sys2Proof/Machine/Operands.lean ====
section
/-! DEFINITION. The form of requests and items (R125, R170, R171): statuses, the object table, actions, and the encoding of an
item's fields with its presence bytes and parts. -/

namespace Sys2Proof.Machine

/-! ### Codes (R125) -/

/-- Response statuses (R125). -/
inductive Status where
  | ok
  | clamped
  | busy
  | refused
  | badObject
  | badIndex
  | badValue
  | denied
  | failed
deriving DecidableEq, Repr, Inhabited

/-- Status code. -/
def Status.code : Status → Byte
  | .ok => 0
  | .clamped => 1
  | .busy => 2
  | .refused => 3
  | .badObject => 4
  | .badIndex => 5
  | .badValue => 6
  | .denied => 7
  | .failed => 8

/-- The ops of a request (R125). -/
inductive Op where
  | read
  | write
  | action
deriving DecidableEq, Repr, Inhabited

/-- The op byte. -/
def Op.code : Op → Byte
  | .read => 1
  | .write => 2
  | .action => 3

/-- The op of a byte. -/
def readOp (b : Byte) : Option Op :=
  if b = 1 then some .read else if b = 2 then some .write else if b = 3 then some .action else none

/-! ### The object table (R170) -/

/-- The objects. -/
inductive Obj where
  | ident
  | enrol
  | zone
  | zoneState
  | node
  | poll
  | valve
  | strapActive
  | strapStaged
  | tankSet
  | level
  | volume
  | history
  | tankState
  | periodLog
  | deliveryLog
  | burnerSet
  | burnerState
  | recoverySet
  | recoveryState
  | resetHistory
  | lockoutLog
  | portCounters
  | relayCounters
  | notice
deriving DecidableEq, Repr, Inhabited

/-- The objects in the order of their numbers, from 1. -/
def allObjects : List Obj :=
  [.ident, .enrol, .zone, .zoneState, .node, .poll, .valve, .strapActive, .strapStaged, .tankSet, .level, .volume,
   .history, .tankState, .periodLog, .deliveryLog, .burnerSet, .burnerState, .recoverySet, .recoveryState,
   .resetHistory, .lockoutLog, .portCounters, .relayCounters, .notice]

/-- The object of a number. -/
def objOf (b : Byte) : Option Obj := if b = 0 then none else allObjects[b.toNat - 1]?

/-- The last index of an object's range (R170, R171). -/
def Obj.lastIndex : Obj → Nat
  | .ident => 3
  | .enrol => 15
  | .zone => 8
  | .zoneState => 7
  | .node => 23
  | .poll => 12
  | .valve => 11
  | .strapActive => 32
  | .strapStaged => 32
  | .tankSet => 15
  | .level => 6
  | .volume => 0
  | .history => 3
  | .tankState => 5
  | .periodLog => 3
  | .deliveryLog => 7
  | .burnerSet => 3
  | .burnerState => 6
  | .recoverySet => 5
  | .recoveryState => 6
  | .resetHistory => 7
  | .lockoutLog => 7
  | .portCounters => 3
  | .relayCounters => 22
  | .notice => 1

/-- Whether an index is a counter index: a write of 0 there clears its counters (R170, R171). Index 22 of RELAY_COUNTERS, the
broadcast counts, is none: they are no counters of R156's table (DESIGN CHOICE, log 37). -/
def Obj.isCounter : Obj → Nat → Bool
  | .ident, i => i = 3
  | .poll, i => i = 12
  | .level, i => i = 6
  | .burnerState, i => i = 1
  | .portCounters, _ => true
  | .relayCounters, i => i ≤ 18
  | _, _ => false

/-- Whether an index may be written as a setting or a table slot (R170). -/
def Obj.isSetting : Obj → Nat → Bool
  | .enrol, _ => true
  | .zone, _ => true
  | .poll, i => i ≤ 11
  | .strapStaged, _ => true
  | .tankSet, _ => true
  | .burnerSet, _ => true
  | .recoverySet, _ => true
  | .relayCounters, i => 19 ≤ i && i ≤ 21
  | .notice, i => i = 1
  | _, _ => false

/-- The actions (R173). -/
inductive Action where
  | swapStrap
  | store
  | clearNotice
  | resetBurner
  | clearHardLock
  | holdTank
  | forgetLevel
  | restart
deriving DecidableEq, Repr, Inhabited

/-- The actions in the order of their numbers, from 1. -/
def allActions : List Action :=
  [.swapStrap, .store, .clearNotice, .resetBurner, .clearHardLock, .holdTank, .forgetLevel, .restart]

/-- The action of a number. -/
def actionOf (b : Byte) : Option Action := if b = 0 then none else allActions[b.toNat - 1]?

/-- The last index of an action (R173). -/
def Action.lastIndex : Action → Nat
  | .holdTank => 1
  | _ => 0

/-- The data bytes an action carries (R173). -/
def Action.dataLength : Action → Nat
  | .clearNotice => 2
  | _ => 0

/-! ### Fields of an item (R171, log 24) -/

/-- One encoded field: its bytes, and for an optional field whether it is present. -/
structure Field where
  bytes : List Byte
  present : Option Bool

/-- An unsigned field of `w` bytes. -/
def num (w v : Nat) : Field := { bytes := beBytes w v, present := none }

/-- A signed field of two bytes. -/
def snum (v : Int) : Field := { bytes := beSigned 2 v, present := none }

/-- A coded field. -/
def coded (b : Byte) : Field := { bytes := [b], present := none }

/-- A flag. -/
def flag (b : Bool) : Field := coded (flagByte b)

/-- An optional field from the bytes of its value; absent it is zeros of the width. -/
def optField {α : Type} (w : Nat) (f : α → List Byte) (o : Option α) : Field :=
  { bytes := (o.map f).getD (List.replicate w 0), present := some o.isSome }

/-- An optional unsigned field. -/
def optNum (w : Nat) (o : Option Nat) : Field := optField w (beBytes w) o

/-- An optional signed field. -/
def optSigned (w : Nat) (o : Option Int) : Field := optField w (beSigned w) o

/-- An optional coded field. -/
def optCoded (o : Option Byte) : Field := optField 1 (fun b => [b]) o

/-- The flags of one presence byte as a number, bit i for the i-th. -/
def bitsOf : List Bool → Nat
  | [] => 0
  | b :: bs => (if b then 1 else 0) + 2 * bitsOf bs

/-- The presence byte of an item: one for each eight optional fields, and no item has more than eight. -/
def presenceBytes (fs : List Field) : List Byte :=
  match fs.filterMap (·.present) with
  | [] => []
  | ps => [BitVec.ofNat 8 (bitsOf ps)]

/-- An item: presence, then the fields in order. -/
def encodeItem (fs : List Field) : List Byte := presenceBytes fs ++ fs.flatMap (·.bytes)

/-- The part of an item that a READ names (R171): none for BAD_VALUE. The item of an empty position has no bytes. -/
def partOf (item : List Byte) : List Byte → Option (List Byte)
  | [] => some (item.take 12)
  | [p] => if p.toNat = 0 || 12 * p.toNat < item.length then some ((item.drop (12 * p.toNat)).take 12) else none
  | _ => none

/-- A set of zones (R171). -/
def zoneSet (zs : List Nat) : Nat := bitsOf ((List.range 8).map fun z => zs.contains z)

end Sys2Proof.Machine
end

