-- ==== Sys2Proof/Machine/Objects.lean ====
section
/-! DEFINITION. What each object shows at each index (R171, log 24): the encoding of every item, in the field order of its
owning rule. An empty position has no bytes. -/

namespace Sys2Proof.Machine

/-! ### Codes numbered in the order their rules list them (R171) -/

/-- A Boolean code: the first-listed value is 0. -/
def code2 (second : Bool) : Byte := if second then 1 else 0

/-- Role code of an enrolment (R1). -/
def Role.code : Role → Byte
  | .roomUnit _ => 0
  | .service => 1
  | .display => 2

/-- Zone class code (R2). -/
def ZoneClass.code : ZoneClass → Byte
  | .unused => 0
  | .essential => 1
  | .normal => 2
  | .low => 3

/-- Zone mode code (R2). -/
def ZoneMode.code : ZoneMode → Byte
  | .select => 0
  | .group => 1

/-- Segment code (R142). -/
def roomCode : Room → Byte
  | .h => 0
  | .y => 1

/-- Reported position code (R159): the codes of VALVE_REPORT, then UNKNOWN, the last that R159 lists (DEDUCED, log 36). -/
def Reported.code : Reported → Byte
  | .closed => 0
  | .opened => 1
  | .moving => 2
  | .fault => 3
  | .unknown => 4

/-- Exchange kind code (R160). -/
def ExKind.code : ExKind → Byte
  | .poll _ => 0
  | .valve _ _ => 1
  | .relay _ => 2

/-- Level status code (R78). -/
def LevelStatus.code : LevelStatus → Byte
  | .none => 0
  | .valid => 1
  | .stale => 2
  | .fault => 3

/-- Range flag code (R97). -/
def RangeFlag.code : RangeFlag → Byte
  | .below => 0
  | .above => 1
  | .none => 2

/-- Skip reason code (R110). -/
def SkipReason.code : SkipReason → Byte
  | .swap => 0
  | .scaling => 1
  | .forget => 2

/-- Period outcome code (R114). -/
def PeriodOutcome.code : PeriodOutcome → Byte
  | .skipped => 0
  | .delivery => 1
  | .overdraw => 2
  | .underdraw => 3
  | .balanced => 4

/-- Close reason code (R117). -/
def CloseReason.code : CloseReason → Byte
  | .settled => 0
  | .timeout => 1
  | .truncated => 2

/-- Supervisor state code: the order of Table 2-1, with IDLE 0. R31, the numbered rule that names all seven states, names CALLING,
FIRING and HOLDING before the other four; R171 does not say which of the two it means (DESIGN CHOICE, log 24). -/
def SupState.code : SupState → Byte
  | .idle => 0
  | .waitOff => 1
  | .calling => 2
  | .firing => 3
  | .holding => 4
  | .locked => 5
  | .inhibited => 6

/-- Recovery state code (R44). -/
def RecState.code : RecState → Byte
  | .closed => 0
  | .waitRetry => 1
  | .pulsing => 2
  | .confirming => 3
  | .proving => 4
  | .fuelWait => 5
  | .hardLock => 6

/-- Cause code: R47's five in the order of its table. R47 gives UNKNOWN (R45) no place in it and the model takes the next code
(DESIGN CHOICE, log 24). -/
def Cause.code : Cause → Byte
  | .fuelEmpty => 0
  | .fuelCold => 1
  | .external => 2
  | .noIgnition => 3
  | .flameLoss => 4
  | .unknown => 5

/-- Kind code of a history entry (R53). -/
def EntryKind.code : EntryKind → Byte
  | .automatic => 0
  | .service => 1
  | .forgiven => 2
  | .lapsed => 3

/-- Outcome code (R53). -/
def AttemptOutcome.code : AttemptOutcome → Byte
  | .pending => 0
  | .cleared => 1
  | .notCleared => 2

/-- Return state code (R45). -/
def ReturnState.code : ReturnState → Byte
  | .waitRetry => 0
  | .fuelWait => 1

/-! ### Items -/

/-- The item of an entry that may be empty. -/
def itemOf {α : Type} (o : Option α) (f : α → List Field) : List Byte := (o.map fun a => encodeItem (f a)).getD []

/-- Position `i` of a log kept oldest first and shown newest first. -/
def newest {α : Type} (xs : List α) (i : Nat) : Option α := xs.reverse[i]?

/-- IDENT (R171). -/
def showIdent (s : State) : Nat → List Field
  | 0 => [num 2 Config.partCode.toNat]
  | 1 => [num 2 Config.mapEdition.toNat]
  | 2 =>
    [flag s.mgmt.storeOk,
     coded (if storeWriting s then 1 else if s.nv.writing.isSome then 2 else 0),
     flag (s.mgmt.job ≠ .none)]
  | _ => [num 2 s.mgmt.badRequest]

/-- An enrolment (R1). -/
def showEnrol (e : Enrolment) : List Field :=
  [num 1 e.addr, coded e.role.code,
   optNum 1 (match e.role with
     | .roomUnit z => some z
     | _ => none)]

/-- A zone-table entry (R2). -/
def showZone (z : ZoneEntry) : List Field :=
  [coded z.cls.code, coded z.mode.code, optNum 1 z.lead, num 2 z.setpoint, num 2 z.ceiling, num 1 z.frost, num 1 z.diff,
   num 1 z.duty, optNum 1 z.valve]

/-- A zone's state, its adjusted duty, and whether it wants heat (R11, R14, R15); an UNUSED zone shows its fallback duty (log
32). -/
def showZoneState (s : State) (z : Nat) : List Field :=
  [coded (s.zone.states.getD z .unused).code,
   num 1 (((s.zone.table[z]?).map (adjustedDuty s.acct.tank)).getD 0),
   flag (s.zone.wanting.contains z)]

/-- A node entry (R4, R142). The fields of a demand part are absent together with it; its setpoint, itself optional, has a
presence bit of its own (DESIGN CHOICE, log 36). -/
def showNode (n : NodeEntry) : List Field :=
  let p := n.part
  [num 1 n.addr, coded (roomCode n.seg), num 4 n.heard, num 1 n.storm, flag n.holdOffSent,
   optField 12
     (fun q : DemandPart =>
       beSigned 2 q.temp ++ beBytes 2 (q.setpoint.getD 0) ++
         [flagByte q.batteryLow, flagByte q.manual, flagByte q.calling, flagByte q.frost] ++ beBytes 4 q.time) p,
   { bytes := [], present := some (p.any fun q => q.setpoint.isSome) }]

/-- A poll-list entry (R158). -/
def showPoll (e : PollEntry) : List Field :=
  [num 1 e.addr, coded (code2 (!e.isGauge)), num 2 e.interval, coded (code2 (!e.present)), num 1 e.misses,
   num 4 e.lastAnswer, num 4 e.due]

/-- The scheduler's own fields and counters (R169). The outstanding exchange is one optional field (DESIGN CHOICE, log 36). -/
def showScheduler (d : Scheduler) : List Field :=
  [num 1 d.rr, num 1 d.relayList.length,
   optField 3 (fun x : Exchange => [x.kind.code, x.node, BitVec.ofNat 8 x.attempt]) d.exch,
   num 2 d.ctr.pollSent, num 2 d.ctr.setSent, num 2 d.ctr.retry, num 2 d.ctr.answered, num 2 d.ctr.badReport,
   num 2 d.ctr.miss, num 2 d.ctr.stray, num 2 d.ctr.relayNoReply]

/-- A valve record with the time left on its travel timer (R159, R169). DESIGN CHOICE, log 36: the time left is an optional
field, absent while the timer is stopped; running is coded 0 and stopped 1. -/
def showValve (now : Nat) (r : ValveRecord) : List Field :=
  [coded (posByte r.desired), num 4 r.since, flag r.pending, coded r.reported.code, flag r.fault, coded (code2 (!r.travel)),
   optNum 2 (if r.travel then some (r.since + valveTravelTenths - now) else none)]

/-- A strapping point (R88). -/
def showPoint (p : Point) : List Field := [num 2 p.depth, num 4 p.vol]

/-- TANK_SET (00, "Parameter summary"). -/
def showTankSet (s : State) : Nat → List Field
  | 0 => [coded (code2 (s.level.set.sense = .ullage))]
  | 1 => [num 2 s.level.set.zero]
  | 2 => [num 2 s.level.set.gain]
  | 3 => [num 2 s.level.set.tankHeight]
  | 4 => [num 2 s.level.set.slew]
  | 5 => [num 1 s.level.set.windowN]
  | 6 => [num 1 s.level.set.order]
  | 7 => [num 2 s.vol.coef]
  | 8 => [num 4 s.acct.set.reserveLevel]
  | 9 => [num 4 s.acct.set.emptyLevel]
  | 10 => [num 4 s.acct.set.hyst]
  | 11 => [num 2 s.acct.set.nozzleRate]
  | 12 => [num 1 s.acct.set.period]
  | 13 => [num 4 s.acct.set.tolFixed]
  | 14 => [num 1 s.acct.set.tolPct]
  | _ => [num 4 s.acct.set.delivMin]

/-- LEVEL (R78, R86). DESIGN CHOICE, log 24: the hold-cause set is one byte, bit 0 BURNER_START and bit 1 SERVICE; the remaining
time of the SERVICE hold is an optional field, absent while no SERVICE hold stands, as is that of a stopped stale timer (log
36). Index 5 shows whether a spike reference is held as a flag and its depth as an optional field, absent with it (log 36). -/
def showLevel (s : State) : Nat → List Field
  | 0 =>
    [optNum 2 s.level.depth, optSigned 2 s.level.temp, num 4 s.level.time, coded s.level.status.code,
     num 1 (bitsOf [s.level.burnerStart, s.level.serviceFrom.isSome])]
  | 1 => [optNum 2 (timeLeft s.level.serviceFrom serviceHoldTime s.sec)]
  | 2 => [optNum 2 (timeLeft s.level.staleFrom staleTime s.sec)]
  | 3 => [num 1 s.level.faultRun, num 1 s.level.spikeRun]
  | 4 => [num 1 s.level.box.count, flag s.level.box.mark]
  | 5 => [flag s.level.prev.isSome, flag s.level.ref.isSome, optNum 2 s.level.ref]
  | _ =>
    let c := s.level.ctr
    [num 2 c.badSample, num 2 c.sensorFault, num 2 c.range, num 2 c.spike, num 2 c.stepRestart, num 2 c.held,
     num 2 c.published]

/-- VOLUME: the record or that it is empty, COEF and the ACTIVE bank's letter (R97). The COEF shown is the one in force, also
where a write has changed it since the record was computed (DESIGN CHOICE, log 35). The record is one optional field, and COEF
and the letter are plain ones: while the record is empty, and no bank produced it, the letter shown is that of the bank now
ACTIVE (DESIGN CHOICE, log 36). -/
def showVolume (v : Volume) : List Field :=
  [optField 17
     (fun r : VolRecord => beBytes 4 r.v ++ beBytes 4 r.v15 ++ beBytes 4 r.space ++ [r.flag.code] ++ beBytes 4 r.time) v.record,
   num 2 v.coef, coded (code2 v.activeB)]

/-- A stage of the chain (R100). -/
def showStage (h : Stage) : List Field := [num 4 h.v15, num 4 h.time]

/-- The open period (R110). Its skip reason, which it has only once it closes, is shown absent (DESIGN CHOICE, log 36). -/
def showPeriod (p : Period) : List Field :=
  [num 4 p.start, num 4 p.startV15, num 4 p.burn, flag p.delivery, optCoded none]

/-- TANK_STATE (R120). DESIGN CHOICE, log 36: an absent last H0, as no open period, is an empty item (R170) and no optional
field of R171: it sends neither a presence byte nor item bytes. The settle count and the time left of index 5 are optional
fields, absent while no delivery record is open. -/
def showTankState (s : State) : Nat → List Byte
  | 0 => encodeItem [coded s.acct.tank.code]
  | 1 => encodeItem [num 4 s.acct.accum, num 4 s.acct.residue]
  | 2 => itemOf s.acct.period showPeriod
  | 3 => encodeItem [num 1 s.acct.leak]
  | 4 => itemOf s.acct.lastH0 showStage
  | _ =>
    let d := s.acct.deliveries.getLast?.filter fun d => d.reason.isNone
    encodeItem
      [flag d.isSome, optNum 1 (d.map (·.settle)),
       optNum 2 (d.map fun d => d.openTime + deliveryTimeoutTime - s.sec)]

/-- A closed period record (R114). -/
def showPeriodRecord (r : PeriodRecord) : List Field :=
  [num 4 r.start, num 4 r.stop, num 4 r.startV15, optNum 4 r.endV15, num 4 r.burn, optSigned 4 r.drop,
   optSigned 4 r.discrepancy, coded r.outcome.code, optCoded (r.skip.map (·.code))]

/-- A delivery record (R117). A closed record shows the settle count it closed with (DESIGN CHOICE, log 35). -/
def showDelivery (d : DeliveryRecord) : List Field :=
  [num 4 d.start, num 4 d.startV15, num 4 d.openTime, num 1 d.settle, optNum 4 d.stop, optNum 4 d.endV15,
   optSigned 4 d.delivered, optCoded (d.reason.map (·.code))]

/-- BURNER_SET (00). -/
def showBurnerSet (b : BurnerSet) : Nat → List Field
  | 0 => [num 2 b.minOn]
  | 1 => [num 2 b.minOff]
  | 2 => [num 2 b.pumpOverrun]
  | _ => [num 2 b.holdExtend]

/-- The time left of min-off, in tenths: absent when it has elapsed, and while RUN is active, when min-off is pending (R39,
R42). DESIGN CHOICE, log 36: the spec does not say whether the timer of a pending min-off counts as running. -/
def minOffLeft (s : State) : Option Nat :=
  if s.sup.rr.active || minOffElapsed s then none else some (s.sup.minOffRef + s.sup.set.minOff * 10 - s.tenths)

/-- The time left of min-on: absent when no call runs or it has expired, for it then no longer runs (R35, R42). -/
def minOnLeft (s : State) : Option Nat :=
  if minOnPassed s then none else timeLeft s.sup.minOn (s.sup.set.minOn * 10) s.tenths

/-- BURNER_STATE (R42). DESIGN CHOICE, log 36: the debounced RUN and LOCKOUT of index 6 are flags (1 is active), no codes of a
listed pair. -/
def showBurnerState (s : State) : Nat → List Field
  | 0 => [coded s.sup.state.code]
  | 1 =>
    let r := s.sup.rr
    [flag r.active, num 4 r.rise, num 4 r.start, num 4 r.lastDuration, num 2 r.burnCount, flag r.seen, num 2 r.uncalled]
  | 2 => [num 1 (zoneSet s.sup.served), num 1 (zoneSet s.sup.heldSet)]
  | 3 =>
    [optNum 2 (minOnLeft s), optNum 2 (minOffLeft s),
     optNum 2 (timeLeft s.sup.overrun (s.sup.set.pumpOverrun * 10) s.tenths),
     optNum 2 (timeLeft s.sup.startWindow startWindowTenths s.tenths),
     optNum 2 (timeLeft s.sup.holdExt (s.sup.set.holdExtend * 10) s.tenths)]
  | 4 => [flag (minOffElapsed s)]
  | 5 => [flag s.level.burnerStart]
  | _ => [flag s.sup.run.value, flag s.sup.lockout.value]

/-- RECOVERY_SET (00). -/
def showRecoverySet (r : RecoverySet) : Nat → List Field
  | 0 => [num 2 r.retryBase]
  | 1 => [num 2 r.cap]
  | 2 => [num 4 r.window]
  | 3 => [num 1 r.budget]
  | 4 => [num 1 r.resetWidth]
  | _ => [snum r.waxTemp]

/-- The episode record with the due time and the time remaining to it (R45, R68). The position of the attempt's entry is
counted from 0 at the oldest (DESIGN CHOICE, log 24). The attempt is one optional field, and the time remaining, in tenths, is
absent with the due time and stands last, after the fields of R45 (DESIGN CHOICE, log 36). -/
def showEpisode (s : State) (e : Episode) : List Field :=
  let due := dueTime s.recov.set e
  [num 2 e.number, num 1 e.k, coded e.cause.code, optNum 4 e.ref, optNum 4 due,
   optField 2 (fun a : Attempt => [code2 (!a.automatic), BitVec.ofNat 8 a.pos]) e.attempt,
   optCoded (e.ret.map (·.code)), optNum 4 e.proving, optNum 4 (due.map fun d => d - s.tenths)]

/-- An automatic attempt awaits its safety write (R55, R68). -/
def awaitsWrite (s : State) : Bool := s.recov.state = .waitRetry && (attemptInHand s).isSome

/-- RECOVERY_STATE (R68). In CLOSED the episode record is an empty item (DESIGN CHOICE, log 36). -/
def showRecoveryState (s : State) : Nat → List Byte
  | 0 => encodeItem [coded s.recov.state.code, flag (blocking s)]
  | 1 => itemOf s.recov.episode (showEpisode s)
  | 2 => encodeItem [flag (awaitsWrite s)]
  | 3 => encodeItem [num 1 (autoCount s.recov.safe.history), num 1 s.recov.set.budget]
  | 4 => encodeItem [flag s.recov.safe.flag, num 2 s.recov.safe.episode, coded s.recov.safe.cause.code]
  | 5 => encodeItem [num 2 s.recov.counter]
  | _ => encodeItem [flag (s.nv.waiting || s.nv.writing.isSome)]

/-- A reset-history entry (R53). -/
def showHistEntry (e : HistEntry) : List Field := [num 4 e.time, coded e.kind.code, num 2 e.episode, coded e.outcome.code]

/-- A lockout record (R46). -/
def showLockout (r : LockoutRecord) : List Field :=
  [num 2 r.episode, num 4 r.time, coded r.cause.code, coded r.sup.code, flag r.seen, coded r.tank.code, optNum 4 r.v15,
   optSigned 2 r.temp]

/-- A port's state, queue depth and counters (R140). -/
def showPort (q : PortState) : List Field :=
  let c := q.ctr
  [coded (code2 (q.mode = .broken)), num 1 q.queue.length, num 2 c.rxGood, num 2 c.parity, num 2 c.framing,
   num 2 c.length, num 2 c.check, num 2 c.noBuffer, num 2 c.badAddress, num 2 c.breaks, num 2 c.flushed,
   num 2 c.queueFull, num 2 c.txSent, num 2 c.collision, num 2 c.excessCollision, num 2 c.lateCollision, num 2 c.txFail]

/-- PORT_COUNTERS (R140, R171). -/
def showPortCounters (s : State) : Nat → List Field
  | 0 => showPort s.portH
  | 1 => showPort s.portY
  | 2 => showPort s.portP
  | _ => [coded (code2 s.pool.held), num 1 s.pool.free, num 2 s.pool.genDropped, num 2 s.pool.holdEntry]

/-- The relay counters in the order of R156's table. -/
def relayCounterList (c : RelayCounters) : List Nat :=
  [c.learned, c.evicted, c.migrated, c.aged, c.nodeStorm, c.holdOffSent, c.foreignKind, c.unknownKind, c.localDest,
   c.plantGuard, c.segmentDown, c.bcastDrop, c.relayedH, c.relayedY, c.relayedP, c.relayListFull, c.returned]

/-- RELAY_COUNTERS (R156, R171). -/
def showRelayCounters (s : State) (i : Nat) : List Field :=
  match (relayCounterList s.relay.ctr)[i]? with
  | some v => [num 2 v]
  | none =>
    if i = 17 then [num 2 s.zone.badDemand]
    else if i = 18 then [num 2 s.zone.unenrolled]
    else if i = 19 then [num 2 s.relay.set.ageLimit]
    else if i = 20 then [num 1 s.relay.set.nodeCap]
    else if i = 21 then [num 1 s.relay.set.bcastCap]
    else [num 1 s.relay.bcastH, num 1 s.relay.bcastY]

/-- The encoding of the item of an object at an index within its range; an empty position has no bytes (R170, R171). The letter
of the ACTIVE bank is shown at index 32 alone, not with the points at 0 to 31 (R89; DESIGN CHOICE, log 36). -/
def showItem (s : State) (o : Obj) (i : Nat) : List Byte :=
  match o with
  | .ident => encodeItem (showIdent s i)
  | .enrol => itemOf (slotGet s.zone.enrol i) showEnrol
  | .zone => if i = 8 then encodeItem [num 1 s.zone.setback] else itemOf s.zone.table[i]? showZone
  | .zoneState => encodeItem (showZoneState s i)
  | .node => itemOf (slotGet s.relay.nodes i) showNode
  | .poll => if i = 12 then encodeItem (showScheduler s.sched) else itemOf (slotGet s.sched.slots i) showPoll
  | .valve => itemOf (recordOf s i) (showValve s.tenths)
  | .strapActive =>
    if i = 32 then encodeItem [num 1 (activeBank s.vol).n, coded (code2 s.vol.activeB)]
    else itemOf (activeBank s.vol).points[i]? showPoint
  | .strapStaged =>
    if i = 32 then encodeItem [num 1 (stagedBank s.vol).n] else itemOf (stagedBank s.vol).points[i]? showPoint
  | .tankSet => encodeItem (showTankSet s i)
  | .level => encodeItem (showLevel s i)
  | .volume => encodeItem (showVolume s.vol)
  | .history => itemOf s.vol.chain[i]? showStage
  | .tankState => showTankState s i
  | .periodLog => itemOf (newest s.acct.periods i) showPeriodRecord
  | .deliveryLog => itemOf (newest s.acct.deliveries i) showDelivery
  | .burnerSet => encodeItem (showBurnerSet s.sup.set i)
  | .burnerState => encodeItem (showBurnerState s i)
  | .recoverySet => encodeItem (showRecoverySet s.recov.set i)
  | .recoveryState => showRecoveryState s i
  | .resetHistory => itemOf (newest s.recov.safe.history i) showHistEntry
  | .lockoutLog => itemOf (newest s.recov.log i) showLockout
  | .portCounters => encodeItem (showPortCounters s i)
  | .relayCounters => encodeItem (showRelayCounters s i)
  | .notice => encodeItem [num 2 (if i = 0 then (pendingSet s).toNat else s.mgmt.mask.toNat)]

end Sys2Proof.Machine
end

