-- ==== Sys2Proof/Machine/Writes.lean ====
section
/-! DEFINITION. The writes of R172, object by object: clamping, the structural checks on the clamped values, and the effects
each owner gives a taken write. A write answers `none` for BAD_VALUE, else whether it clamped and the state after. -/

namespace Sys2Proof.Machine

/-- The answer of a write: none for BAD_VALUE; else whether a field was clamped, and the state after. -/
abbrev WriteResult := Option (Bool × State)

/-- A numeric field written as `w` bytes and clamped to its range: none when the data length does not match. -/
def writeNum (w lo hi : Nat) (data : List Byte) (k : Nat → State) : WriteResult :=
  if data.length = w then
    let v := ofBytes data
    some (decide (clampNat lo hi v ≠ v), k (clampNat lo hi v))
  else none

/-! ### ENROL (R1, R19, R147) -/

/-- Replace the enrolment map. -/
def setEnrol (m : List (Option Enrolment)) (s : State) : State := s.setZone { s.zone with enrol := m }

/-- The zone of an enrolment. -/
def Enrolment.zone? (e : Enrolment) : Option Nat :=
  match e.role with
  | .roomUnit z => some z
  | _ => none

/-- An enrolment entry is made, removed or changed at one address, with its effects on the node table and the zones (R19,
R147). -/
def changeEnrol (idx : Nat) (old new : Option Enrolment) (s : State) : State :=
  let s := setEnrol (s.zone.enrol.set idx new) s
  let zOld := old.bind Enrolment.zone?
  let zNew := new.bind Enrolment.zone?
  if zOld = zNew then s
  else
    let s := match old with
      | none => s
      | some e =>
        if zOld.isNone then s else if zNew.isNone then deletePart e.addr s else rerunAddr e.addr s
    evaluateZones (zOld.toList ++ zNew.toList) s

/-- Apply an enrolment write that passed its checks; a changed address is a removal followed by a new entry (R19). -/
def applyEnrol (idx : Nat) (new : Option Enrolment) (s : State) : State :=
  let old := slotGet s.zone.enrol idx
  match old, new with
  | some o, some n =>
    if o.addr = n.addr then changeEnrol idx old new s
    else changeEnrol idx none new (changeEnrol idx old none s)
  | _, _ => changeEnrol idx old new s

/-- Read a role with its zone; a ROOM_UNIT has a zone and no other role has one (R1). -/
def readRole (code : Byte) (zone : Option Nat) : Option Role :=
  match zone with
  | some z => if code = 0 then some (.roomUnit z) else none
  | none => if code = 1 then some .service else if code = 2 then some .display else none

/-- Whether a slot other than `idx` satisfies `f`. -/
def otherSlot {α : Type} (f : α → Bool) (xs : List (Option α)) (idx : Nat) : Bool :=
  (numbered xs).any fun io => decide (io.1 ≠ idx) && io.2.any f

/-- A write of an ENROL slot (R1, R172). The zone byte of an absent zone is ignored (DESIGN CHOICE, log 25). -/
def writeEnrol (idx : Nat) (data : List Byte) (s : State) : WriteResult :=
  match data with
  | [] => some (false, applyEnrol idx none s)
  | [p, a, r, z] =>
    let addr := clampNat 1 125 a.toNat
    let zone := clampNat 0 7 z.toNat
    match readRole r (if p.getLsbD 0 then some zone else none) with
    | none => none
    | some role =>
      if otherSlot (fun e => e.addr = addr) s.zone.enrol idx || inPollList s addr then none
      else
        some (decide (addr ≠ a.toNat) || (p.getLsbD 0 && decide (zone ≠ z.toNat)),
          applyEnrol idx (some { addr := addr, role := role }) s)
  | _ => none

/-! ### ZONE (R2, R20, R30) -/

/-- Apply a zone-table write that passed its checks, in the order of R20 and R30 (log 26). -/
def applyZone (z : Nat) (new : ZoneEntry) (s : State) : State :=
  match s.zone.table[z]? with
  | none => s
  | some old =>
    let wanted := s.zone.wanting
    let s := rerunParts (fun i => i = z) (s.setZone { s.zone with table := s.zone.table.set z new })
    let s := settleNotices (evaluated [z] s)
    let s := if old.valve = new.valve then s else takeValveNode z old.valve s.zone.wanting s
    if s.zone.wanting ≠ wanted then takeWanting s.zone.wanting s
    else if old.valve ≠ new.valve || old.cls ≠ new.cls then recompute s
    else s

/-- The class of a code (R2). -/
def readClass (b : Byte) : Option ZoneClass :=
  if b = 0 then some .unused else if b = 1 then some .essential else if b = 2 then some .normal
  else if b = 3 then some .low else none

/-- The mode of a code (R2). -/
def readMode (b : Byte) : Option ZoneMode := if b = 0 then some .select else if b = 1 then some .group else none

/-- A valve node as the table may hold it: absent, or a VALVE entry that no other zone names (R2). -/
def valveNodeFits (z : Nat) (valve : Option Nat) (s : State) : Bool :=
  match valve with
  | none => true
  | some a =>
    (valveSlot s a).isSome &&
      !((numbered s.zone.table).any fun ie => decide (ie.1 ≠ z) && decide (ie.2.valve = some a))

/-- A write of a ZONE entry (R2, R172). The bytes of an absent lead unit or valve node are ignored (DESIGN CHOICE, log 25). -/
def writeZone (z : Nat) (data : List Byte) (s : State) : WriteResult :=
  match data with
  | [p, cls, mode, lead, sp1, sp0, ce1, ce0, frost, diff, duty, valve] =>
    match readClass cls, readMode mode with
    | some cls, some mode =>
      let setpoint := ofBytes [sp1, sp0]
      let ceiling := ofBytes [ce1, ce0]
      let leadIn : Option Nat := if p.getLsbD 0 then some lead.toNat else none
      let valveIn : Option Nat := if p.getLsbD 1 then some valve.toNat else none
      let new : ZoneEntry :=
        { cls := cls, mode := mode, lead := leadIn.map (clampNat 1 125), setpoint := clampNat 50 300 setpoint,
          ceiling := clampNat 50 300 ceiling, frost := clampNat 30 100 frost.toNat, diff := clampNat 2 30 diff.toNat,
          duty := clampNat 0 60 duty.toNat, valve := valveIn.map (clampNat 1 125) }
      let given : ZoneEntry :=
        { cls := cls, mode := mode, lead := leadIn, setpoint := setpoint, ceiling := ceiling, frost := frost.toNat,
          diff := diff.toNat, duty := duty.toNat, valve := valveIn }
      if valveNodeFits z new.valve s then some (decide (new ≠ given), applyZone z new s) else none
    | _, _ => none
  | _ => none

/-- A write of RESERVE_SETBACK (R9). -/
def writeSetback (data : List Byte) (s : State) : WriteResult :=
  writeNum 1 0 100 data fun v => evaluateAll (rerunParts (fun _ => true) (s.setZone { s.zone with setback := v }))

/-! ### POLL (R158) -/

/-- Whether a zone's valve node names the entry. -/
def namedByZone (e : PollEntry) (s : State) : Bool :=
  !e.isGauge && s.zone.table.any fun z => z.valve = some e.addr

/-- Whether a write would remove or change an entry that a zone names (R158, R172). -/
def breaksName (idx : Nat) (new : Option PollCfg) (s : State) : Bool :=
  (slotGet s.sched.slots idx).any fun e =>
    namedByZone e s && !(new.any fun c => decide (c.addr = e.addr) && c.isValve)

/-- A write of a POLL slot (R158, R172). -/
def writePoll (idx : Nat) (data : List Byte) (s : State) : WriteResult :=
  match data with
  | [] => if breaksName idx none s then none else some (false, applyPollWrite idx none s)
  | [a, r, i1, i0] =>
    let addr := clampNat 1 125 a.toNat
    let interval := clampNat 2 600 (ofBytes [i1, i0])
    if r ≠ 0 && r ≠ 1 then none
    else
      let c : PollCfg := { addr := addr, isValve := r = 1, interval := interval }
      if otherSlot (fun e => e.addr = addr) s.sched.slots idx || (enrolOf s addr).isSome ||
          (!c.isValve && otherSlot PollEntry.isGauge s.sched.slots idx) || breaksName idx (some c) s then none
      else
        some (decide (addr ≠ a.toNat) || decide (interval ≠ ofBytes [i1, i0]), applyPollWrite idx (some c) s)
  | _ => none

/-! ### STRAP_STAGED (R89) -/

/-- Change the STAGED bank. -/
def modStaged (f : Bank → Bank) (s : State) : State := s.setVol (setStaged (f (stagedBank s.vol)) s.vol)

/-- A write of a position or of the count of the STAGED bank (R89). -/
def writeStaged (idx : Nat) (data : List Byte) (s : State) : WriteResult :=
  if idx = 32 then writeNum 1 0 32 data fun n => modStaged (fun b => { b with n := n }) s
  else
    match data with
    | [d1, d0, v3, v2, v1, v0] =>
      let given := ofBytes [v3, v2, v1, v0]
      let vol := clampNat 0 1000000 given
      some (decide (vol ≠ given),
        modStaged (fun b => { b with points := b.points.set idx { depth := ofBytes [d1, d0], vol := vol } }) s)
    | _ => none

/-! ### TANK_SET (R72, R73, R76, R96, R106) -/

/-- A scaling setting takes its value; only a changed value is a scaling change (R72). -/
def applyScaling (set : LevelSet) (s : State) : State := if set = s.level.set then s else scalingChange set s

/-- WINDOW_N or ORDER takes its value; only a changed value restarts the filter (R76). -/
def applyShape (set : LevelSet) (s : State) : State := if set = s.level.set then s else shapeChange set s

/-- The largest of 4, 8, 16 and 32 not above a value, or 4 (R76). -/
def clampWindow (v : Nat) : Nat := if 32 ≤ v then 32 else if 16 ≤ v then 16 else if 8 ≤ v then 8 else 4

/-- Replace the accounting settings. -/
def setAcctSet (set : AcctSet) (s : State) : State := s.setAcct { s.acct with set := set }

/-- A write of a tank level, refused when EMPTY_LEVEL would not lie below RESERVE_LEVEL (R106). -/
def writeLevels (w lo hi : Nat) (data : List Byte) (k : Nat → AcctSet) (s : State) : WriteResult :=
  (writeNum w lo hi data fun v => setAcctSet (k v) s).filter fun r =>
    decide (r.2.acct.set.emptyLevel < r.2.acct.set.reserveLevel)

/-- A write of TANK_SET at an index (R171, R172). -/
def writeTankSet (idx : Nat) (data : List Byte) (s : State) : WriteResult :=
  let l := s.level.set
  let a := s.acct.set
  match idx with
  | 0 =>
    match data with
    | [b] =>
      if b = 0 then some (false, applyScaling { l with sense := .head } s)
      else if b = 1 then some (false, applyScaling { l with sense := .ullage } s)
      else none
    | _ => none
  | 1 => writeNum 2 0 65535 data fun v => applyScaling { l with zero := v } s
  | 2 => writeNum 2 1 65535 data fun v => applyScaling { l with gain := v } s
  | 3 => writeNum 2 1 65535 data fun v => applyScaling { l with tankHeight := v } s
  | 4 => writeNum 2 0 5000 data fun v => modLevel (fun f => { f with set := { l with slew := v } }) s
  | 5 =>
    match data with
    | [b] =>
      some (decide (clampWindow b.toNat ≠ b.toNat), applyShape { l with windowN := clampWindow b.toNat } s)
    | _ => none
  | 6 => writeNum 1 1 2 data fun v => applyShape { l with order := v } s
  | 7 => writeNum 2 0 2000 data fun v => s.setVol { s.vol with coef := v }
  | 8 => writeLevels 4 1 1000000 data (fun v => { a with reserveLevel := v }) s
  | 9 => writeLevels 4 0 999999 data (fun v => { a with emptyLevel := v }) s
  | 10 => writeLevels 4 0 100000 data (fun v => { a with hyst := v }) s
  | 11 => writeNum 2 500 20000 data fun v => setAcctSet { a with nozzleRate := v } s
  | 12 => writeNum 1 1 24 data fun v => setAcctSet { a with period := v } s
  | 13 => writeNum 4 0 100000 data fun v => setAcctSet { a with tolFixed := v } s
  | 14 => writeNum 1 0 100 data fun v => setAcctSet { a with tolPct := v } s
  | _ => writeNum 4 1 1000000 data fun v => setAcctSet { a with delivMin := v } s

/-! ### BURNER_SET (R42) -/

/-- Replace the burner settings. -/
def setBurnerSet (set : BurnerSet) (s : State) : State := s.setSup { s.sup with set := set }

/-- Apply an effect if its condition holds now. -/
def applyWhen (cond : State → Bool) (effect : State → State) (s : State) : State := if cond s then effect s else s

/-- A write of BURNER_SET: the timer that the setting measures is tested at once (R42, log 28). -/
def writeBurnerSet (idx : Nat) (data : List Byte) (s : State) : WriteResult :=
  let b := s.sup.set
  match idx with
  | 0 => writeNum 2 60 900 data fun v => testSupervisor (setBurnerSet { b with minOn := v } s)
  | 1 => writeNum 2 60 1800 data fun v => testSupervisor (setBurnerSet { b with minOff := v } s)
  | 2 => writeNum 2 0 600 data fun v => applyWhen overrunDue dropPump (setBurnerSet { b with pumpOverrun := v } s)
  | _ => writeNum 2 0 300 data fun v => applyWhen holdExtDue endHoldExtension (setBurnerSet { b with holdExtend := v } s)

/-! ### RECOVERY_SET (R51, R54) -/

/-- Replace the recovery settings. -/
def setRecoverySet (set : RecoverySet) (s : State) : State := s.setRecov { s.recov with set := set }

/-- A write of RECOVERY_SET: the due time follows the settings, and WINDOW and BUDGET lapse entries, by age first and then down
to BUDGET (R51, R54). -/
def writeRecoverySet (idx : Nat) (data : List Byte) (s : State) : WriteResult :=
  let r := s.recov.set
  match idx with
  | 0 => writeNum 2 30 1800 data fun v => checkDue (setRecoverySet { r with retryBase := v } s)
  | 1 => writeNum 2 r.retryBase 14400 data fun v => checkDue (setRecoverySet { r with cap := v } s)
  | 2 => writeNum 4 3600 172800 data fun v => applyLapses (setRecoverySet { r with window := v } s)
  | 3 => writeNum 1 1 5 data fun v => enforceBudget (applyLapses (setRecoverySet { r with budget := v } s))
  | 4 => writeNum 1 2 50 data fun v => setRecoverySet { r with resetWidth := v } s
  | _ =>
    if data.length = 2 then
      let v := ofSigned data
      some (decide (clampInt (-200) 100 v ≠ v), setRecoverySet { r with waxTemp := clampInt (-200) 100 v } s)
    else none

/-! ### RELAY_COUNTERS and NOTICE (R156, R176) -/

/-- Replace the relay settings. -/
def setRelaySet (set : RelaySet) (s : State) : State := s.setRelay { s.relay with set := set }

/-- A write of a relay setting (R156). -/
def writeRelaySet (idx : Nat) (data : List Byte) (s : State) : WriteResult :=
  let r := s.relay.set
  if idx = 19 then writeNum 2 120 3600 data fun v => setRelaySet { r with ageLimit := v } s
  else if idx = 20 then writeNum 1 2 60 data fun v => setRelaySet { r with nodeCap := v } s
  else writeNum 1 0 255 data fun v => setRelaySet { r with bcastCap := v } s

/-- A write of the notice mask: bit 15 is cleared (R176). -/
def writeMask (data : List Byte) (s : State) : WriteResult :=
  if data.length = 2 then
    let v : Word16 := BitVec.ofNat 16 (ofBytes data)
    some (v.getLsbD 15, settleNotices (s.setMgmt { s.mgmt with mask := v &&& allKinds }))
  else none

/-! ### Counter indices (R140, R156, R169, R171) -/

/-- Clear one relay counter by its number in R156's table. -/
def clearRelayCounter (i : Nat) (c : RelayCounters) : RelayCounters :=
  match i with
  | 0 => { c with learned := 0 }
  | 1 => { c with evicted := 0 }
  | 2 => { c with migrated := 0 }
  | 3 => { c with aged := 0 }
  | 4 => { c with nodeStorm := 0 }
  | 5 => { c with holdOffSent := 0 }
  | 6 => { c with foreignKind := 0 }
  | 7 => { c with unknownKind := 0 }
  | 8 => { c with localDest := 0 }
  | 9 => { c with plantGuard := 0 }
  | 10 => { c with segmentDown := 0 }
  | 11 => { c with bcastDrop := 0 }
  | 12 => { c with relayedH := 0 }
  | 13 => { c with relayedY := 0 }
  | 14 => { c with relayedP := 0 }
  | 15 => { c with relayListFull := 0 }
  | 16 => { c with returned := 0 }
  | _ => c

/-- Clear every counter held at a counter index, and nothing else there. -/
def clearCounters (o : Obj) (i : Nat) (s : State) : State :=
  match o with
  | .ident => s.setMgmt { s.mgmt with badRequest := 0 }
  | .poll => countSched (fun _ => {}) s
  | .level => countLevel (fun _ => {}) s
  | .burnerState => s.setSup { s.sup with rr := { s.sup.rr with burnCount := 0, uncalled := 0 } }
  | .portCounters =>
    if i = 0 then s.countPort .h fun _ => {}
    else if i = 1 then s.countPort .y fun _ => {}
    else if i = 2 then s.countPort .p fun _ => {}
    else s.setPool { s.pool with genDropped := 0, holdEntry := 0 }
  | .relayCounters =>
    if i = 17 then s.setZone { s.zone with badDemand := 0 }
    else if i = 18 then s.setZone { s.zone with unenrolled := 0 }
    else s.setRelay { s.relay with ctr := clearRelayCounter i s.relay.ctr }
  | _ => s

/-- A write at a counter index: 0 clears, anything else is BAD_VALUE (R172). -/
def writeCounter (o : Obj) (i : Nat) (data : List Byte) (s : State) : WriteResult :=
  match data with
  | [b] => if b = 0 then some (false, clearCounters o i s) else none
  | _ => none

/-- A WRITE that passed checks 1 to 7 of R170, at its owner (R172). -/
def writeItem (o : Obj) (i : Nat) (data : List Byte) (s : State) : WriteResult :=
  if o.isCounter i then writeCounter o i data s
  else
    match o with
    | .enrol => writeEnrol i data s
    | .zone => if i = 8 then writeSetback data s else writeZone i data s
    | .poll => writePoll i data s
    | .strapStaged => writeStaged i data s
    | .tankSet => writeTankSet i data s
    | .burnerSet => writeBurnerSet i data s
    | .recoverySet => writeRecoverySet i data s
    | .relayCounters => writeRelaySet i data s
    | .notice => writeMask data s
    | _ => none

end Sys2Proof.Machine
end

