-- ==== Sys2Proof/Machine/Management.lean ====
section
/-! DEFINITION. The management unit (chapter 10): the checks of R170, the actions of R173, the responses, the settings store,
and the commands that are management requests. -/

namespace Sys2Proof.Machine

/-! ### Replies -/

/-- What a request is answered: a status with data now, possibly the response a RESTART waits for, or later, when the STORE
ends. -/
inductive Reply where
  | now (status : Status) (data : List Byte) (mark : QMark)
  | later
deriving DecidableEq, Repr

/-- An answer without data. -/
def Reply.bare (st : Status) : Reply := .now st [] .plain

/-- The MGMT_RSP of a request (R124). -/
def responseTel (dest : Byte) (st : Status) (op obj idx : Byte) (data : List Byte) : Telegram :=
  composeTel dest kindMgmtRsp ([st.code, op, obj, idx] ++ data)

/-- Compose the response on the arrival port, unless it comes later (R170). -/
def respond (room : Room) (src op obj idx : Byte) : Reply → State → State
  | .later, s => s
  | .now st data mark, s => (generate (roomPort room) (responseTel src st op obj idx data) mark s).1

/-! ### The settings store (R174, R175) -/

/-- The stored part of a poll-list entry. -/
def pollCfg (e : PollEntry) : PollCfg := { addr := e.addr, isValve := !e.isGauge, interval := e.interval }

/-- The content that a STORE takes (R174). -/
def storeImage (s : State) : StoreImage :=
  { enrol := s.zone.enrol
    table := s.zone.table
    setback := s.zone.setback
    poll := s.sched.slots.map (Option.map pollCfg)
    bank := activeBank s.vol
    level := s.level.set
    coef := s.vol.coef
    acct := s.acct.set
    burner := s.sup.set
    recovery := s.recov.set
    relay := s.relay.set
    mask := s.mgmt.mask }

/-- A STORE is in progress (R175). -/
def storeInProgress (s : State) : Bool := s.mgmt.job ≠ .none

/-- Replace the STORE in progress. -/
def setJob (j : StoreJob) (s : State) : State := s.setMgmt { s.mgmt with job := j }

/-- A waiting STORE may start its write: the memory is idle and no safety write waits (R175). -/
def storeMayStart (s : State) : Bool :=
  match s.mgmt.job with
  | .waiting _ _ _ => memoryIdle s && !s.nv.waiting
  | _ => false

/-- A waiting STORE starts its write, taking the content as it stands (R175, step 2). -/
def startStoreWrite (s : State) : State :=
  match s.mgmt.job with
  | .waiting room src idx => setJob (.writing room src idx (storeImage s)) s
  | _ => s

/-- The write that waits for the memory starts as soon as the memory is idle: a waiting safety write first, then a waiting
STORE (R65, R175; log 10). -/
def startNextWrite (s : State) : State :=
  if memoryIdle s then (if s.nv.waiting then startSafetyWrite s else startStoreWrite s) else s

/-- STORE is accepted: in progress at once, and writing at once if the memory is free (R175). -/
def acceptStore (room : Room) (src idx : Byte) (s : State) : State := startNextWrite (setJob (.waiting room src idx) s)

/-- What the store holds after a STORE's write: the content if the verify passed, else a free choice among the old content,
the new content and content that fails its check (R175, log 7). -/
def storedAfter (verified : Bool) (n : Nat) (content : StoreImage) (old : Option StoreImage) : Option StoreImage :=
  if verified then some content
  else
    match Config.cutWrite n with
    | .before => old
    | .written => some content
    | .failing => none

/-- The STORE ends (R175, step 4): the response, STORE_FAULT at FAILED, and no STORE in progress; a waiting safety write then
starts. -/
def endStore (verified : Bool) (s : State) : State :=
  match s.mgmt.job with
  | .writing room src idx content =>
    let s := s.setNv { s.nv with store := storedAfter verified s.freeIdx content s.nv.store }
    let s := if verified then s else s.setFreeIdx (s.freeIdx + 1)
    let s := respond room src Op.action.code 2 idx (.bare (if verified then .ok else .failed)) s
    startNextWrite (setJob .none (if verified then s else raiseEvent .storeFault s))
  | _ => s

/-! ### Actions (R173) -/

/-- Code of a refused swap's reason (R171). -/
def StrapReason.code : StrapReason → Byte
  | .count => 0
  | .depthOrder => 1
  | .volumeOrder => 2

/-- SWAP-STRAP at the volume unit (R90, R91). -/
def actSwap (s : State) : State × Reply :=
  match strapFault (stagedBank s.vol) with
  | some (i, reason) => (s, .now .refused [BitVec.ofNat 8 i, reason.code] .plain)
  | none => (swapBanks s, .bare .ok)

/-- CLEAR-NOTICE (R176): the named event kinds leave; the named kinds still pending are the reply. -/
def actClear (named : Word16) (s : State) : State × Reply :=
  let named := named &&& allKinds
  let s := settleNotices (s.setMgmt { s.mgmt with events := s.mgmt.events &&& ~~~named })
  (s, .now .ok (beBytes 2 (named &&& pendingSet s).toNat) .plain)

/-- RESET-BURNER at the recovery unit (R64). -/
def actReset (s : State) : State × Reply :=
  match s.recov.state with
  | .waitRetry => if (attemptInHand s).isSome then (s, .bare .busy) else (servicePulse .waitRetry s, .bare .ok)
  | .fuelWait => (servicePulse .fuelWait s, .bare .ok)
  | .pulsing | .confirming => (s, .bare .busy)
  | .hardLock | .closed | .proving => (s, .bare .refused)

/-- CLEAR-HARD-LOCK at the recovery unit (R62). -/
def actClearLock (s : State) : State × Reply :=
  if s.recov.state = .hardLock then (clearLock s, .bare .ok) else (s, .bare .refused)

/-- RESTART (R173): the first one's response is the telegram that the reset waits for; a later one joins it. -/
def actRestart (s : State) : State × Reply :=
  (s.setMgmt { s.mgmt with restart := true }, .now .ok [] (if s.mgmt.restart then .plain else .restart))

/-- An ACTION that passed checks 1 to 7, at its owner (R173). -/
def doAction (a : Action) (room : Room) (src idx : Byte) (data : List Byte) (s : State) : State × Reply :=
  if data.length ≠ a.dataLength then (s, .bare .badValue)
  else
    match a with
    | .swapStrap => actSwap s
    | .store => (acceptStore room src idx s, .later)
    | .clearNotice => actClear (BitVec.ofNat 16 (ofBytes data)) s
    | .resetBurner => actReset s
    | .clearHardLock => actClearLock s
    | .holdTank => (holdTank (decide (idx = 1)) s, .bare .ok)
    | .forgetLevel => (forgetLevel s, .bare .ok)
    | .restart => actRestart s

/-- Whether check 7 answers an action BUSY (R170). -/
def actionBusy (a : Action) (s : State) : Bool :=
  match a with
  | .swapStrap | .restart => storeInProgress s
  | .store => storeInProgress s || s.mgmt.restart
  | _ => false

/-! ### The checks of R170 -/

/-- A READ from check 3 on. -/
def handleRead (obj idx : Byte) (data : List Byte) (s : State) : Reply :=
  match objOf obj with
  | none => .bare .badObject
  | some o =>
    if o.lastIndex < idx.toNat then .bare .badIndex
    else
      match partOf (showItem s o idx.toNat) data with
      | none => .bare .badValue
      | some bs => .now .ok bs .plain

/-- A WRITE from check 3 on. -/
def handleWrite (obj idx src : Byte) (data : List Byte) (s : State) : State × Reply :=
  match objOf obj with
  | none => (s, .bare .badObject)
  | some o =>
    if o.lastIndex < idx.toNat then (s, .bare .badIndex)
    else if !isService s src.toNat then (s, .bare .denied)
    else if !(o.isCounter idx.toNat || o.isSetting idx.toNat) then (s, .bare .refused)
    else if storeInProgress s then (s, .bare .busy)
    else
      match writeItem o idx.toNat data s with
      | none => (s, .bare .badValue)
      | some (clamped, s') => (s', .bare (if clamped then .clamped else .ok))

/-- An ACTION from check 3 on. -/
def handleAction (obj idx src : Byte) (room : Room) (data : List Byte) (s : State) : State × Reply :=
  match actionOf obj with
  | none => (s, .bare .badObject)
  | some a =>
    if a.lastIndex < idx.toNat then (s, .bare .badIndex)
    else if !isService s src.toNat then (s, .bare .denied)
    else if actionBusy a s then (s, .bare .busy)
    else doAction a room src idx data s

/-- A request that passed check 1 (R170): its state and its reply. -/
def handle (op obj idx : Byte) (room : Room) (src : Byte) (data : List Byte) (s : State) : State × Reply :=
  match readOp op with
  | none => (s, .bare .badValue)
  | some .read => (s, handleRead obj idx data s)
  | some .write => handleWrite obj idx src data s
  | some .action => handleAction obj idx src room data s

/-- A MGMT_REQ that the relay unit hands over (R170). Its buffer returns before the response is composed (log 11). -/
def takeRequest (room : Room) (t : Telegram) (s : State) : State :=
  match t.payload with
  | op :: obj :: idx :: data =>
    let r := handle op obj idx room t.src data s
    respond room t.src op obj idx r.2 (returnBuffer r.1)
  | _ => returnBuffer (s.setMgmt { s.mgmt with badRequest := bump s.mgmt.badRequest })

/-- A request command: the request is handled and answered (log 3). -/
def request (op : Op) (obj idx : Byte) (q : Req) (s : State) : State :=
  let r := handle op.code obj idx q.room q.src q.data s
  respond q.room q.src op.code obj idx r.2 r.1

/-- A request command as a step of the machine. -/
def requested (op : Op) (obj idx : Byte) (q : Req) (s : State) : Host.Outcome State Fault Refusal :=
  act true (request op obj idx q) s

/-! ### The request commands -/

/-- READ (R171). -/
def execRead (obj idx : Byte) (q : Req) (s : State) : Host.Outcome State Fault Refusal := requested .read obj idx q s

/-- ENROL_WRITE (R19). -/
def execEnrolWrite (idx : Byte) (q : Req) (s : State) : Host.Outcome State Fault Refusal := requested .write 2 idx q s

/-- ZONE_WRITE (R20). -/
def execZoneWrite (idx : Byte) (q : Req) (s : State) : Host.Outcome State Fault Refusal := requested .write 3 idx q s

/-- RESERVE_SETBACK_WRITE (R9). -/
def execReserveSetbackWrite (q : Req) (s : State) : Host.Outcome State Fault Refusal := requested .write 3 8 q s

/-- POLL_WRITE (R158). -/
def execPollWrite (idx : Byte) (q : Req) (s : State) : Host.Outcome State Fault Refusal := requested .write 6 idx q s

/-- STRAP_STAGED_WRITE (R89). -/
def execStrapStagedWrite (idx : Byte) (q : Req) (s : State) : Host.Outcome State Fault Refusal := requested .write 9 idx q s

/-- The TANK_SET index of a scaling setting (R171). -/
def scalingIndex : ScalingItem → Byte
  | .sense => 0
  | .zero => 1
  | .gain => 2
  | .tankHeight => 3

/-- SCALING_WRITE (R72). -/
def execScalingWrite (item : ScalingItem) (q : Req) (s : State) : Host.Outcome State Fault Refusal :=
  requested .write 10 (scalingIndex item) q s

/-- The TANK_SET index of a filter-shape setting (R171). -/
def shapeIndex : ShapeItem → Byte
  | .windowN => 5
  | .order => 6

/-- FILTER_SHAPE_WRITE (R76). -/
def execFilterShapeWrite (item : ShapeItem) (q : Req) (s : State) : Host.Outcome State Fault Refusal :=
  requested .write 10 (shapeIndex item) q s

/-- The TANK_SET index of a tank level (R171). -/
def levelsIndex : LevelsItem → Byte
  | .reserveLevel => 8
  | .emptyLevel => 9
  | .hyst => 10

/-- TANK_LEVELS_WRITE (R106). -/
def execTankLevelsWrite (item : LevelsItem) (q : Req) (s : State) : Host.Outcome State Fault Refusal :=
  requested .write 10 (levelsIndex item) q s

/-- The BURNER_SET index of a setting (R171). -/
def burnerIndex : BurnerItem → Byte
  | .minOn => 0
  | .minOff => 1
  | .pumpOverrun => 2
  | .holdExtend => 3

/-- BURNER_SET_WRITE (R42). -/
def execBurnerSetWrite (item : BurnerItem) (q : Req) (s : State) : Host.Outcome State Fault Refusal :=
  requested .write 17 (burnerIndex item) q s

/-- The RECOVERY_SET index of a setting (R171). -/
def recoveryIndex : RecoveryItem → Byte
  | .retryBase => 0
  | .cap => 1
  | .window => 2
  | .budget => 3
  | .resetWidth => 4
  | .waxTemp => 5

/-- RECOVERY_SET_WRITE (R51). -/
def execRecoverySetWrite (item : RecoveryItem) (q : Req) (s : State) : Host.Outcome State Fault Refusal :=
  requested .write 19 (recoveryIndex item) q s

/-- The RELAY_COUNTERS index of a relay setting (R171). -/
def relayIndex : RelayItem → Byte
  | .ageLimit => 19
  | .nodeCap => 20
  | .bcastCap => 21

/-- RELAY_SETTINGS_WRITE (R156). -/
def execRelaySettingsWrite (item : RelayItem) (q : Req) (s : State) : Host.Outcome State Fault Refusal :=
  requested .write 24 (relayIndex item) q s

/-- NOTICE_MASK_WRITE (R176). -/
def execNoticeMaskWrite (q : Req) (s : State) : Host.Outcome State Fault Refusal := requested .write 25 1 q s

/-- COUNTER_CLEAR (R172). -/
def execCounterClear (obj idx : Byte) (q : Req) (s : State) : Host.Outcome State Fault Refusal :=
  requested .write obj idx q s

/-- MGMT_WRITE (R172). -/
def execMgmtWrite (obj idx : Byte) (q : Req) (s : State) : Host.Outcome State Fault Refusal :=
  act true (request .write obj idx q) s

/-- SWAP_STRAP (R91). -/
def execSwapStrap (idx : Byte) (q : Req) (s : State) : Host.Outcome State Fault Refusal := requested .action 1 idx q s

/-- STORE (R175). -/
def execStore (idx : Byte) (q : Req) (s : State) : Host.Outcome State Fault Refusal := requested .action 2 idx q s

/-- CLEAR_NOTICE (R176). -/
def execClearNotice (idx : Byte) (q : Req) (s : State) : Host.Outcome State Fault Refusal := requested .action 3 idx q s

/-- RESET_BURNER (R64). -/
def execResetBurner (idx : Byte) (q : Req) (s : State) : Host.Outcome State Fault Refusal := requested .action 4 idx q s

/-- CLEAR_HARD_LOCK (R62). -/
def execClearHardLock (idx : Byte) (q : Req) (s : State) : Host.Outcome State Fault Refusal := requested .action 5 idx q s

/-- HOLD_TANK (R82). -/
def execHoldTank (idx : Byte) (q : Req) (s : State) : Host.Outcome State Fault Refusal := requested .action 6 idx q s

/-- FORGET_LEVEL (R85). -/
def execForgetLevel (idx : Byte) (q : Req) (s : State) : Host.Outcome State Fault Refusal := requested .action 7 idx q s

/-- RESTART (R173). -/
def execRestart (idx : Byte) (q : Req) (s : State) : Host.Outcome State Fault Refusal := requested .action 8 idx q s

/-! ### The events of the non-volatile memory, and of the notices (R65, R175, R177) -/

/-- SAFETY_WRITE_START (R65): a waiting safety write starts when the memory is idle. The end of the write before it has started
it already (log 10); the row acts where a write waits on an idle memory. -/
def execSafetyWriteStart (s : State) : Host.Outcome State Fault Refusal :=
  act (s.nv.waiting && memoryIdle s) startSafetyWrite s

/-- A safety write ends: the record holds what it wrote, the recovery unit is told, and the write that waits starts (R55, R65,
R175; their order is log 10). -/
def completeSafetyWrite (s : State) : State :=
  startNextWrite (recWriteDone (s.setNv { s.nv with safety := s.nv.writing, writing := none }))

/-- SAFETY_WRITE_COMPLETE (R55). -/
def execSafetyWriteComplete (s : State) : Host.Outcome State Fault Refusal :=
  act s.nv.writing.isSome completeSafetyWrite s

/-- STORE_WRITE_START (R175): a waiting STORE starts its write when the memory is idle and no safety write waits. The end of the
write before it has started it already (log 10). -/
def execStoreWriteStart (s : State) : Host.Outcome State Fault Refusal := act (storeMayStart s) startStoreWrite s

/-- STORE_COMPLETE (R175): the write and verify of the STORE that is writing end. -/
def execStoreComplete (verified : Bool) (s : State) : Host.Outcome State Fault Refusal :=
  act (storeWriting s) (endStore verified) s

/-- The repeat timer has run out (R177). -/
def noticeRepeatDue (s : State) : Bool := s.mgmt.line && ranOut s.mgmt.repeatFrom noticeRepeatTicks s.now

/-- NOTICE_REPEAT (R177). -/
def execNoticeRepeat (s : State) : Host.Outcome State Fault Refusal :=
  act (noticeRepeatDue s) (fun s => composeNotices (s.setMgmt { s.mgmt with repeatFrom := some s.now })) s

end Sys2Proof.Machine
end

