-- ==== Sys2Proof/Machine/Relay.lean ====
section
/-! DEFINITION. The relay unit (chapter 8): learning, eviction, migration, the storm limits, the four stages of resolution,
aging and the interval starts. -/

namespace Sys2Proof.Machine

/-- Change the relay counters. -/
def countRelay (f : RelayCounters → RelayCounters) (s : State) : State :=
  s.setRelay { s.relay with ctr := f s.relay.ctr }

/-- Change the node entry of a slot. -/
def modNode (slot : Nat) (f : NodeEntry → NodeEntry) (s : State) : State :=
  setNodes (modifySlot s.relay.nodes slot f) s

/-! ### Learning (R143 to R145) -/

/-- Put a new entry in a slot: LEARNED, and the creation is handed to the zone unit (R143). -/
def createNode (slot : Nat) (addr : Nat) (room : Room) (s : State) : State :=
  let e : NodeEntry := { addr := addr, seg := room, heard := s.sec, storm := 0, holdOffSent := false, part := none }
  nodeChanged addr
    (countRelay (fun c => { c with learned := bump c.learned }) (setNodes (s.relay.nodes.set slot (some e)) s))

/-- The better entry to evict of two without a demand part: the older last heard, then the lower address (R144). -/
def evictFirst (a b : NodeEntry) : Bool := a.heard < b.heard || (a.heard = b.heard && a.addr < b.addr)

/-- The slot and entry to evict (R144). -/
def pickEvict (nodes : List (Option NodeEntry)) : Option (Nat × NodeEntry) :=
  (numbered nodes).foldl
    (fun best io =>
      match io.2 with
      | none => best
      | some e =>
        if e.part.isSome then best
        else
          match best with
          | none => some (io.1, e)
          | some (_, b) => if evictFirst e b then some (io.1, e) else best)
    none

/-- Remove the entry of a slot whole; a ROOM_UNIT's removal is handed to the zone unit (R144, R146). -/
def removeNode (slot : Nat) (addr : Nat) (count : RelayCounters → RelayCounters) (s : State) : State :=
  nodeChanged addr (countRelay count (setNodes (s.relay.nodes.set slot none) s))

/-- A source that the table does not hold (R143, R144). -/
def learnNew (addr : Nat) (room : Room) (s : State) : State :=
  match emptySlot s.relay.nodes with
  | some i => createNode i addr room s
  | none =>
    match pickEvict s.relay.nodes with
    | some (i, e) => createNode i addr room (removeNode i e.addr (fun c => { c with evicted := bump c.evicted }) s)
    | none => s

/-- A migration, in the order of R145. -/
def migrate (slot : Nat) (addr : Nat) (room : Room) (s : State) : State :=
  nodeChanged addr
    (countRelay (fun c => { c with migrated := bump c.migrated })
      (modNode slot (fun e => { e with seg := room, heard := s.sec }) s))

/-- Learn the source of a telegram that H or Y delivers (R143). -/
def learn (addr : Nat) (room : Room) (s : State) : State :=
  match nodeSlot s addr with
  | none => learnNew addr room s
  | some i =>
    if (slotGet s.relay.nodes i).any fun e => e.seg = room then modNode i (fun e => { e with heard := s.sec }) s
    else migrate i addr room s

/-! ### The per-node storm limit (R148, R149) -/

/-- Count a telegram of an address in its entry (R148). -/
def countStorm (addr : Nat) (s : State) : State :=
  mapNodes (fun e => if e.addr = addr then { e with storm := bump8 e.storm } else e) s

/-- Whether the telegram just counted is excess (R148). -/
def isExcess (addr : Nat) (s : State) : Bool :=
  !isService s addr && (nodeOf s addr).any fun e => decide (s.relay.set.nodeCap < e.storm)

/-- The first excess telegram of an interval: HOLD_OFF of 60 s, in the order of R149. -/
def holdOffNode (addr : Nat) (s : State) : State :=
  match nodeOf s addr with
  | none => s
  | some e =>
    if e.holdOffSent then s
    else
      let s := mapNodes (fun e => if e.addr = addr then { e with holdOffSent := true } else e) s
      let s := (generate (roomPort e.seg) (holdOffTel (BitVec.ofNat 8 addr) 60) .plain s).1
      countRelay (fun c => { c with holdOffSent := bump c.holdOffSent }) s

/-- An excess telegram is discarded (R148). -/
def discardExcess (addr : Nat) (s : State) : State :=
  holdOffNode addr (returnBuffer (countRelay (fun c => { c with nodeStorm := bump c.nodeStorm }) s))

/-! ### Resolution (R151 to R154) -/

/-- A telegram is discarded: a counter, and its buffer returns. -/
def discard (count : RelayCounters → RelayCounters) (s : State) : State := returnBuffer (countRelay count s)

/-- The candidate stage (R152): the port the telegram may go to, none for LOCAL. -/
def candidate (room : Room) (dest : Byte) (s : State) : Option Port :=
  if dest = broadcast then some (roomPort (otherRoom room))
  else
    match nodeOf s dest.toNat with
    | some e => if e.seg = room then none else some (roomPort (otherRoom room))
    | none => if inPollList s dest.toNat then some .p else some (roomPort (otherRoom room))

/-- The broadcast count of a candidate; P takes no broadcast (R150). -/
def bcastCount (s : State) : Port → Nat
  | .h => s.relay.bcastH
  | .y => s.relay.bcastY
  | .p => 0

/-- Count a broadcast relayed into a segment (R150). -/
def bumpBcast (port : Port) (s : State) : State :=
  match port with
  | .h => s.setRelay { s.relay with bcastH := s.relay.bcastH + 1 }
  | .y => s.setRelay { s.relay with bcastY := s.relay.bcastY + 1 }
  | .p => s

/-- The filter stage (R153): the counter of the case that removes the candidate, if one does. -/
def filterCase (port : Port) (t : Telegram) (s : State) : Option (RelayCounters → RelayCounters) :=
  if port = .p && !isService s t.src.toNat then some fun c => { c with plantGuard := bump c.plantGuard }
  else if (s.port port).mode = .broken then some fun c => { c with segmentDown := bump c.segmentDown }
  else if t.dest = broadcast && decide (s.relay.set.bcastCap ≤ bcastCount s port) then
    some fun c => { c with bcastDrop := bump c.bcastDrop }
  else none

/-- The move to a room segment's queue (R150, R154). -/
def moveToRoom (port : Port) (count : RelayCounters → RelayCounters) (t : Telegram) (s : State) : State :=
  let s := countRelay count s
  let s := if t.dest = broadcast then bumpBcast port s else s
  (moveToQueue port t .plain s).1

/-- The move to the relay list (R154). -/
def moveToPlant (room : Room) (t : Telegram) (s : State) : State :=
  if s.sched.relayList.length < relayListCap then
    wakeSched
      ((countRelay (fun c => { c with relayedP := bump c.relayedP }) s).setSched
        { s.sched with relayList := s.sched.relayList ++ [(t, room)] })
  else discard (fun c => { c with relayListFull := bump c.relayListFull }) s

/-- The move stage (R154). -/
def moveTelegram (room : Room) (port : Port) (t : Telegram) (s : State) : State :=
  match port with
  | .h => moveToRoom .h (fun c => { c with relayedH := bump c.relayedH }) t s
  | .y => moveToRoom .y (fun c => { c with relayedY := bump c.relayedY }) t s
  | .p => moveToPlant room t s

/-- The candidate, filter and move stages of a telegram for another station (R152 to R154). -/
def relayOn (room : Room) (t : Telegram) (s : State) : State :=
  match candidate room t.dest s with
  | none => discard (fun c => { c with localDest := bump c.localDest }) s
  | some port =>
    match filterCase port t s with
    | some count => discard count s
    | none => moveTelegram room port t s

/-- Resolution, the consume stage first (R151). -/
def resolve (room : Room) (t : Telegram) (s : State) : State :=
  if ownKind t.kind then discard (fun c => { c with foreignKind := bump c.foreignKind }) s
  else if t.dest = 0 then
    if t.kind = kindDemand then takeDemand room t s
    else if t.kind = kindMgmtReq then takeRequest room t s
    else discard (fun c => { c with unknownKind := bump c.unknownKind }) s
  else relayOn room t s

/-- A telegram that port H or Y delivers: learning, storm check, resolution (R154). -/
def takeFromRoom (room : Room) (t : Telegram) (s : State) : State :=
  let s := countStorm t.src.toNat (learn t.src.toNat room s)
  if isExcess t.src.toNat s then discardExcess t.src.toNat s else resolve room t s

/-! ### Aging and interval starts (R146, R148, R150) -/

/-- The aging check of one slot, in the order of R146. -/
def ageSlot (slot : Nat) (s : State) : State :=
  match slotGet s.relay.nodes slot with
  | none => s
  | some e =>
    if s.relay.set.ageLimit < s.sec - e.heard then
      removeNode slot e.addr (fun c => { c with aged := bump c.aged }) s
    else s

/-- The aging check of the whole table (R146), slot by slot from slot 0: R146 gives no order (DESIGN CHOICE, log 34). -/
def ageNodes (s : State) : State := forEach (List.range s.relay.nodes.length) ageSlot s

/-- NODE_AGING_CHECK (R146): at each uptime second; the P line is arbitrated as well (R161). -/
def execNodeAgingCheck (s : State) : Host.Outcome State Fault Refusal := act true (fun s => wakeSched (ageNodes s)) s

/-- STORM_INTERVAL_START (R148): at a whole multiple of 60 s. -/
def execStormIntervalStart (s : State) : Host.Outcome State Fault Refusal :=
  act (s.sec % 60 = 0) (mapNodes fun e => { e with storm := 0, holdOffSent := false }) s

/-- BROADCAST_INTERVAL_START (R150): at a whole multiple of 10 s. -/
def execBroadcastIntervalStart (s : State) : Host.Outcome State Fault Refusal :=
  act (s.sec % 10 = 0) (fun s => s.setRelay { s.relay with bcastH := 0, bcastY := 0 }) s

end Sys2Proof.Machine
end

