-- ==== Sys2Proof/Machine/Ports.lean ====
section
/-! DEFINITION. The segment ports (chapter 7): receive assembly, errors, delivery, break, contention on H and Y, the plain
transmission on P, and the pool's repeat timer. -/

namespace Sys2Proof.Machine

/-! ### The line -/

/-- The line has been idle continuously for `ticks`. -/
def lineIdleFor (q : PortState) (ticks now : Nat) : Bool :=
  match q.line with
  | .idle since => decide (since + ticks ≤ now)
  | _ => false

/-- The line may have been active continuously for 100 ms (R129): it is known to have been, or it has carried characters, whose
levels are not followed, for as long (log 15). -/
def lineHeldActive (q : PortState) (now : Nat) : Bool :=
  match q.line with
  | .active since | .busy since => decide (since + breakTicks ≤ now)
  | .idle _ => false

/-- The line once a telegram is on it: it can have been active since it was last known to be idle, or since it turned active
(log 15). -/
def carrying (now : Nat) : Line → Line
  | .idle _ => .busy now
  | .active since | .busy since => .busy since

/-- A telegram is on the line. -/
def lineBusy (q : PortState) : Bool :=
  match q.line with
  | .busy _ => true
  | _ => false

/-- The port is sending. -/
def sendingNow (q : PortState) : Bool := q.phase = .sending

/-- The room segment of a port. -/
def portRoom : Port → Option Room
  | .h => some .h
  | .y => some .y
  | .p => none

/-! ### Receive assembly (R126) -/

/-- Whether a port may take a buffer for its assembly (R126). -/
def mayReceive (port : Port) (free : Nat) : Bool :=
  match port with
  | .p => decide (0 < free)
  | .h | .y => decide (receiveReserve < free)

/-- The port begins to assemble the telegram on the line, with a buffer if the pool grants one (R126). -/
def beginAssembly (port : Port) (s : State) : State :=
  let granted := mayReceive port s.pool.free
  let s := s.modPort port fun q =>
    { q with asm := some { hasBuffer := granted, start := s.now }, line := carrying s.now q.line, armed := false }
  if granted then takeBuffer s else s

/-- A first character may be taken: the port is ACTIVE, assembles nothing, does not send, and the line has been idle for 8 ms
(R122, R126). -/
def mayBegin (q : PortState) (now : Nat) : Bool :=
  q.mode = .active && q.asm.isNone && !sendingNow q && (q.armed || lineIdleFor q endIdleTicks now)

/-- RX_FIRST_CHARACTER (R126). -/
def execRxFirstCharacter (port : Port) (s : State) : Host.Outcome State Fault Refusal :=
  act (mayBegin (s.port port) s.now) (beginAssembly port) s

/-! ### The end of a telegram (R127, R128) -/

/-- The error set of a telegram (R127). -/
structure RxErrors where
  parity : Bool
  framing : Bool
  noBuffer : Bool
  length : Bool
  check : Bool
deriving DecidableEq, Repr

/-- LENGTH applies to stored characters (R127). -/
def badLength (chars : List RxChar) : Bool :=
  match chars with
  | _ :: _ :: _ :: len :: _ :: _ :: _ =>
    decide (16 < len.data.toNat) || decide (chars.length ≠ len.data.toNat + 6)
  | _ => true

/-- The received CHECK does not match (R123, R127). -/
def badCheck (chars : List RxChar) : Bool :=
  let t := parseTel (chars.map (·.data))
  checkOf t.body ≠ t.check

/-- The error set (R127). -/
def errorsOf (hasBuffer : Bool) (chars : List RxChar) : RxErrors :=
  { parity := chars.any parityError
    framing := chars.any framingError
    noBuffer := !hasBuffer
    length := hasBuffer && badLength chars
    check := hasBuffer && !badLength chars && badCheck chars }

/-- No error applies. -/
def RxErrors.isEmpty (e : RxErrors) : Bool := !e.parity && !e.framing && !e.noBuffer && !e.length && !e.check

/-- Count one kind if it applies. -/
def bumpIf (b : Bool) (c : Nat) : Nat := if b then bump c else c

/-- Each kind in the set is counted once (R127). -/
def countErrors (e : RxErrors) (c : PortCounters) : PortCounters :=
  { c with
    parity := bumpIf e.parity c.parity
    framing := bumpIf e.framing c.framing
    length := bumpIf e.length c.length
    check := bumpIf e.check c.check
    noBuffer := bumpIf e.noBuffer c.noBuffer }

/-- The addresses of a clean telegram are valid (R128). -/
def goodAddresses (t : Telegram) : Bool :=
  decide (1 ≤ t.src.toNat) && decide (t.src.toNat ≤ 126) && decide (t.dest.toNat ≤ 127)

/-- Delivery to the port's receiving block (R128). -/
def deliver (port : Port) (t : Telegram) (s : State) : State :=
  match portRoom port with
  | some room => takeFromRoom room t s
  | none => takeFromP t s

/-- The end of the assembly that was in progress (R127, R128). -/
def endAssembly (port : Port) (hasBuffer : Bool) (chars : List RxChar) (s : State) : State :=
  let e := errorsOf hasBuffer chars
  if e.isEmpty then
    let t := parseTel (chars.map (·.data))
    if goodAddresses t then deliver port t (s.countPort port fun c => { c with rxGood := bump c.rxGood })
    else returnBuffer (s.countPort port fun c => { c with badAddress := bump c.badAddress })
  else
    let s := s.countPort port (countErrors e)
    if hasBuffer then returnBuffer s else s

/-- 8 ms of idle line have followed the last character: the line has been idle since then, and the receiver is ready (R122).
-/
def quietAfterTelegram (now : Nat) (q : PortState) : PortState :=
  { q with line := .idle (now - endIdleTicks), armed := q.mode = .active, asm := none }

/-- The telegram on the line ends. -/
def telegramEnd (port : Port) (chars : List RxChar) (s : State) : State :=
  match (s.port port).asm with
  | none => s.modPort port (quietAfterTelegram s.now)
  | some a => endAssembly port a.hasBuffer chars (s.modPort port (quietAfterTelegram s.now))

/-- RX_TELEGRAM_END (R127). -/
def execRxTelegramEnd (port : Port) (chars : List RxChar) (s : State) : Host.Outcome State Fault Refusal :=
  act (!sendingNow (s.port port) && ((s.port port).asm.isSome || lineBusy (s.port port))) (telegramEnd port chars) s

/-! ### Break (R129, R130) -/

/-- Remove a port's assembly without counting its errors; its buffer returns (R129, step 1). -/
def dropAssembly (port : Port) (s : State) : State :=
  match (s.port port).asm with
  | none => s
  | some a =>
    let s := s.modPort port fun q => { q with asm := none }
    if a.hasBuffer then returnBuffer s else s

/-- The line of a port that enters BREAK: active, for 100 ms at least (R129). -/
def brokenLine (now : Nat) : Line → Line
  | .busy _ => .active (now - breakTicks)
  | l => l

/-- The transmit queue is emptied, each telegram counted FLUSHED; BREAK is counted and the port state becomes BREAK (R129,
steps 2 and 3). -/
def closePort (now : Nat) (q : PortState) : PortState :=
  { q with
    mode := .broken, line := brokenLine now q.line, armed := false, queue := [], phase := .wait, attempts := 0
    ctr := { q.ctr with
      flushed := min (q.ctr.flushed + q.queue.length) 65535
      breaks := bump q.ctr.breaks } }

/-- The port enters BREAK, in the order of R129: the assembly goes while the port is still ACTIVE, so that a hold-off its
buffer's return causes is offered to the queue as it stands; then the queue and the state. The flushed buffers return with
the port closed: a hold-off they cause is FLUSHED, as it would be in a queue that is being flushed (log 12). -/
def enterBreak (port : Port) (s : State) : State :=
  let s := dropAssembly port s
  let flushed := (s.port port).queue.length
  let s := returnBuffers flushed (s.modPort port (closePort s.now))
  settleNotices
    (match port with
     | .p => pBreak s
     | _ => s)

/-- BREAK_ENTRY (R129). -/
def execBreakEntry (port : Port) (s : State) : Host.Outcome State Fault Refusal :=
  act ((s.port port).mode = .active && lineHeldActive (s.port port) s.now) (enterBreak port) s

/-- The port returns to ACTIVE (R130). -/
def leaveBreak (port : Port) (s : State) : State :=
  let s := s.modPort port fun q => { q with mode := .active, armed := true }
  settleNotices
    (match port with
     | .p => pReturn s
     | _ => s)

/-- BREAK_EXIT (R130). -/
def execBreakExit (port : Port) (s : State) : Host.Outcome State Fault Refusal :=
  act ((s.port port).mode = .broken && lineIdleFor (s.port port) returnTicks s.now) (leaveBreak port) s

/-- The line after a change that starts no character (R130, R132): a line idle for 8 ms has made the receiver ready. -/
def lineChange (level : Bool) (now : Nat) (q : PortState) : PortState :=
  if level then
    { q with line := .active now, armed := q.armed || (q.mode = .active && lineIdleFor q endIdleTicks now) }
  else { q with line := .idle now }

/-- Whether the line is known to be idle. -/
def lineIsIdle (q : PortState) : Bool :=
  match q.line with
  | .idle _ => true
  | _ => false

/-- SEGMENT_LINE_CHANGE (R130): the line changes level without starting a character. -/
def execSegmentLineChange (port : Port) (level : Bool) (s : State) : Host.Outcome State Fault Refusal :=
  act (!sendingNow (s.port port) && (s.port port).asm.isNone && lineIsIdle (s.port port) = level)
    (fun s => s.modPort port (lineChange level s.now)) s

/-! ### Transmission (R131 to R136) -/

/-- The head may start: the port is ACTIVE, the head waits, and the line has been idle for 10 ms (R132). -/
def maySend (q : PortState) (now : Nat) : Bool :=
  q.mode = .active && !q.queue.isEmpty && q.phase = .wait && q.asm.isNone && lineIdleFor q quietTicks now

/-- QUIET_WAIT_MET (R132): the port sends the head's first start bit. -/
def execQuietWaitMet (port : Port) (s : State) : Host.Outcome State Fault Refusal :=
  act (maySend (s.port port) s.now)
    (fun s => s.modPort port fun q => { q with phase := .sending, line := carrying s.now q.line, armed := false }) s

/-- The slots that the n-th backoff waits at attempt count k (R134). -/
def backoffSlots (n k : Nat) : Nat := Config.backoffDraw n % 2 ^ min k 5

/-- The phase after a draw of `r` slots: a draw of 0 goes to the quiet wait at once (R134). -/
def backoffPhase (r now : Nat) : TxPhase := if r = 0 then .wait else .backoff (now + r * slotTicks)

/-- An early collision (R133, R134): the port stops, its assembly takes over the telegram, and the head backs off or is
dropped at k = 8. -/
def earlyCollision (port : Port) (s : State) : State :=
  let s := beginAssembly port (s.modPort port fun q => { q with phase := .wait })
  let s := s.modPort port fun q =>
    { q with attempts := q.attempts + 1, ctr := { q.ctr with collision := bump q.ctr.collision } }
  let k := (s.port port).attempts
  if 8 ≤ k then
    dropHead port (s.countPort port fun c => { c with excessCollision := bump c.excessCollision })
  else
    let r := backoffSlots s.freeIdx k
    (s.setFreeIdx (s.freeIdx + 1)).modPort port fun q => { q with phase := backoffPhase r s.now }

/-- EARLY_COLLISION (R134): in character 1 to 4 of the head. -/
def execEarlyCollision (r : Room) (ch : Nat) (s : State) : Host.Outcome State Fault Refusal :=
  act (sendingNow (s.port (roomPort r)) && decide (1 ≤ ch) && decide (ch ≤ 4)) (earlyCollision (roomPort r)) s

/-- A late collision (R135): the head is dropped. -/
def lateCollision (port : Port) (s : State) : State :=
  let s := beginAssembly port (s.modPort port fun q => { q with phase := .wait })
  dropHead port (s.countPort port fun c => { c with lateCollision := bump c.lateCollision })

/-- LATE_COLLISION (R135): in character 5 or later. -/
def execLateCollision (r : Room) (ch : Nat) (s : State) : Host.Outcome State Fault Refusal :=
  act (sendingNow (s.port (roomPort r)) && decide (5 ≤ ch)) (lateCollision (roomPort r)) s

/-- The backoff of the head has run out (R134). -/
def backoffOver (q : PortState) (now : Nat) : Bool :=
  match q.phase with
  | .backoff till => decide (till ≤ now)
  | _ => false

/-- BACKOFF_END (R134): back to the quiet wait with the same head. -/
def execBackoffEnd (r : Room) (s : State) : Host.Outcome State Fault Refusal :=
  act (backoffOver (s.port (roomPort r)) s.now) (fun s => s.modPort (roomPort r) fun q => { q with phase := .wait }) s

/-- The head of a queue is the request of the outstanding exchange. -/
def headIsRequest (q : PortState) : Bool := q.queue.head?.any fun it => it.mark = .request

/-- A mismatch on P (R136): the first pauses the head, the second drops it and fails the exchange. -/
def pMismatch (s : State) : State :=
  let s := beginAssembly .p (s.modPort .p fun q => { q with phase := .wait })
  if s.portP.attempts = 0 then
    s.modPort .p fun q => { q with attempts := 1, phase := .pause (s.now + slotTicks) }
  else
    let request := headIsRequest s.portP
    let s := dropHead .p (s.countPort .p fun c => { c with txFail := bump c.txFail })
    if request then failExchange s else s

/-- P_TX_MISMATCH (R136). -/
def execPTxMismatch (s : State) : Host.Outcome State Fault Refusal := act (sendingNow s.portP) pMismatch s

/-- The pause before P's second attempt has run out (R136). -/
def pauseOver (q : PortState) (now : Nat) : Bool :=
  match q.phase with
  | .pause till => decide (till ≤ now)
  | _ => false

/-- P_RETRY_PAUSE_END (R136). -/
def execPRetryPauseEnd (s : State) : Host.Outcome State Fault Refusal :=
  act (pauseOver s.portP s.now) (fun s => s.modPort .p fun q => { q with phase := .wait }) s

/-- The head has been sent to its last stop bit (R135, R136): on P the response window opens. -/
def txSent (port : Port) (s : State) : State :=
  let request := headIsRequest (s.port port)
  let s := s.modPort port fun q =>
    { q with line := .idle s.now, armed := false, ctr := { q.ctr with txSent := bump q.ctr.txSent } }
  let s := dropHead port s
  if request then openWindow s else s

/-- TX_SENT (R135). -/
def execTxSent (port : Port) (s : State) : Host.Outcome State Fault Refusal :=
  act (sendingNow (s.port port)) (txSent port) s

/-! ### The pool's repeat timer (R139) -/

/-- The hold-off repeat timer has run out (R139). -/
def holdOffRepeatDue (s : State) : Bool := s.pool.held && ranOut s.pool.repeatFrom holdOffRepeatTicks s.now

/-- HOLD_OFF_REPEAT (R139). -/
def execHoldOffRepeat (s : State) : Host.Outcome State Fault Refusal :=
  act (holdOffRepeatDue s)
    (fun s => broadcastHoldOff 30 (s.setPool { s.pool with repeatFrom := some s.now })) s

end Sys2Proof.Machine
end

