-- ==== Sys2Proof/Machine/Reset.lean ====
section
/-! DEFINITION. The three reset kinds (R174, R178 and every chapter's after-reset table). -/

namespace Sys2Proof.Machine

/-- What a write of non-volatile memory leaves when a reset cuts it off (R65, R175, log 7). -/
def cutOff {α : Type} (n : Nat) (old : Option α) (content : α) : Option α :=
  match Config.cutWrite n with
  | .before => old
  | .written => some content
  | .failing => none

/-- The settings store as the reset finds it: a STORE's write in progress is cut off (R175). -/
def storeFound (s : State) : Option StoreImage :=
  match s.mgmt.job with
  | .writing _ _ _ content => cutOff s.freeIdx s.nv.store content
  | _ => s.nv.store

/-- The safety record as the reset finds it: a safety write in progress is cut off (R65). -/
def safetyFound (s : State) : Option SafetyRecord :=
  match s.nv.writing with
  | some content => cutOff s.freeIdx s.nv.safety content
  | none => s.nv.safety

/-- A write of non-volatile memory is in progress. -/
def writeInProgress (s : State) : Bool := storeWriting s || s.nv.writing.isSome

/-- A line across a reset: its idle or active time counts from the reset; the part's own transmission is cut off (R141). -/
def lineAfterReset (q : PortState) : Line :=
  if sendingNow q then .idle 0
  else
    match q.line with
    | .idle _ => .idle 0
    | .active _ => .active 0
    | .busy _ => .busy 0

/-- A port after reset (R141). -/
def portAfterReset (q : PortState) : PortState := { line := lineAfterReset q }

/-- The event kinds pending at a reset (R174, R176). -/
def eventsAfterReset (found : Option StoreImage) : Word16 := if found.isSome then 0 else Notice.configDefaulted.set

/-- Every block at its after-reset value, from the store and the safety record found (R21, R43, R67, R87, R102, R119, R141,
R157, R169, R178). -/
def loaded (store : Option StoreImage) (safety : Option SafetyRecord) (s : State) : State :=
  let img := store.getD factoryImage
  { now := 0
    portH := portAfterReset s.portH
    portY := portAfterReset s.portY
    portP := portAfterReset s.portP
    pool := {}
    relay := relayAfterReset img
    zone := zoneAfterReset img
    sup := supervisorAfterReset img s.sup.run.raw s.sup.lockout.raw
    recov := recoveryAfterReset img safety
    sched := schedAfterReset img
    level := levelAfterReset img
    vol := volumeAfterReset img
    acct := accountingAfterReset img
    mgmt := { mask := img.mask, events := eventsAfterReset store, storeOk := store.isSome }
    nv := { store := store, safety := safety }
    freeIdx := if writeInProgress s then s.freeIdx + 1 else s.freeIdx
    pending := s.pending }

/-- A failing safety record asks for a safety write (R66); a restored HARD_LOCK puts the supervisor in LOCKED (R43); the
notices found pending show (R176, R177). -/
def settleReset (s : State) : State :=
  let s := if s.nv.safety.isNone then requestSafetyWrite s else s
  settleNotices (if s.recov.state = .hardLock then s.setSup { s.sup with state := .locked } else s)

/-- A reset of any kind. -/
def resetPart (s : State) : State := settleReset (loaded (storeFound s) (safetyFound s) s)

/-- POWER_ON (R174). -/
def execPowerOn (s : State) : Host.Outcome State Fault Refusal := .next (resetPart s)

/-- PIN_RESET (R174). -/
def execPinReset (s : State) : Host.Outcome State Fault Refusal := .next (resetPart s)

/-- The response that a RESTART waits for still stands in a queue (R173). -/
def restartHeld (s : State) : Bool :=
  [s.portH, s.portY, s.portP].any fun q => q.queue.any fun it => it.mark = .restart

/-- RESTART_TAKEN (R173): a RESTART waits, and its response has left its queue or never joined one (log 22). -/
def execRestartTaken (s : State) : Host.Outcome State Fault Refusal :=
  .next (if s.mgmt.restart && !restartHeld s then resetPart s else s)

end Sys2Proof.Machine
end

