-- ==== Sys2Proof/Machine/Dispatch.lean ====
section
/-! DEFINITION. The meaning of every command: one arm for each row of the opcode table. -/

namespace Sys2Proof.Machine

/-- The effect of a command on everything but the queue. -/
def exec (i : Instr) (s : State) : Host.Outcome State Fault Refusal :=
  match i with
  | .powerOn => Sys2Proof.Machine.execPowerOn s
  | .pinReset => Sys2Proof.Machine.execPinReset s
  | .restartTaken => Sys2Proof.Machine.execRestartTaken s
  | .rxFirstCharacter port => Sys2Proof.Machine.execRxFirstCharacter port s
  | .rxTelegramEnd port chars => Sys2Proof.Machine.execRxTelegramEnd port chars s
  | .startupGraceExpiry => Sys2Proof.Machine.execStartupGraceExpiry s
  | .hourWindowBoundary => Sys2Proof.Machine.execHourWindowBoundary s
  | .dutyPortionEnd z => Sys2Proof.Machine.execDutyPortionEnd z s
  | .runSenseChange level => Sys2Proof.Machine.execRunSenseChange level s
  | .lockoutSenseChange level => Sys2Proof.Machine.execLockoutSenseChange level s
  | .runRise => Sys2Proof.Machine.execRunRise s
  | .runFall => Sys2Proof.Machine.execRunFall s
  | .lockoutTaken => Sys2Proof.Machine.execLockoutTaken s
  | .lockoutReleased => Sys2Proof.Machine.execLockoutReleased s
  | .minOffElapsed => Sys2Proof.Machine.execMinOffElapsed s
  | .minOnExpiry => Sys2Proof.Machine.execMinOnExpiry s
  | .startWindowExpiry => Sys2Proof.Machine.execStartWindowExpiry s
  | .pumpOverrunExpiry => Sys2Proof.Machine.execPumpOverrunExpiry s
  | .holdExtendExpiry => Sys2Proof.Machine.execHoldExtendExpiry s
  | .retryDue => Sys2Proof.Machine.execRetryDue s
  | .safetyWriteStart => Sys2Proof.Machine.execSafetyWriteStart s
  | .safetyWriteComplete => Sys2Proof.Machine.execSafetyWriteComplete s
  | .resetPulseEnd => Sys2Proof.Machine.execResetPulseEnd s
  | .confirmTimeout => Sys2Proof.Machine.execConfirmTimeout s
  | .provingComplete => Sys2Proof.Machine.execProvingComplete s
  | .resetHistoryLapse => Sys2Proof.Machine.execResetHistoryLapse s
  | .deliveryTimeout => Sys2Proof.Machine.execDeliveryTimeout s
  | .staleTimerExpiry => Sys2Proof.Machine.execStaleTimerExpiry s
  | .serviceHoldExpiry => Sys2Proof.Machine.execServiceHoldExpiry s
  | .breakEntry port => Sys2Proof.Machine.execBreakEntry port s
  | .breakExit port => Sys2Proof.Machine.execBreakExit port s
  | .quietWaitMet port => Sys2Proof.Machine.execQuietWaitMet port s
  | .earlyCollision r ch => Sys2Proof.Machine.execEarlyCollision r ch s
  | .lateCollision r ch => Sys2Proof.Machine.execLateCollision r ch s
  | .backoffEnd r => Sys2Proof.Machine.execBackoffEnd r s
  | .pTxMismatch => Sys2Proof.Machine.execPTxMismatch s
  | .pRetryPauseEnd => Sys2Proof.Machine.execPRetryPauseEnd s
  | .txSent port => Sys2Proof.Machine.execTxSent port s
  | .holdOffRepeat => Sys2Proof.Machine.execHoldOffRepeat s
  | .nodeAgingCheck => Sys2Proof.Machine.execNodeAgingCheck s
  | .stormIntervalStart => Sys2Proof.Machine.execStormIntervalStart s
  | .broadcastIntervalStart => Sys2Proof.Machine.execBroadcastIntervalStart s
  | .pollDue => Sys2Proof.Machine.execPollDue s
  | .responseWindowClose => Sys2Proof.Machine.execResponseWindowClose s
  | .valveTravelExpiry slot => Sys2Proof.Machine.execValveTravelExpiry slot s
  | .noticeRepeat => Sys2Proof.Machine.execNoticeRepeat s
  | .read obj idx q => Sys2Proof.Machine.execRead obj idx q s
  | .enrolWrite idx q => Sys2Proof.Machine.execEnrolWrite idx q s
  | .zoneWrite idx q => Sys2Proof.Machine.execZoneWrite idx q s
  | .reserveSetbackWrite q => Sys2Proof.Machine.execReserveSetbackWrite q s
  | .pollWrite idx q => Sys2Proof.Machine.execPollWrite idx q s
  | .strapStagedWrite idx q => Sys2Proof.Machine.execStrapStagedWrite idx q s
  | .scalingWrite item q => Sys2Proof.Machine.execScalingWrite item q s
  | .filterShapeWrite item q => Sys2Proof.Machine.execFilterShapeWrite item q s
  | .tankLevelsWrite item q => Sys2Proof.Machine.execTankLevelsWrite item q s
  | .burnerSetWrite item q => Sys2Proof.Machine.execBurnerSetWrite item q s
  | .recoverySetWrite item q => Sys2Proof.Machine.execRecoverySetWrite item q s
  | .relaySettingsWrite item q => Sys2Proof.Machine.execRelaySettingsWrite item q s
  | .noticeMaskWrite q => Sys2Proof.Machine.execNoticeMaskWrite q s
  | .counterClear obj idx q => Sys2Proof.Machine.execCounterClear obj idx q s
  | .mgmtWrite obj idx q => Sys2Proof.Machine.execMgmtWrite obj idx q s
  | .swapStrap idx q => Sys2Proof.Machine.execSwapStrap idx q s
  | .store idx q => Sys2Proof.Machine.execStore idx q s
  | .storeWriteStart => Sys2Proof.Machine.execStoreWriteStart s
  | .storeComplete verified => Sys2Proof.Machine.execStoreComplete verified s
  | .clearNotice idx q => Sys2Proof.Machine.execClearNotice idx q s
  | .resetBurner idx q => Sys2Proof.Machine.execResetBurner idx q s
  | .clearHardLock idx q => Sys2Proof.Machine.execClearHardLock idx q s
  | .holdTank idx q => Sys2Proof.Machine.execHoldTank idx q s
  | .forgetLevel idx q => Sys2Proof.Machine.execForgetLevel idx q s
  | .restart idx q => Sys2Proof.Machine.execRestart idx q s
  | .segmentLineChange port level => Sys2Proof.Machine.execSegmentLineChange port level s

end Sys2Proof.Machine
end

