-- ==== Sys2Proof/Machine/Step.lean ====
section
/-! DEFINITION. One step of the machine: the command at the front of the queue, or, with none waiting, a tick of the clock
(log 1). -/

namespace Sys2Proof.Machine

/-- The block idles: the timebase advances by one tick of 0.1 ms, within the range of uptime (log 1). -/
def idle (s : State) : Host.Outcome State Fault Refusal :=
  if (s.now + 1) / ticksPerSecond ≤ lastUptime then .next (s.setNow (s.now + 1)) else .fault .uptimeRangeEnded

/-- One step. -/
def step (s : State) : Host.Outcome State Fault Refusal :=
  match s.pending with
  | [] => idle s
  | c :: rest => exec c (s.setPending rest)

/-- The state with the command that a table word spells at the front of its queue; the table gives no row bits, so no word
spells one. -/
def State.withFetchWord (s : State) (nbits w : Nat) : State :=
  match decodeTableWord nbits w with
  | none => s
  | some c => s.setPending (c :: s.pending)

end Sys2Proof.Machine
end

