-- ==== Sys2Proof/Safety.lean ====
section
/-! DEFINITION. What a sound state is, in the terms the statements use: the safety properties the spec states of the whole part
(R31, R54, R137, R177) and the capacities of its tables. -/

namespace Sys2Proof.Machine

/-- The outcome of a step is a next state. -/
def Completes (o : Host.Outcome State Fault Refusal) : Prop := ∃ t, o = .next t

/-- Whenever CALL is asserted, the recovery state is CLOSED or PROVING, the tank state is not EMPTY, and a path exists (R31). -/
def CallSafe (s : State) : Prop :=
  callAsserted s = true → blocking s = false ∧ s.acct.tank ≠ .empty ∧ pathExists s = true

/-- RESET_OUT is active only in an open episode (R44, R56). -/
def PulseSafe (s : State) : Prop := resetOut s = true → s.recov.episode.isSome = true

/-- The NOTICE line is asserted exactly while the enabled set is non-empty (R177). -/
def NoticeSettled (s : State) : Prop := s.mgmt.line = true ↔ enabledSet s ≠ 0

/-- AUTOMATIC entries never number more than BUDGET (R54). -/
def BudgetKept (s : State) : Prop := autoCount s.recov.safe.history ≤ s.recov.set.budget

/-- Nothing is left over between commands: no arbitration is owed, and the NOTICE line follows the enabled set (log 13, log
14). -/
structure Settled (s : State) : Prop where
  /-- no arbitration event waits -/
  quiet : s.sched.wake = false
  /-- the NOTICE line is as R177 says -/
  notices : NoticeSettled s
  /-- the repeat timer is stopped while the enabled set is empty -/
  timer : enabledSet s = 0 → s.mgmt.repeatFrom = none

/-- What keeps CALL safe: the supervisor is LOCKED while the recovery unit blocks, LOCKED or INHIBITED while the tank state is
EMPTY, its sets follow the zone unit and the valves, and CALL has a path (R16, R27, R31, R37, R38). -/
structure SupervisorSound (s : State) : Prop where
  /-- a blocking recovery unit holds the supervisor in LOCKED -/
  locked : blocking s = true → s.sup.state = .locked
  /-- an EMPTY tank holds it in LOCKED or INHIBITED -/
  inhibited : s.acct.tank = .empty → s.sup.state = .locked ∨ s.sup.state = .inhibited
  /-- the wanting-heat set is the zone unit's -/
  handed : s.sup.wanting = s.zone.wanting
  /-- every wanting zone is in use -/
  inUse : ∀ z ∈ s.sup.wanting, zoneInUse s z = true
  /-- the served set is current -/
  served : s.sup.served = servedOf s s.sup.wanting
  /-- CALL has a path -/
  path : callAsserted s = true → pathExists s = true

/-! ### Frames, in the statements' terms -/

/-- The clock, the queue of commands and the free values drawn are unchanged. -/
def KeepsClock (s t : State) : Prop := t.now = s.now ∧ t.pending = s.pending ∧ t.freeIdx = s.freeIdx

/-- The relay unit, the zone unit, the supervisor and the recovery unit are unchanged. -/
def KeepsHeat (s t : State) : Prop := t.relay = s.relay ∧ t.zone = s.zone ∧ t.sup = s.sup ∧ t.recov = s.recov

/-- The level filter, the volume unit and the accounting unit are unchanged. -/
def KeepsOil (s t : State) : Prop := t.level = s.level ∧ t.vol = s.vol ∧ t.acct = s.acct

/-- The stores and the management unit are unchanged but for the NOTICE line and its timer. -/
def KeepsStores (s t : State) : Prop :=
  t.nv = s.nv ∧ ∃ line timer, t.mgmt = { s.mgmt with line := line, repeatFrom := timer }

/-- The poll list is unchanged but for the starts of its entries' exchanges. -/
def KeepsPollList (s t : State) : Prop :=
  t.sched.slots.map (Option.map fun e => { e with start := none, base := 0 }) =
    s.sched.slots.map (Option.map fun e => { e with start := none, base := 0 })

/-- Every block but the ports and the pool is unchanged. -/
def OnlyPortsChange (s t : State) : Prop :=
  KeepsClock s t ∧ KeepsHeat s t ∧ KeepsOil s t ∧ t.sched = s.sched ∧ t.mgmt = s.mgmt ∧ t.nv = s.nv

/-- A generated telegram joins the queue of a port and moves the pool across no threshold (R131, R138, R139). -/
structure CanQueue (s : State) (port : Port) : Prop where
  /-- a buffer is free -/
  buffer : s.pool.free ≠ 0
  /-- taking it crosses no threshold -/
  calm : s.pool.held = true ∨ holdThreshold + 1 < s.pool.free
  /-- the port is ACTIVE -/
  active : (s.port port).mode = .active
  /-- its queue has room -/
  room : (s.port port).queue.length < queueCap

/-- The op, object, index and sender of a command that is a management request (R170). -/
def requestOf : Instr → Option (Op × Byte × Byte × Req)
  | .read obj idx q => some (.read, obj, idx, q)
  | .enrolWrite idx q => some (.write, 2, idx, q)
  | .zoneWrite idx q => some (.write, 3, idx, q)
  | .reserveSetbackWrite q => some (.write, 3, 8, q)
  | .pollWrite idx q => some (.write, 6, idx, q)
  | .strapStagedWrite idx q => some (.write, 9, idx, q)
  | .scalingWrite item q => some (.write, 10, scalingIndex item, q)
  | .filterShapeWrite item q => some (.write, 10, shapeIndex item, q)
  | .tankLevelsWrite item q => some (.write, 10, levelsIndex item, q)
  | .burnerSetWrite item q => some (.write, 17, burnerIndex item, q)
  | .recoverySetWrite item q => some (.write, 19, recoveryIndex item, q)
  | .relaySettingsWrite item q => some (.write, 24, relayIndex item, q)
  | .noticeMaskWrite q => some (.write, 25, 1, q)
  | .counterClear obj idx q => some (.write, obj, idx, q)
  | .mgmtWrite obj idx q => some (.write, obj, idx, q)
  | .swapStrap idx q => some (.action, 1, idx, q)
  | .store idx q => some (.action, 2, idx, q)
  | .clearNotice idx q => some (.action, 3, idx, q)
  | .resetBurner idx q => some (.action, 4, idx, q)
  | .clearHardLock idx q => some (.action, 5, idx, q)
  | .holdTank idx q => some (.action, 6, idx, q)
  | .forgetLevel idx q => some (.action, 7, idx, q)
  | .restart idx q => some (.action, 8, idx, q)
  | _ => none

/-- A service source may write now: its address is a service source and no STORE is in progress (R170). -/
def MayWrite (s : State) (q : Req) : Prop := isService s q.src.toNat = true ∧ storeInProgress s = false

/-- What the management unit answers a request (R170). -/
def answerOf (op : Op) (obj idx : Byte) (q : Req) (s : State) : Reply :=
  (handle op.code obj idx q.room q.src q.data s).2

/-- The last index of each object, from object 1 (R170, R171). -/
def objectRanges : List Nat := [3, 15, 8, 7, 23, 12, 11, 32, 32, 15, 6, 0, 3, 5, 3, 7, 3, 6, 5, 6, 7, 7, 3, 22, 1]

/-- The object numbers and indices that R170 opens to WRITE: the read/write objects, the counter indices, the relay settings
and the notice mask. -/
def OpenToWrite (obj idx : Nat) : Prop :=
  obj ∈ [2, 3, 6, 9, 10, 17, 19, 23] ∨ (obj, idx) ∈ [(1, 3), (11, 6), (18, 1), (25, 1)] ∨ (obj = 24 ∧ idx ≤ 21)

/-- OK for a value taken as written, CLAMPED for another (R172). -/
def takenAs (written taken : Nat) : Reply := .bare (if taken = written then .ok else .clamped)

/-! ### Buffers and queues -/

/-- The buffers of a port: in assembly and in its queue. -/
def portBuffers (q : PortState) : Nat := (if q.asm.any (·.hasBuffer) then 1 else 0) + q.queue.length

/-- The buffers that are not free: in the ports and in the relay list. Between commands no consumer holds one (R137). -/
def buffersHeld (s : State) : Nat :=
  portBuffers s.portH + portBuffers s.portY + portBuffers s.portP + s.sched.relayList.length

/-- Every one of the 32 buffers is in exactly one place (R137). -/
def BuffersKept (s : State) : Prop := s.pool.free + buffersHeld s = poolSize

/-- No transmit queue holds more than eight telegrams (R131). -/
def QueuesFit (s : State) : Prop :=
  s.portH.queue.length ≤ queueCap ∧ s.portY.queue.length ≤ queueCap ∧ s.portP.queue.length ≤ queueCap

/-! ### More frames -/

/-- A port to which telegrams have at most been offered: its queue may have grown at the tail, and FLUSHED and QUEUE_FULL may
have been counted (R131). -/
def PortOffered (q q' : PortState) : Prop :=
  ∃ its fl qf, q' = { q with queue := q.queue ++ its, ctr := { q.ctr with flushed := fl, queueFull := qf } }

/-- Every port has at most been offered telegrams. -/
def PortsOffered (s t : State) : Prop :=
  PortOffered s.portH t.portH ∧ PortOffered s.portY t.portY ∧ PortOffered s.portP t.portP

/-- What a poll-list entry knows of its node: its address, interval, presence, misses and last answer, and the position and
fault its valve last showed. -/
def nodeSeen (e : PollEntry) : Nat × Nat × Bool × Nat × Nat × Option (Reported × Bool) :=
  (e.addr, e.interval, e.present, e.misses, e.lastAnswer, e.valve?.map fun r => (r.reported, r.fault))

/-- What the poll list knows of its nodes is unchanged: only desired positions, commands, due times and the starts of
exchanges may differ. -/
def KeepsNodes (s t : State) : Prop :=
  t.sched.slots.map (Option.map nodeSeen) = s.sched.slots.map (Option.map nodeSeen)

/-- Only the zone unit, the supervisor, the valve commands, BURNER_START, the notices and offers may have changed. -/
structure DispatchFrame (s t : State) : Prop where
  /-- the clock and the queue of commands -/
  clock : KeepsClock s t
  /-- the relay unit -/
  relay : t.relay = s.relay
  /-- the recovery unit -/
  recov : t.recov = s.recov
  /-- the level filter but for BURNER_START -/
  level : t.level = { s.level with burnerStart := t.level.burnerStart }
  /-- the volume unit -/
  vol : t.vol = s.vol
  /-- the accounting unit -/
  acct : t.acct = s.acct
  /-- the stores and the management unit -/
  stores : KeepsStores s t
  /-- what the poll list knows of its nodes -/
  nodes : KeepsNodes s t
  /-- the ports but for offers -/
  ports : PortsOffered s t

/-- As `DispatchFrame`, and in the zone unit only the grace, the states and the wanting-heat set. -/
def ZoneFrame (s t : State) : Prop :=
  DispatchFrame s t ∧
    t.zone = { s.zone with grace := t.zone.grace, states := t.zone.states, wanting := t.zone.wanting }

/-- Only the notices and offers may have changed in the blocks named here: the clock, the heat and oil blocks, the poll
scheduler and the stores are as they were. -/
def OnlyNoticesChange (s t : State) : Prop :=
  KeepsClock s t ∧ KeepsHeat s t ∧ KeepsOil s t ∧ t.sched = s.sched ∧ KeepsStores s t ∧ PortsOffered s t

/-! ### Resets -/

/-- A command that takes a reset now: POWER_ON and PIN_RESET always, RESTART_TAKEN when a RESTART waits and its response has
left its queue (R173, R174). -/
def TakesReset (c : Instr) (s : State) : Prop :=
  c = .powerOn ∨ c = .pinReset ∨ (c = .restartTaken ∧ s.mgmt.restart = true ∧ restartHeld s = false)

/-- The reset finds a valid settings store and a valid safety record with its flag clear. -/
def FindsGood (s : State) (img : StoreImage) (r : SafetyRecord) : Prop :=
  storeFound s = some img ∧ safetyFound s = some r ∧ r.flag = false

/-! ### Ports, queues and episodes -/

/-- A port that sends has a head to send and assembles nothing (R126, R131). -/
def SendsItsHead (q : PortState) : Prop := q.phase = .sending → q.asm = none ∧ q.queue ≠ []

/-- What keeps the buffers together: each in exactly one place (R137), no queue over its capacity (R131, R154), and a port that
sends has a head and assembles nothing. -/
structure BuffersSound (s : State) : Prop where
  /-- every buffer is in one place -/
  kept : BuffersKept s
  /-- no transmit queue holds more than eight telegrams -/
  fit : QueuesFit s
  /-- the relay list holds at most four -/
  list : s.sched.relayList.length ≤ relayListCap
  /-- port H -/
  sendsH : SendsItsHead s.portH
  /-- port Y -/
  sendsY : SendsItsHead s.portY
  /-- port P -/
  sendsP : SendsItsHead s.portP

/-- The episode record is empty exactly in CLOSED (R44, R45). -/
def EpisodeSound (s : State) : Prop := s.recov.state = .closed ↔ s.recov.episode = none

/-- The hard-lock flag is set exactly while the unit is in HARD_LOCK (R61). -/
def HardLockSound (s : State) : Prop := s.recov.safe.flag = true ↔ s.recov.state = .hardLock

/-- No write of non-volatile memory waits while the memory is idle (R65, R175). -/
def MemorySound (s : State) : Prop :=
  memoryIdle s = true → s.nv.waiting = false ∧ ∀ room src idx, s.mgmt.job ≠ .waiting room src idx

/-- A command that may clear the hard-lock flag: CLEAR-HARD-LOCK of a service source, as its request row or in a telegram that
a room port takes, or a telegram on P with which a delivery record opens (R61 to R63). -/
def ClearsTheLock (c : Instr) (s t : State) : Prop :=
  (∃ q, c = .clearHardLock 0 q ∧ q.data = [] ∧ isService s q.src.toNat = true) ∨
  (∃ room chars tel, c = .rxTelegramEnd (roomPort room) chars ∧ tel = parseTel (chars.map (·.data)) ∧
    tel.kind = 0x40 ∧ tel.payload = [3, 5, 0] ∧ isService s tel.src.toNat = true) ∨
  (∃ chars, c = .rxTelegramEnd .p chars ∧ deliveryOpen s = false ∧ deliveryOpen t = true)

/-- At most one delivery record is open, and it is the newest (R117). -/
def DeliveriesSound (s : State) : Prop :=
  s.acct.deliveries.length ≤ 8 ∧ ∀ d ∈ s.acct.deliveries.dropLast, d.reason.isSome = true

/-- The residue is less than one decilitre's worth (R108). -/
def ResidueSound (s : State) : Prop := s.acct.residue < creditUnit

/-! ### Telegrams -/

/-- A telegram as a station sends it: at most 16 payload bytes, CHECK computed, and addresses a port accepts (R122, R123,
R128). -/
structure WellSent (t : Telegram) : Prop where
  /-- the payload fits -/
  fits : t.payload.length ≤ 16
  /-- CHECK is computed -/
  check : t.check = checkOf t.body
  /-- SRC is 1 to 126 -/
  src : 1 ≤ t.src.toNat ∧ t.src.toNat ≤ 126
  /-- DEST is 0 to 127 -/
  dest : t.dest.toNat ≤ 127

/-- The characters of a telegram received without an error. -/
def received (t : Telegram) : List RxChar := t.wire.map cleanChar

/-- The line has been idle for 8 ms: the port saw it before the characters came, or the line is idle since then (R122, R126;
log 15). -/
def IdleSeen (q : PortState) (now : Nat) : Prop := q.armed = true ∨ ∃ since, q.line = .idle since ∧ since + 80 ≤ now

/-- The first character of a telegram may be taken on a port: ACTIVE, not sending, assembling nothing, and the line has been
idle for 8 ms (R122, R126). -/
structure MayListen (q : PortState) (now : Nat) : Prop where
  /-- the port is ACTIVE -/
  active : q.mode = .active
  /-- it assembles nothing -/
  free : q.asm = none
  /-- it does not send -/
  silent : q.phase ≠ .sending
  /-- the line has been idle long enough -/
  idle : IdleSeen q now

/-- A port whose line has ended a telegram 8 ms ago: it assembles nothing, the line has been idle since, and the receiver is ready
while the port is ACTIVE (R122, R126; log 15). -/
def ended (now : Nat) (q : PortState) : PortState :=
  { q with asm := none, line := .idle (now - 80), armed := decide (q.mode = .active) }

/-- The telegram ends on a room segment and is delivered: the port has stored it, it was sent well, and its source is known on
that segment and within its storm limit (R126 to R128, R148). -/
structure ArrivesFrom (room : Room) (t : Telegram) (n : NodeEntry) (s : State) : Prop where
  /-- nothing is left over from the command before -/
  settled : Settled s
  /-- the telegram is in assembly, in a buffer -/
  stored : ∃ start, (s.port (roomPort room)).asm = some { hasBuffer := true, start := start }
  /-- the port does not send -/
  silent : (s.port (roomPort room)).phase ≠ .sending
  /-- it was sent as a station sends -/
  sent : WellSent t
  /-- the node table holds the source -/
  known : nodeOf s t.src.toNat = some n
  /-- on this segment -/
  here : n.seg = room
  /-- the telegram is no excess -/
  within : n.storm < s.relay.set.nodeCap ∨ isService s t.src.toNat = true

/-- `u` is `s` once the port has delivered the telegram, and its source has been refreshed and counted: the source's entry was
heard now and its storm count is one more, and nothing else has changed (R128, R143, R148). -/
structure LearnedFrom (room : Room) (t : Telegram) (n : NodeEntry) (s u : State) : Prop where
  /-- the arrival port counts RX_GOOD, and the rest but for the node table is as it was -/
  frame : u = ({ s with relay := { s.relay with nodes := u.relay.nodes } } : State).setPort (roomPort room)
    { ended s.now (s.port (roomPort room)) with
      ctr := { (s.port (roomPort room)).ctr with rxGood := bump (s.port (roomPort room)).ctr.rxGood } }
  /-- the source's entry -/
  source : nodeOf u t.src.toNat = some { n with heard := s.sec, storm := bump8 n.storm }
  /-- the entries of the other addresses -/
  others : ∀ addr, addr ≠ t.src.toNat → nodeOf u addr = nodeOf s addr
  /-- every entry keeps its slot, and the rest of its fields -/
  slots : u.relay.nodes.map (Option.map fun e => { e with heard := 0, storm := 0 }) =
    s.relay.nodes.map (Option.map fun e => { e with heard := 0, storm := 0 })

/-! ### Requests and exchanges -/

/-- The command answers `r` to the request `op` at `idx` of object `obj` and does nothing to the state but to make it `t`
before the response joins its queue (R170). -/
def Answers (c : Instr) (op obj idx : Byte) (q : Req) (r : Reply) (s t : State) : Prop :=
  exec c s = .next (respond q.room q.src op obj idx r t)

/-- The outstanding exchange, if there is one, has begun in this command (R160, R161). -/
def ExchangeOver (s t : State) : Prop :=
  ∀ x, t.sched.exch = some x → x.start = s.tenths ∧ x.attempt = 1 ∧ x.window = none

/-- The position and the fault flag that the valve record of a slot shows (R159). -/
def valveShown (s : State) (slot : Nat) : Option (Reported × Bool) := (recordOf s slot).map fun r => (r.reported, r.fault)

/-- A request changes one table: the clock, the recovery unit, the volume and accounting units, the stores and the ports but
for offers are as they were. -/
structure TableFrame (s t : State) : Prop where
  /-- the clock and the queue of commands -/
  clock : KeepsClock s t
  /-- the recovery unit -/
  recov : t.recov = s.recov
  /-- the level filter but for BURNER_START and the stale timer -/
  level : t.level = { s.level with burnerStart := t.level.burnerStart, staleFrom := t.level.staleFrom }
  /-- the volume unit -/
  vol : t.vol = s.vol
  /-- the accounting unit -/
  acct : t.acct = s.acct
  /-- the stores and the management unit -/
  stores : KeepsStores s t
  /-- the relay unit but for the demand parts -/
  relay : t.relay = { s.relay with nodes := t.relay.nodes }
  /-- the node table but for the demand parts -/
  nodes : t.relay.nodes.map (Option.map fun n => { n with part := none }) =
    s.relay.nodes.map (Option.map fun n => { n with part := none })

/-! ### Poll-list writes -/

/-- A new poll-list entry at the address, interval and role code given, but for its exchanges (R158, R159). -/
def NewEntry (s : State) (addr interval role : Nat) (e : PollEntry) : Prop :=
  ∃ start base, e =
    { addr := addr
      role := if role = 0 then .gauge
        else .valve { desired := .closed, since := s.tenths, pending := true, reported := .unknown, fault := false,
                      travel := true }
      interval := interval, present := true, misses := 0, lastAnswer := 0
      due := s.tenths + (if role = 0 then interval * 10 else 20), start := start, base := base }

/-- The interval that R162 selects, in tenths, for an entry that is given a new interval of its own. -/
def selectedInterval (e : PollEntry) (interval : Nat) : Nat :=
  match e.present, e.valve? with
  | false, _ => 600
  | true, none => interval * 10
  | true, some v =>
    if (v.reported = .opened ∧ v.desired = .opened) ∨ (v.reported = .closed ∧ v.desired = .closed) then interval * 10
    else 20

/-! ### Demand parts -/

/-- `q` is the demand part `p` evaluated again without a new reading: the call state and frost flag of R7 for its last
temperature, against the effective setpoint of R6 for its stored setpoint or the zone's default (R9). -/
def Rerun (tank : TankState) (setback : Nat) (ze : ZoneEntry) (p q : DemandPart) : Prop :=
  ∃ e0 e : Nat, e0 = min (p.setpoint.getD ze.setpoint) ze.ceiling ∧
    e = (if tank = .reserve ∧ ze.cls = .normal then
           (if e0 ≤ ze.frost then e0 else max (e0 - setback) ze.frost)
         else if tank = .reserve ∧ ze.cls = .low then ze.frost else e0) ∧
    q = { p with
      calling := if p.temp ≤ (e : Int) - ze.diff then true else if (e : Int) ≤ p.temp then false else p.calling
      frost := if p.temp ≤ ze.frost then true else if (ze.frost : Int) + ze.diff ≤ p.temp then false else p.frost }

/-- The stored demand parts of the room units of the zones in `which` have been evaluated again, as the tank state, the
setback and the zone table now stand; the rest of the node table is as it was (R9). -/
def PartsRerun (which : Nat → Prop) (s t : State) : Prop :=
  t.relay.nodes.length = s.relay.nodes.length ∧
  ∀ slot, (slotGet s.relay.nodes slot = none → slotGet t.relay.nodes slot = none) ∧
    ∀ n, slotGet s.relay.nodes slot = some n → ∃ n', slotGet t.relay.nodes slot = some n' ∧
      n' = { n with part := n'.part } ∧ n'.part.isSome = n.part.isSome ∧
      ∀ p q, n.part = some p → n'.part = some q →
        (∀ z ze, unitZone s n.addr = some z → which z → t.zone.table[z]? = some ze →
          Rerun t.acct.tank t.zone.setback ze p q) ∧
        ((∀ z, unitZone s n.addr = some z → ¬ which z) → q = p)

/-! ### Burns -/

/-- What a partial burn credits now to the accumulator, and the residue it leaves (R25, R108, R109). -/
def partialCredit (s : State) (credit residue : Nat) : Prop :=
  (s.sup.rr.active = false → credit = 0 ∧ residue = s.acct.residue) ∧
  (s.sup.rr.active = true → ∃ x, x = (s.tenths - s.sup.rr.start) * s.acct.set.nozzleRate + s.acct.residue ∧
    credit = x / 3600000 ∧ residue = x % 3600000)

end Sys2Proof.Machine
end

