-- ==== Sys2Proof/Certificates/Slice0/Obligations.lean ====
section
/-! DEFINITION. The statements for the provers. Each is a claim about the machine for every state that meets its hypotheses; the
rules of spec/ it rests on are named in its comment. -/

open Sys2Proof Sys2Proof.Machine

/-! ### The step, and the resets -/

/-- A step runs the command at the front of the queue on the state with the rest of the queue; with none waiting the clock
advances by one tick of 0.1 ms, or stops at the end of the uptime range (the model's choice, log 1). Every command answers a
next state: the part has no event that stops it. -/
def Obligations.StepRunsTheFrontCommand : Prop :=
  (∀ (c : Instr) (rest : List Instr) (s : State), s.pending = c :: rest → step s = exec c { s with pending := rest }) ∧
  (∀ (c : Instr) (s : State), Completes (exec c s)) ∧
  ∀ s : State, s.pending = [] →
    ((s.now + 1) / 10000 ≤ 4294967295 → step s = .next { s with now := s.now + 1 }) ∧
    (4294967295 < (s.now + 1) / 10000 → step s = .fault .uptimeRangeEnded)

/-- After every reset kind the ports are ACTIVE with no assembly, an empty queue and counters 0, and all 32 buffers are free
(R141); but where a failed load of the settings store or a restored HARD_LOCK leaves the enabled set not empty, a NOTICE
stands on H and on Y and 30 buffers are free (R174, R176, R177). That the NOTICE follows the reset at once is the model's
(log 13), as is what the line shows (log 5, log 15). -/
def Obligations.ResetRestartsThePorts : Prop :=
  ∀ (c : Instr) (s : State), TakesReset c s →
    ∃ t, exec c s = .next t ∧ t.now = 0 ∧ t.pending = s.pending ∧ segmentBreakCond t = false ∧
      (∀ port, (t.port port).mode = .active ∧ (t.port port).armed = false ∧ (t.port port).asm = none ∧
        (t.port port).phase = .wait ∧ (t.port port).attempts = 0 ∧ (t.port port).ctr = {}) ∧
      (enabledSet t = 0 →
        (∀ port, (t.port port).queue = []) ∧
          t.pool = { free := 32, held := false, repeatFrom := none, genDropped := 0, holdEntry := 0 }) ∧
      (enabledSet t ≠ 0 →
        t.portH.queue = [{ tel := noticeTel t, mark := .plain }] ∧
          t.portY.queue = [{ tel := noticeTel t, mark := .plain }] ∧ t.portP.queue = [] ∧
          t.pool = { free := 30, held := false, repeatFrom := none, genDropped := 0, holdEntry := 0 })

/-- After every reset kind the relay unit (R157) and the zone unit (R21) stand as their tables say, with the settings of the
store, or the factory settings when its check fails. -/
def Obligations.ResetLoadsTheRoomUnits : Prop :=
  ∀ (c : Instr) (s : State) (img : StoreImage), TakesReset c s → img = (storeFound s).getD factoryImage →
    ∃ t, exec c s = .next t ∧
      t.relay = { set := img.relay, nodes := List.replicate 24 none, bcastH := 0, bcastY := 0, ctr := {} } ∧
      (storeFound s = none → t.relay.set = { ageLimit := 600, nodeCap := 12, bcastCap := 20 }) ∧
      t.zone =
        { enrol := img.enrol, table := img.table, setback := img.setback,
          states := img.table.map fun z => if z.cls = .unused then .unused else .waiting,
          wanting := [], grace := true, badDemand := 0, unenrolled := 0 } ∧
      t.sup.wanting = [] ∧ zoneBlindCond t = false ∧ frostCond t = false

/-- After every reset kind the supervisor stands as R43 says, LOCKED when HARD_LOCK is restored, and the recovery unit is
restored from the safety record it finds (R66, R67). That the raw inputs of R22 stay across the reset, and that the debounce
timer of an active one runs from uptime 0 where R43 has the timers stopped, is the model's choice (log 5). -/
def Obligations.ResetRestoresTheBurnerUnits : Prop :=
  ∀ (c : Instr) (s : State) (img : StoreImage), TakesReset c s → img = (storeFound s).getD factoryImage →
    ∃ t, exec c s = .next t ∧
      t.sup =
        { set := img.burner, state := if t.recov.state = .hardLock then .locked else .idle, pump := false,
          run := { raw := s.sup.run.raw, value := false, timer := if s.sup.run.raw then some 0 else none },
          lockout := { raw := s.sup.lockout.raw, value := false, timer := if s.sup.lockout.raw then some 0 else none },
          rr := { active := false, rise := 0, start := 0, lastDuration := 0, burnCount := 0, seen := false,
                  uncalled := 0 },
          minOffRef := 0, minOn := none, startWindow := none, overrun := none, holdExt := none, wanting := [],
          served := [], heldSet := [] } ∧
      callAsserted t = false ∧ resetOut t = false ∧ t.recov.log = [] ∧ t.recov.set = img.recovery ∧
      t.recov.pulseEnd = none ∧ t.recov.confirmFrom = none ∧
      (∀ r, safetyFound s = some r →
        t.nv.safety = some r ∧ t.nv.writing = none ∧ t.nv.waiting = false ∧
        t.recov.safe.flag = r.flag ∧ t.recov.safe.episode = r.episode ∧ t.recov.safe.cause = r.cause ∧
        t.recov.safe.history = lapseToBudget img.recovery.budget
          (r.history.map fun e =>
            { e with time := 0, outcome := if e.outcome = .pending then .notCleared else e.outcome }) ∧
        (r.flag = false → t.recov.state = .closed ∧ t.recov.episode = none ∧
          t.recov.counter = (r.history.getLast?.map (·.episode)).getD 0) ∧
        (r.flag = true → t.recov.state = .hardLock ∧ t.recov.counter = r.episode ∧
          t.recov.episode = some { number := r.episode, k := 1, cause := r.cause, ref := none, attempt := none,
                                   ret := none, proving := none })) ∧
      (safetyFound s = none →
        t.recov.state = .hardLock ∧ t.recov.counter = 0 ∧
        t.recov.safe = { flag := true, episode := 0, cause := .unknown, history := [] } ∧
        t.recov.episode = some { number := 0, k := 1, cause := .unknown, ref := none, attempt := none, ret := none,
                                 proving := none } ∧
        t.nv.safety = none ∧ t.nv.writing = some t.recov.safe ∧ t.nv.waiting = false)

/-- After every reset kind the poll scheduler, the level filter, the volume unit and the accounting unit stand as their tables
say, with the settings of the store or the factory settings (R158, R159, R169, R87, R102, R119). -/
def Obligations.ResetLoadsThePlantAndTheOil : Prop :=
  ∀ (c : Instr) (s : State) (img : StoreImage), TakesReset c s → img = (storeFound s).getD factoryImage →
    ∃ t, exec c s = .next t ∧
      t.sched =
        { slots := img.poll.map (Option.map fun p =>
            { addr := p.addr
              role := if p.isValve then
                  .valve { desired := .closed, since := 0, pending := true, reported := .unknown, fault := false,
                           travel := true }
                else .gauge
              interval := p.interval, present := true, misses := 0, lastAnswer := 0,
              due := if p.isValve then 20 else p.interval * 10, start := some 0, base := 0 }),
          relayList := [], exch := none, rr := 11, wake := false, ctr := {} } ∧
      t.level =
        { set := img.level, box := { depthSum := 0, tempSum := 0, count := 0, mark := false }, prev := none, ref := none,
          spikeRun := 0, faultRun := 0, depth := none, temp := none, time := 0, status := .none, burnerStart := false,
          serviceFrom := none,
          staleFrom := if img.poll.any (fun o => o.any fun p => !p.isValve) then some 0 else none, ctr := {} } ∧
      t.vol = { bankA := img.bank, bankB := img.bank, activeB := false, coef := img.coef, record := none, chain := [] } ∧
      t.acct =
        { set := img.acct, tank := .unknown, accum := 0, residue := 0, period := none, periods := [], leak := 0,
          deliveries := [], lastH0 := none } ∧
      levelStaleCond t = false ∧ reserveCond t = false ∧ emptyCond t = false ∧ nodeAbsentCond t = false ∧
      valveFaultCond t = false ∧ t.mgmt.events &&& 0x002F = 0

/-- After every reset kind no STORE and no RESTART waits, the mask is as loaded, and the pending set is empty but for
CONFIG_DEFAULTED when the store failed its check, which is not rewritten, and HARD_LOCK when it is restored (R174, R176,
R178). A write of non-volatile memory that the reset cuts off leaves the record as it was, or as written, or failing its
check, whichever the free value says (R65, R175; log 7); without one the records stay. -/
def Obligations.ResetSettlesTheNotices : Prop :=
  ∀ (c : Instr) (s : State) (img : StoreImage), TakesReset c s → img = (storeFound s).getD factoryImage →
    ∃ t, exec c s = .next t ∧ t.nv.store = storeFound s ∧ t.mgmt.storeOk = (storeFound s).isSome ∧
      t.mgmt.job = .none ∧ t.mgmt.restart = false ∧ t.mgmt.badRequest = 0 ∧ t.mgmt.mask = img.mask ∧
      pendingSet t =
        ((if storeFound s = none then 0x0010 else 0) ||| (if t.recov.state = .hardLock then 0x0040 else 0) : Word16) ∧
      (t.mgmt.line = true ↔ pendingSet t &&& img.mask ≠ 0) ∧
      t.mgmt.repeatFrom = (if pendingSet t &&& img.mask = 0 then none else some 0) ∧
      (∀ room src idx content, s.mgmt.job = .writing room src idx content →
        t.nv.store = s.nv.store ∨ t.nv.store = some content ∨ t.nv.store = none) ∧
      (∀ r, s.nv.writing = some r → t.nv.safety = s.nv.safety ∨ t.nv.safety = some r ∨ t.nv.safety = none) ∧
      (storeWriting s = false → t.nv.store = s.nv.store) ∧
      (s.nv.writing = none → t.nv.safety = s.nv.safety)

/-! ### Zones and room demand (chapter 1) -/

/-- At the expiry of the startup grace and at each hour-window boundary every zone is evaluated: its state is the first row of
R11 that holds, for the governing members of R10, and it wants heat as R14 says, a BLIND zone by the adjusted duty of R15. -/
def Obligations.EveryZoneIsEvaluated : Prop :=
  ∀ (c : Instr) (s : State),
    (c = .startupGraceExpiry ∧ s.zone.grace = true ∧ 120 ≤ s.sec) ∨ (c = .hourWindowBoundary ∧ s.sec % 3600 = 0) →
    ∃ t, exec c s = .next t ∧ ZoneFrame s t ∧
      t.zone.grace = (if c = .startupGraceExpiry then false else s.zone.grace) ∧
      ∀ (z : Nat) (ze : ZoneEntry) (duty : Nat) (fresh governs : NodeEntry → Prop),
        s.zone.table[z]? = some ze → z < s.zone.states.length →
        duty = (if s.acct.tank = .reserve ∧ ze.cls = .normal then ze.duty / 2
          else if s.acct.tank = .reserve ∧ ze.cls = .low then 0 else ze.duty) →
        (∀ n, fresh n ↔ some n ∈ s.relay.nodes ∧ unitZone s n.addr = some z) →
        (∀ n, governs n ↔ fresh n ∧
          (ze.mode = .select → (∃ m, fresh m ∧ ze.lead = some m.addr) → ze.lead = some n.addr)) →
        (ze.cls = .unused → t.zone.states[z]? = some .unused ∧ z ∉ t.zone.wanting) ∧
        (ze.cls ≠ .unused → (∀ n, ¬ fresh n) → t.zone.grace = true →
          t.zone.states[z]? = some .waiting ∧ z ∉ t.zone.wanting) ∧
        (ze.cls ≠ .unused → (∀ n, ¬ fresh n) → t.zone.grace = false →
          t.zone.states[z]? = some .blind ∧
            (z ∈ t.zone.wanting ↔ s.acct.tank ≠ .empty ∧ s.sec % 3600 < duty * 60)) ∧
        (ze.cls ≠ .unused → (∃ n d, governs n ∧ n.part = some d ∧ d.frost = true) →
          t.zone.states[z]? = some .frost ∧ (z ∈ t.zone.wanting ↔ s.acct.tank ≠ .empty)) ∧
        (ze.cls ≠ .unused → (∀ n d, governs n → n.part = some d → d.frost = false) →
          (∃ n d, governs n ∧ n.part = some d ∧ d.calling = true) →
          t.zone.states[z]? = some .calling ∧
            (z ∈ t.zone.wanting ↔ s.acct.tank ≠ .empty ∧ ¬(ze.cls = .low ∧ s.acct.tank = .reserve))) ∧
        (ze.cls ≠ .unused → (∃ n, fresh n) →
          (∀ n d, governs n → n.part = some d → d.frost = false ∧ d.calling = false) →
          t.zone.states[z]? = some .satisfied ∧ z ∉ t.zone.wanting)

/-- At the end of a BLIND zone's duty portion, its adjusted duty × 60 into the hour, the zone leaves the wanting-heat set, and
no other zone changes (R12, R15). -/
def Obligations.DutyPortionEndStopsTheZone : Prop :=
  ∀ (z duty : Nat) (ze : ZoneEntry) (s : State), s.zone.table[z]? = some ze → z < s.zone.states.length →
    ze.cls ≠ .unused → (∀ n, some n ∈ s.relay.nodes → unitZone s n.addr ≠ some z) → s.zone.grace = false →
    duty = (if s.acct.tank = .reserve ∧ ze.cls = .normal then ze.duty / 2
      else if s.acct.tank = .reserve ∧ ze.cls = .low then 0 else ze.duty) →
    duty * 60 ≤ s.sec % 3600 →
    ∃ t, exec (.dutyPortionEnd z) s = .next t ∧ ZoneFrame s t ∧ t.zone.grace = s.zone.grace ∧
      t.zone.states[z]? = some .blind ∧ z ∉ t.zone.wanting ∧
      ∀ y, y ≠ z → t.zone.states[y]? = s.zone.states[y]? ∧
        (y < s.zone.table.length → (y ∈ t.zone.wanting ↔ y ∈ s.zone.wanting))

/-- A DEMAND received clean in a room segment within its source's storm limit, the source being known there, on the other
segment or not at all. With LEN 3 or 5 from a room unit it is stored in the unit's entry with its clamped fields and the call
state and frost flag of R7 against the effective setpoint of R6, the zone is evaluated, and STATUS joins the arrival port's
queue with the fields of R17; its plant state shows what R17 says, where the DEMAND moved the supervisor perhaps only in the
next STATUS (log 8, log 33). With another LEN it counts BAD_DEMAND, from another source UNENROLLED, and no demand part
changes and no STATUS is made (R4 to R8, R17). -/
def Obligations.DemandIsStored : Prop :=
  ∀ (room : Room) (start : Nat) (t : Telegram) (old : Option NodeEntry) (ctr : RelayCounters) (s : State),
    (s.port (roomPort room)).asm = some { hasBuffer := true, start := start } →
    (s.port (roomPort room)).phase ≠ .sending → WellSent t → t.dest = 0 → t.kind = 0x11 → 0 < s.relay.set.nodeCap →
    old = nodeOf s t.src.toNat → (∀ n, old = some n → n.storm < s.relay.set.nodeCap) →
    (old = none → ∃ i : Nat, s.relay.nodes[i]? = some none) →
    ctr = (match old with
      | none => { s.relay.ctr with learned := bump s.relay.ctr.learned }
      | some n => if n.seg = room then s.relay.ctr else { s.relay.ctr with migrated := bump s.relay.ctr.migrated }) →
    (∀ (x y : Int) (flags : Byte) (given : List Byte) (z : Nat) (ze : ZoneEntry) (temp : Int) (setpoint : Option Nat)
        (e0 e : Nat) (part : DemandPart),
      -32768 ≤ x → x < 32768 → -32768 ≤ y → y < 32768 → given = [] ∨ given = beSigned 2 y →
      t.payload = beSigned 2 x ++ [flags] ++ given → temp = min 500 (max (-300) x) →
      setpoint = (if given = [] then none else some (min 300 (max 50 y)).toNat) →
      unitZone s t.src.toNat = some z → s.zone.table[z]? = some ze →
      e0 = min (setpoint.getD ze.setpoint) ze.ceiling →
      e = (if s.acct.tank = .reserve ∧ ze.cls = .normal then
             (if e0 ≤ ze.frost then e0 else max (e0 - s.zone.setback) ze.frost)
           else if s.acct.tank = .reserve ∧ ze.cls = .low then ze.frost else e0) →
      part =
        { temp := temp, setpoint := setpoint, batteryLow := flags.getLsbD 0, manual := flags.getLsbD 1
          calling := if temp ≤ (e : Int) - ze.diff then true else if (e : Int) ≤ temp then false
            else ((old.bind (·.part)).map (·.calling)).getD false
          frost := if temp ≤ ze.frost then true else if (ze.frost : Int) + ze.diff ≤ temp then false
            else ((old.bind (·.part)).map (·.frost)).getD false
          time := s.sec } →
      ∃ u its, ∃ plant : Byte, exec (.rxTelegramEnd (roomPort room) (received t)) s = .next u ∧
        nodeOf u t.src.toNat = some
          { addr := t.src.toNat, seg := room, heard := s.sec, storm := bump8 ((old.map (·.storm)).getD 0)
            holdOffSent := (old.map (·.holdOffSent)).getD false, part := some part } ∧
        (∀ other, other ≠ t.src.toNat → nodeOf u other = nodeOf s other) ∧
        (z < s.zone.states.length → u.zone.states[z]? = some (zoneStateOf u z)) ∧
        ((s.port (roomPort room)).mode = .active → (s.port (roomPort room)).queue.length < 5 → s.pool.held = false →
          13 ≤ s.pool.free →
          (u.port (roomPort room)).queue = (s.port (roomPort room)).queue ++ its ++
            [{ tel := composeTel t.src 0x12
                ([BitVec.ofNat 8 z, (u.zone.states.getD z .unused).code] ++ beBytes 2 e ++
                  [if part.calling then 1 else 0, plant, s.acct.tank.code])
               mark := .plain }]) ∧
        (s.recov.state = .hardLock → plant = 3) ∧
        (s.recov.state ≠ .hardLock → blocking s = true ∨ s.sup.state = .locked → plant = 2) ∧
        (blocking s = false → s.sup.state = .inhibited → plant = 4) ∧
        (blocking s = false → s.sup.state ≠ .locked → s.sup.state ≠ .inhibited → (plant = 0 ∨ plant = 1) ∧
          ((∃ n, old = some n ∧ n.seg = room) → callAsserted u = callAsserted s →
            plant = if callAsserted s then 1 else 0)) ∧
        u.now = s.now ∧ u.pending = s.pending ∧ u.recov = s.recov ∧ u.vol = s.vol ∧ u.acct = s.acct ∧ KeepsStores s u ∧
        KeepsNodes s u ∧ u.relay.ctr = ctr ∧ u.zone.enrol = s.zone.enrol ∧ u.zone.table = s.zone.table ∧
        u.zone.setback = s.zone.setback ∧ u.zone.badDemand = s.zone.badDemand ∧ u.zone.unenrolled = s.zone.unenrolled) ∧
    ∀ bad : Bool, bad = decide (t.payload.length ≠ 3 ∧ t.payload.length ≠ 5) →
      bad = true ∨ unitZone s t.src.toNat = none →
      ∃ u, exec (.rxTelegramEnd (roomPort room) (received t)) s = .next u ∧
        nodeOf u t.src.toNat = some
          { addr := t.src.toNat, seg := room, heard := s.sec, storm := bump8 ((old.map (·.storm)).getD 0)
            holdOffSent := (old.map (·.holdOffSent)).getD false, part := old.bind (·.part) } ∧
        (∀ other, other ≠ t.src.toNat → nodeOf u other = nodeOf s other) ∧
        u.zone.badDemand = (if bad then bump s.zone.badDemand else s.zone.badDemand) ∧
        u.zone.unenrolled = (if bad then s.zone.unenrolled else bump s.zone.unenrolled) ∧
        KeepsClock s u ∧ u.recov = s.recov ∧ u.vol = s.vol ∧ u.acct = s.acct ∧ KeepsStores s u ∧ KeepsNodes s u ∧
        u.relay.ctr = ctr ∧ u.zone.enrol = s.zone.enrol ∧ u.zone.table = s.zone.table ∧
        (Settled s → (∃ n, old = some n ∧ n.seg = room) → s.pool.held = false ∨ s.pool.free < 13 →
          u.zone = { s.zone with badDemand := u.zone.badDemand, unenrolled := u.zone.unenrolled } ∧ u.sup = s.sup ∧
          u.level = s.level ∧ u.sched = s.sched ∧ u.mgmt = s.mgmt ∧
          u.pool = { s.pool with free := s.pool.free + 1 } ∧
          (u.port (roomPort room)).queue = (s.port (roomPort room)).queue)

/-! ### The burner supervisor (chapter 2) -/

/-- A change of a raw burner input changes that input's debounce stage and nothing else: its timer runs anew while the raw
input differs from the debounced value, and is cancelled when it returns to it (R22). -/
def Obligations.SenseChangesMoveTheDebounce : Prop :=
  ∀ (level : Bool) (s : State), Settled s →
    (s.sup.run.raw ≠ level →
      exec (.runSenseChange level) s = .next
        { s with sup := { s.sup with run :=
          { raw := level, value := s.sup.run.value,
            timer := if level = s.sup.run.value then none else some s.tenths } } }) ∧
    (s.sup.lockout.raw ≠ level →
      exec (.lockoutSenseChange level) s = .next
        { s with sup := { s.sup with lockout :=
          { raw := level, value := s.sup.lockout.value,
            timer := if level = s.sup.lockout.value then none else some s.tenths } } })

/-- A RUN rise, 0.5 s after the raw input rose, starts the run record's run; in a call it is seen and CALLING or HOLDING
becomes FIRING, outside a call it is an uncalled run; in PROVING it sets the proving start (R22, R23, R33, R34, R41, R58).
Nothing else changes. -/
def Obligations.RunRiseStartsTheRun : Prop :=
  ∀ (since : Nat) (s : State), Settled s →
    s.sup.run = { raw := true, value := false, timer := some since } → since + 5 ≤ s.tenths →
    exec .runRise s = .next
      { s with
        sup := { s.sup with
          run := { raw := true, value := true, timer := none }
          rr := { s.sup.rr with
            active := true, rise := s.tenths, start := s.tenths
            seen := if callAsserted s then true else s.sup.rr.seen
            uncalled := if callAsserted s then s.sup.rr.uncalled else bump s.sup.rr.uncalled }
          state := if callAsserted s then .firing else s.sup.state
          startWindow := if s.sup.state = .calling then none else s.sup.startWindow
          holdExt := if s.sup.state = .calling then (if s.sup.set.holdExtend = 0 then none else some s.tenths)
            else s.sup.holdExt }
        level := { s.level with
          burnerStart := if s.sup.state = .calling ∧ s.sup.set.holdExtend = 0 then false else s.level.burnerStart }
        recov := { s.recov with
          episode := if s.recov.state = .proving then s.recov.episode.map fun e => { e with proving := some s.tenths }
            else s.recov.episode } }

/-- A RUN fall closes the burn: the portion since run start is credited with the carried residue, the burn is counted, the
fall is the min-off reference, FIRING becomes HOLDING, and a proving start is cleared (R24, R34, R39, R58, R108, R109).
Nothing else changes. -/
def Obligations.RunFallCreditsTheBurn : Prop :=
  ∀ (since x : Nat) (s : State), Settled s →
    s.sup.run = { raw := false, value := true, timer := some since } → since + 5 ≤ s.tenths →
    x = (s.tenths - s.sup.rr.start) * s.acct.set.nozzleRate + s.acct.residue →
    exec .runFall s = .next
      { s with
        sup := { s.sup with
          run := { raw := false, value := false, timer := none }
          rr := { s.sup.rr with
            active := false, lastDuration := s.tenths - s.sup.rr.rise, burnCount := bump s.sup.rr.burnCount }
          minOffRef := s.tenths
          state := if s.sup.state = .firing then .holding else s.sup.state }
        acct := { s.acct with
          accum := s.acct.accum + x / 3600000
          residue := x % 3600000
          period := s.acct.period.map fun p => { p with burn := p.burn + x / 3600000 } }
        recov := { s.recov with
          episode := if s.recov.state = .proving then s.recov.episode.map fun e => { e with proving := none }
            else s.recov.episode } }

/-- A lockout taken, 2.0 s after the raw input became active, is recorded with its cause. In CLOSED it opens an episode with
the next number and k = 1, in PROVING the episode goes on with its k, in the other states but WAIT_RETRY it joins the open
episode; the supervisor is LOCKED and CALL drops; LOCKOUT is pending (R26, R36, R37, R46 to R50). -/
def Obligations.LockoutTakenOpensAnEpisode : Prop :=
  ∀ (since number : Nat) (cause : Cause) (old : Option Episode) (ref : Option Nat) (s : State),
    s.sup.lockout = { raw := true, value := false, timer := some since } → since + 20 ≤ s.tenths →
    cause = (if s.acct.tank = .empty then .fuelEmpty
      else if s.level.temp.any (fun t => decide (t ≤ s.recov.set.waxTemp)) then .fuelCold
      else if callAsserted s = false then .external
      else if s.sup.rr.seen = false then .noIgnition else .flameLoss) →
    number = (if s.recov.state = .closed then (s.recov.counter + 1) % 65536
      else (s.recov.episode.map (·.number)).getD 0) →
    old = (if s.recov.state = .closed then some { number := number, k := 1, cause := cause } else s.recov.episode) →
    ref = (if cause = .fuelEmpty then none else some s.tenths) → s.recov.state ≠ .waitRetry →
    ∃ t, exec .lockoutTaken s = .next t ∧
      t.recov.log = logAppend 8 s.recov.log
        { episode := number, time := s.sec, cause := cause, sup := s.sup.state, seen := s.sup.rr.seen,
          tank := s.acct.tank, v15 := s.vol.record.map (·.v15), temp := s.level.temp } ∧
      t.recov.counter = (if s.recov.state = .closed then number else s.recov.counter) ∧
      t.recov.set = s.recov.set ∧ t.recov.safe = s.recov.safe ∧ t.recov.pulseEnd = s.recov.pulseEnd ∧
      t.recov.confirmFrom = s.recov.confirmFrom ∧
      (s.recov.state = .closed ∨ s.recov.state = .proving →
        t.recov.state = (if cause = .fuelEmpty then .fuelWait else .waitRetry) ∧
        t.recov.episode =
          old.map fun e => { e with cause := cause, ref := ref, ret := none, proving := none }) ∧
      (s.recov.state ≠ .closed → s.recov.state ≠ .proving →
        t.recov.state = s.recov.state ∧ t.recov.episode = old.map fun e => { e with cause := cause }) ∧
      t.sup.state = .locked ∧ t.sup.lockout = { raw := true, value := true, timer := none } ∧ t.sup.rr = s.sup.rr ∧
      t.sup.run = s.sup.run ∧ t.sup.set = s.sup.set ∧ t.sup.wanting = s.sup.wanting ∧ t.sup.served = s.sup.served ∧
      (callAsserted s = true →
        t.sup.minOn = none ∧ t.sup.startWindow = none ∧
        (s.sup.set.pumpOverrun ≠ 0 → t.sup.overrun = some s.tenths ∧ t.sup.pump = s.sup.pump) ∧
        (s.sup.set.pumpOverrun = 0 → t.sup.overrun = none ∧ t.sup.pump = false) ∧
        t.sup.minOffRef = if s.sup.rr.seen then s.sup.minOffRef else s.tenths) ∧
      t.mgmt.events = s.mgmt.events ||| 0x0001 ∧ t.mgmt.mask = s.mgmt.mask ∧ KeepsClock s t ∧ t.relay = s.relay ∧
      t.zone = s.zone ∧ t.vol = s.vol ∧ t.acct = s.acct ∧ t.nv = s.nv ∧ KeepsNodes s t ∧ PortsOffered s t ∧
      t.level = { s.level with burnerStart := t.level.burnerStart }

/-- A lockout released in WAIT_RETRY, FUEL_WAIT or CONFIRMING takes the episode to PROVING, an attempt in hand ending CLEARED
and an automatic one raising k; the supervisor leaves LOCKED with min-off measured from now. In the other states only the
debounced value changes (R26, R37, R55, R57, R59). -/
def Obligations.LockoutReleaseEndsTheWait : Prop :=
  ∀ (since : Nat) (s : State), Settled s →
    s.sup.lockout = { raw := false, value := true, timer := some since } → since + 20 ≤ s.tenths →
    (∀ e, s.recov.state = .waitRetry ∨ s.recov.state = .fuelWait ∨ s.recov.state = .confirming →
      s.recov.episode = some e → s.sup.state = .locked → 0 < s.sup.set.minOff →
      exec .lockoutReleased s = .next
        { s with
          sup := { s.sup with
            lockout := { raw := false, value := false, timer := none }
            minOffRef := s.tenths
            state := if s.acct.tank = .empty then .inhibited else if s.sup.served = [] then .idle else .waitOff }
          recov := { s.recov with
            state := .proving
            confirmFrom := none
            safe := { s.recov.safe with
              history := match e.attempt with
                | none => s.recov.safe.history
                | some a => s.recov.safe.history.modify a.pos fun h => { h with outcome := .cleared } }
            episode := some { e with
              k := if e.attempt.any (·.automatic) then bump8 e.k else e.k
              attempt := none, ref := none, ret := none
              proving := if s.sup.rr.active then some s.tenths else none } } }) ∧
    (s.recov.state = .closed ∨ s.recov.state = .proving ∨ s.recov.state = .pulsing ∨ s.recov.state = .hardLock →
      exec .lockoutReleased s = .next
        { s with sup := { s.sup with lockout := { raw := false, value := false, timer := none } } })

/-- When min-off has elapsed with RUN not active, IDLE or WAIT_OFF with a zone served enters CALLING: CALL and PUMP are
asserted, the overrun and a pending clear are cancelled, both timers start, and BURNER_START is set. Nothing else changes
(R31 to R33, R39, R41). -/
def Obligations.MinOffElapsedStartsTheCall : Prop :=
  ∀ s : State, Settled s → s.sup.rr.active = false → s.sup.minOffRef + s.sup.set.minOff * 10 ≤ s.tenths →
    s.sup.state = .idle ∨ s.sup.state = .waitOff → s.sup.served ≠ [] →
    exec .minOffElapsed s = .next
      { s with
        sup := { s.sup with
          state := .calling, pump := true, overrun := none, rr := { s.sup.rr with seen := false }
          minOn := some s.tenths, startWindow := some s.tenths, holdExt := none }
        level := { s.level with burnerStart := true } }

/-- When min-on expires in a call with no zone served, the call ends: the supervisor is IDLE, the pump overrun starts, and a
call without a run is a min-off reference and starts the hold extension; with PUMP_OVERRUN 0 PUMP drops too and the held set
is released (R29, R35, R36, R39 to R41). -/
def Obligations.MinOnExpiryEndsTheCall : Prop :=
  ∀ (since : Nat) (s : State), Settled s → callAsserted s = true → s.sup.served = [] →
    s.sup.minOn = some since → since + s.sup.set.minOn * 10 ≤ s.tenths →
    (s.sup.set.pumpOverrun ≠ 0 →
      exec .minOnExpiry s = .next
        { s with
          sup := { s.sup with
            state := .idle, minOn := none, startWindow := none, overrun := some s.tenths
            minOffRef := if s.sup.rr.seen then s.sup.minOffRef else s.tenths
            holdExt := if s.sup.rr.seen then s.sup.holdExt
              else if s.sup.set.holdExtend = 0 then none else some s.tenths }
          level := { s.level with
            burnerStart := if s.sup.rr.seen = false ∧ s.sup.set.holdExtend = 0 then false
              else s.level.burnerStart } }) ∧
    (s.sup.set.pumpOverrun = 0 →
      ∃ t, exec .minOnExpiry s = .next t ∧ DispatchFrame s t ∧ t.zone = s.zone ∧
        t.sup = { s.sup with
          state := .idle, minOn := none, startWindow := none, pump := false, overrun := none, heldSet := []
          minOffRef := if s.sup.rr.seen then s.sup.minOffRef else s.tenths
          holdExt := if s.sup.rr.seen then s.sup.holdExt
            else if s.sup.set.holdExtend = 0 then none else some s.tenths })

/-- The start window's expiry in CALLING raises START_OVERDUE once and leaves CALL asserted (R33). -/
def Obligations.StartWindowRaisesStartOverdue : Prop :=
  ∀ (since : Nat) (s : State), s.sup.state = .calling → s.sup.startWindow = some since → since + 1200 ≤ s.tenths →
    ∃ t, exec .startWindowExpiry s = .next t ∧ t.sup = { s.sup with startWindow := none } ∧ callAsserted t = true ∧
      t.mgmt.events = s.mgmt.events ||| 0x0008 ∧ t.mgmt.mask = s.mgmt.mask ∧ t.mgmt.job = s.mgmt.job ∧ t.nv = s.nv ∧
      KeepsClock s t ∧ t.relay = s.relay ∧ t.zone = s.zone ∧ t.recov = s.recov ∧ KeepsOil s t ∧ KeepsNodes s t ∧
      PortsOffered s t

/-- The pump overrun's expiry drops PUMP and releases the held set, each held zone's valve being desired CLOSED (R29, R40). -/
def Obligations.OverrunEndStopsThePump : Prop :=
  ∀ (since : Nat) (s : State), s.sup.overrun = some since → since + s.sup.set.pumpOverrun * 10 ≤ s.tenths →
    ∃ t, exec .pumpOverrunExpiry s = .next t ∧ DispatchFrame s t ∧ t.zone = s.zone ∧ t.level = s.level ∧
      t.sup = { s.sup with pump := false, overrun := none, heldSet := [] } ∧
      ∀ z ∈ s.sup.heldSet, ∀ addr, zoneValve s z = some addr → ∀ r, valveAt t addr = some r → r.desired = .closed

/-- The expiry of the hold extension clears BURNER_START, and 3600 s after the last HOLD-TANK on SERVICE leaves the hold
causes. Nothing else changes (R41, R79, R82). -/
def Obligations.HoldTimersLeaveTheirCauses : Prop :=
  ∀ (since : Nat) (s : State), Settled s →
    (s.sup.holdExt = some since → since + s.sup.set.holdExtend * 10 ≤ s.tenths →
      exec .holdExtendExpiry s = .next
        { s with sup := { s.sup with holdExt := none }, level := { s.level with burnerStart := false } }) ∧
    (s.level.serviceFrom = some since → since + 3600 ≤ s.sec →
      exec .serviceHoldExpiry s = .next { s with level := { s.level with serviceFrom := none } })

/-! ### Lockout recovery (chapter 3) -/

/-- At the due time of an automatic attempt: an EMPTY tank sends the episode to FUEL_WAIT; else the lapses due are applied,
and with BUDGET AUTOMATIC entries left the episode is hard-locked and a safety write requested; else an AUTOMATIC entry is
appended, the attempt is in hand, and a safety write is requested (R51 to R55, R61, R65). -/
def Obligations.DueTimeDecidesTheAttempt : Prop :=
  ∀ (since : Nat) (e : Episode) (base : Nat) (lapsed : List HistEntry) (idle : Bool) (s : State), Settled s →
    s.recov.state = .waitRetry → s.recov.episode = some e → e.attempt = none → e.ref = some since →
    base = (if e.cause = .fuelCold then 1800 else s.recov.set.retryBase) →
    since + min (base * 2 ^ (e.k - 1)) (max s.recov.set.cap base) * 10 ≤ s.tenths →
    lapsed = s.recov.safe.history.map (fun h =>
      if h.kind = .automatic ∧ h.time + s.recov.set.window ≤ s.sec then { h with kind := .lapsed } else h) →
    idle = (memoryIdle s && !s.nv.waiting) →
    (s.acct.tank = .empty →
      exec .retryDue s = .next
        { s with recov := { s.recov with
          state := .fuelWait, episode := some { e with ref := none, ret := none } } }) ∧
    (s.acct.tank ≠ .empty → s.recov.set.budget ≤ autoCount lapsed →
      ∃ t safe, exec .retryDue s = .next t ∧
        safe = ({ flag := true, episode := e.number, cause := e.cause, history := lapsed } : SafetyRecord) ∧
        t.recov = { s.recov with state := .hardLock, safe := safe, episode := some { e with ref := none } } ∧
        t.nv = (if idle then { s.nv with writing := some safe, waiting := false } else { s.nv with waiting := true }) ∧
        hardLockCond t = true ∧ t.mgmt.events = s.mgmt.events ∧ KeepsClock s t ∧ t.relay = s.relay ∧ t.zone = s.zone ∧
        t.sup = s.sup ∧ KeepsOil s t ∧ t.sched = s.sched ∧ PortsOffered s t) ∧
    (s.acct.tank ≠ .empty → autoCount lapsed < s.recov.set.budget →
      ∃ entry h safe, entry = ({ time := s.sec, kind := .automatic, episode := e.number, outcome := .pending } : HistEntry) ∧
        h = (if lapsed.length < 8 then lapsed else evictEntry lapsed) ++ [entry] ∧
        safe = { s.recov.safe with history := h } ∧
        exec .retryDue s = .next
          { s with
            recov := { s.recov with
              safe := safe
              episode := some { e with
                attempt := some { automatic := true, pos := h.length - 1, carried := idle } } }
            nv := if idle then { s.nv with writing := some safe, waiting := false } else { s.nv with waiting := true } })

/-- A waiting safety write starts when the memory is idle, with the working copy as it stands; its completion makes the
record so, and the write that waits for the memory then starts. The completion that carries an automatic attempt in
WAIT_RETRY starts the pulse for the RESET_WIDTH in force if LOCKOUT is active, or goes to FUEL_WAIT if the tank is EMPTY; one
that finds no attempt in hand, or one it does not carry, leaves the episode (R55, R56, R65, R175; that a pulse waits for a
write started after the entry is log 23, that the recovery unit is told before the next write starts, and a safety write goes
before a STORE that waits as well, is log 10). -/
def Obligations.SafetyWritesComeBeforeThePulse : Prop :=
  ∀ s : State, Settled s →
    (∀ t : State, t = { s with
        nv := { s.nv with writing := some s.recov.safe, waiting := false }
        recov := { s.recov with episode := s.recov.episode.map fun e =>
          { e with attempt := e.attempt.map fun a => { a with carried := true } } } } →
      s.nv.waiting = true → memoryIdle s = true → startNextWrite s = t ∧ exec .safetyWriteStart s = .next t) ∧
    (memoryIdle s = false ∨ (s.nv.waiting = false ∧ ∀ room src idx, s.mgmt.job ≠ .waiting room src idx) →
      startNextWrite s = s) ∧
    (∀ r e pos, s.nv.writing = some r → s.recov.state = .waitRetry → s.recov.episode = some e →
      e.attempt = some { automatic := true, pos := pos, carried := true } →
      (s.acct.tank ≠ .empty → s.sup.lockout.value = true →
        exec .safetyWriteComplete s = .next (startNextWrite
          { s with
            nv := { s.nv with safety := some r, writing := none }
            recov := { s.recov with
              state := .pulsing, pulseEnd := some (s.tenths + s.recov.set.resetWidth)
              episode := some { e with ref := none } } })) ∧
      (s.acct.tank = .empty →
        exec .safetyWriteComplete s = .next (startNextWrite
          { s with
            nv := { s.nv with safety := some r, writing := none }
            recov := { s.recov with
              state := .fuelWait
              safe := { s.recov.safe with history :=
                s.recov.safe.history.modify pos fun h => { h with outcome := .notCleared } }
              episode := some { e with attempt := none, k := bump8 e.k, ref := none, ret := none } } }))) ∧
    (∀ r, s.nv.writing = some r → (∀ a, attemptInHand s = some a → a.carried = false) →
      exec .safetyWriteComplete s = .next (startNextWrite { s with nv := { s.nv with safety := some r, writing := none } }))

/-- The pulse's end makes RESET_OUT inactive and waits 10 s for a release while LOCKOUT is active; with no release an
automatic attempt ends NOT_CLEARED, k rises and the episode waits again from now. A service pulse so ended keeps k: from
WAIT_RETRY the episode returns there with its reference, and a due time that has passed acts at once as at RETRY_DUE; from
FUEL_WAIT it returns there while the tank is EMPTY and otherwise waits from now. 120 s of RUN in PROVING close the episode. A
pulse that ends with LOCKOUT released goes to PROVING at once (R52, R56 to R58, R64). -/
def Obligations.PulseConfirmationAndProving : Prop :=
  ∀ (since : Nat) (s : State), Settled s →
    (s.recov.state = .pulsing → s.recov.pulseEnd = some since → since ≤ s.tenths → s.sup.lockout.value = true →
      exec .resetPulseEnd s = .next
        { s with recov := { s.recov with state := .confirming, pulseEnd := none, confirmFrom := some s.tenths } }) ∧
    (∀ e, s.recov.state = .pulsing → s.recov.pulseEnd = some since → since ≤ s.tenths → s.sup.lockout.value = false →
      s.recov.episode = some e →
      ∃ t, exec .resetPulseEnd s = .next t ∧ t.recov.state = .proving ∧ resetOut t = false ∧
        t.recov.episode = some { e with
          k := if e.attempt.any (·.automatic) then bump8 e.k else e.k
          attempt := none, ref := none, ret := none
          proving := if s.sup.rr.active then some s.tenths else none } ∧
        KeepsClock s t ∧ t.relay = s.relay ∧ t.zone = s.zone ∧ t.vol = s.vol ∧ t.acct = s.acct ∧ t.nv = s.nv ∧
        KeepsNodes s t ∧ PortsOffered s t) ∧
    (∀ e pos carried, s.recov.state = .confirming → s.recov.confirmFrom = some since → since + 100 ≤ s.tenths →
      s.recov.episode = some e → e.attempt = some { automatic := true, pos := pos, carried := carried } →
      exec .confirmTimeout s = .next
        { s with recov := { s.recov with
          state := .waitRetry, confirmFrom := none
          safe := { s.recov.safe with history :=
            s.recov.safe.history.modify pos fun h => { h with outcome := .notCleared } }
          episode := some { e with attempt := none, k := bump8 e.k, ref := some s.tenths, ret := none } } }) ∧
    (∀ e pos carried ret safe, s.recov.state = .confirming → s.recov.confirmFrom = some since → since + 100 ≤ s.tenths →
      s.recov.episode = some e → e.attempt = some { automatic := false, pos := pos, carried := carried } →
      e.ret = some ret →
      safe = { s.recov.safe with history :=
        s.recov.safe.history.modify pos fun h => { h with outcome := .notCleared } } →
      (ret = .waitRetry →
        exec .confirmTimeout s = exec .retryDue
          { s with recov := { s.recov with
            state := .waitRetry, confirmFrom := none, safe := safe
            episode := some { e with attempt := none, ret := none } } }) ∧
      (ret = .fuelWait → s.acct.tank = .empty →
        exec .confirmTimeout s = .next
          { s with recov := { s.recov with
            state := .fuelWait, confirmFrom := none, safe := safe
            episode := some { e with attempt := none, ref := none, ret := none } } }) ∧
      (ret = .fuelWait → s.acct.tank ≠ .empty →
        exec .confirmTimeout s = .next
          { s with recov := { s.recov with
            state := .waitRetry, confirmFrom := none, safe := safe
            episode := some { e with attempt := none, ref := some s.tenths, ret := none } } })) ∧
    (∀ e, s.recov.state = .proving → s.sup.rr.active = true → s.recov.episode = some e → e.proving = some since →
      since + 1200 ≤ s.tenths →
      exec .provingComplete s = .next { s with recov := { s.recov with state := .closed, episode := none } })

/-- Each second, every AUTOMATIC entry as old as WINDOW becomes LAPSED and nothing else of the burner, the zones, the oil and
the stores changes (R54). -/
def Obligations.OldAttemptsLapse : Prop :=
  ∀ s : State, ∃ t, exec .resetHistoryLapse s = .next t ∧
    t.recov = { s.recov with safe := { s.recov.safe with history := s.recov.safe.history.map fun h =>
      if h.kind = .automatic ∧ h.time + s.recov.set.window ≤ s.sec then { h with kind := .lapsed } else h } } ∧
    KeepsClock s t ∧ t.relay = s.relay ∧ t.zone = s.zone ∧ t.sup = s.sup ∧ KeepsOil s t ∧ KeepsStores s t ∧
    KeepsNodes s t ∧ PortsOffered s t

/-! ### The oil (chapters 4 to 6) -/

/-- 3600 s after its open time an open delivery record closes TIMEOUT with the last H0, and nothing else changes (R118). -/
def Obligations.DeliveryTimeoutClosesTheRecord : Prop :=
  ∀ (older : List DeliveryRecord) (d : DeliveryRecord) (h0 : Stage) (s : State), Settled s →
    s.acct.deliveries = older ++ [d] → d.reason = none → d.openTime + 3600 ≤ s.sec → s.acct.lastH0 = some h0 →
    exec .deliveryTimeout s = .next
      { s with acct := { s.acct with deliveries := older ++
        [{ d with stop := some h0.time, endV15 := some h0.v15, delivered := some ((h0.v15 : Int) - d.startV15)
                  reason := some .timeout }] } }

/-- The stale timer's expiry makes NONE or VALID STALE and stops the timer, keeping the published values; LEVEL_STALE is then
pending, and the tank state is as it was (R83, R84, R105). -/
def Obligations.SilentGaugeGoesStale : Prop :=
  ∀ (since : Nat) (s : State), s.level.staleFrom = some since → since + 600 ≤ s.sec →
    ∃ t, exec .staleTimerExpiry s = .next t ∧
      t.level = { s.level with
        staleFrom := none
        status := if s.level.status = .none ∨ s.level.status = .valid then .stale else s.level.status } ∧
      (pendingSet t).getLsbD 9 = true ∧ t.mgmt.events = s.mgmt.events ∧ KeepsClock s t ∧ KeepsHeat s t ∧ t.vol = s.vol ∧
      t.acct = s.acct ∧ KeepsStores s t ∧ KeepsNodes s t ∧ PortsOffered s t

/-- The gross volume at a depth is that of the first row of R93 that holds: the first point's, the last point's, or the exact
truncated interpolation between the two points around it, with BELOW and ABOVE only outside the points. V15 is the gross
volume times f, truncated, with T clamped and 15.0 °C when absent; with a COEF in range it lies between 0.93 and 1.09 of the
gross volume (R94, R96). -/
def Obligations.VolumeFollowsTableAndTemperature : Prop :=
  (∀ (first last : Point) (ps : List Point) (d : Nat), ps.head? = some first → ps.getLast? = some last → 2 ≤ ps.length →
    ps.Pairwise (fun a b => a.depth < b.depth ∧ a.vol ≤ b.vol) →
    (d ≤ first.depth → grossVolume ps d = (first.vol, if d < first.depth then .below else .none)) ∧
    (last.depth ≤ d → grossVolume ps d = (last.vol, if last.depth < d then .above else .none)) ∧
    ∀ i a b, ps[i]? = some a → ps[i + 1]? = some b → a.depth ≤ d → d < b.depth →
      grossVolume ps d = (a.vol + (d - a.depth) * (b.vol - a.vol) / (b.depth - a.depth), .none)) ∧
  ∀ (coef v : Nat) (temp : Option Int) (t term : Int), coef ≤ 2000 →
    t = (match temp with
      | none => 150
      | some x => if x < -300 then -300 else if 500 < x then 500 else x) →
    term = Int.tdiv (coef * (t - 150)) 10 →
    (volume15 coef v temp : Int) = v * (1000000 - term) / 1000000 ∧
    v * 930000 / 1000000 ≤ volume15 coef v temp ∧ volume15 coef v temp ≤ v * 1090000 / 1000000

/-- The tank state goes down at a threshold itself and up only HYST above it; from UNKNOWN the thresholds alone place it
(R104). A change to EMPTY leaves the supervisor INHIBITED or LOCKED with CALL inactive, and one from EMPTY ends INHIBITED and
FUEL_WAIT; at every change each stored demand part is evaluated again and every zone after it (R9, R38, R60, R107). -/
def Obligations.TankStateMovesWithHysteresis : Prop :=
  ∀ (v15 : Nat) (s t : State), t = evaluateTank v15 s →
    (s.acct.tank = .unknown ∨ s.acct.tank = .normal →
      t.acct.tank = if v15 ≤ s.acct.set.emptyLevel then .empty
        else if v15 ≤ s.acct.set.reserveLevel then .reserve else .normal) ∧
    (s.acct.tank = .reserve →
      t.acct.tank = if v15 ≤ s.acct.set.emptyLevel then .empty
        else if s.acct.set.reserveLevel + s.acct.set.hyst ≤ v15 then .normal else .reserve) ∧
    (s.acct.tank = .empty →
      t.acct.tank = if s.acct.set.reserveLevel + s.acct.set.hyst ≤ v15 then .normal
        else if s.acct.set.emptyLevel + s.acct.set.hyst ≤ v15 then .reserve else .empty) ∧
    (s.acct.tank ≠ .empty → t.acct.tank = .empty →
      (t.sup.state = .locked ∨ t.sup.state = .inhibited) ∧ callAsserted t = false ∧ t.zone.wanting = []) ∧
    (s.acct.tank = .empty → t.acct.tank ≠ .empty →
      (s.sup.state = .inhibited → t.sup.state ≠ .inhibited) ∧
      (s.recov.state = .fuelWait → t.recov.state = .waitRetry) ∧
      (s.recov.state ≠ .fuelWait → t.recov = s.recov)) ∧
    (t.acct.tank = s.acct.tank → t = s) ∧
    (t.acct.tank ≠ s.acct.tank → PartsRerun (fun _ => True) s t ∧
      ∀ z, z < s.zone.table.length → z < s.zone.states.length → t.zone.states[z]? = some (zoneStateOf t z)) ∧
    t.acct = { s.acct with tank := t.acct.tank } ∧ t.vol = s.vol ∧ KeepsClock s t ∧ KeepsStores s t ∧ KeepsNodes s t

/-- A period closed at a publication takes the first outcome of R113 that applies, with its drop and discrepancy; the record
joins the log of four, and two OVERDRAWs in a row raise LEAK_SUSPECT (R113 to R115). A publication opens a period when none
is open; it leaves an open one before start + PERIOD × 3600, and from then on splits the burn, closes and logs the period and
opens the next at the same publication, but after SKIPPED (R25, R108, R110, R111). -/
def Obligations.PeriodOutcomesAreDecided : Prop :=
  (∀ (set : AcctSet) (p : Period) (stop endV15 : Nat) (drop disc tol : Int) (r : PeriodRecord) (s t : State),
    drop = (p.startV15 : Int) - endV15 → disc = drop - p.burn →
    tol = ((set.tolFixed + p.burn * set.tolPct / 100 : Nat) : Int) → r = closePeriod set p stop endV15 →
    t = logPeriod r s →
    (p.start + 2 * set.period * 3600 < stop → r.outcome = .skipped ∧ r.drop = none ∧ r.discrepancy = none) ∧
    (stop ≤ p.start + 2 * set.period * 3600 →
      r.drop = some drop ∧
      (p.delivery = true → r.outcome = .delivery ∧ r.discrepancy = none) ∧
      (p.delivery = false → r.discrepancy = some disc ∧
        (tol < disc → r.outcome = .overdraw) ∧ (tol < -disc → r.outcome = .underdraw) ∧
        (disc ≤ tol → -disc ≤ tol → r.outcome = .balanced))) ∧
    r.start = p.start ∧ r.stop = stop ∧ r.startV15 = p.startV15 ∧ r.endV15 = some endV15 ∧ r.burn = p.burn ∧
    r.skip = none ∧ t.acct.periods = logAppend 4 s.acct.periods r ∧
    t.acct.leak = (match r.outcome with
      | .overdraw => if s.acct.leak = 0 then 1 else 0
      | .balanced | .underdraw => 0
      | .skipped | .delivery => s.acct.leak) ∧
    t.mgmt.events =
      (if r.outcome = .overdraw ∧ s.acct.leak ≠ 0 then s.mgmt.events ||| 0x0004 else s.mgmt.events)) ∧
  ∀ (time v15 : Nat) (opened : Period) (s t : State), t = testPeriod time v15 s →
    opened = { start := time, startV15 := v15, burn := 0, delivery := deliveryOpen s } →
    (s.acct.period = none → t = { s with acct := { s.acct with period := some opened } }) ∧
    ∀ p, s.acct.period = some p →
      (time < p.start + s.acct.set.period * 3600 → t = s) ∧
      ∀ credit residue r, p.start + s.acct.set.period * 3600 ≤ time → partialCredit s credit residue →
        r = closePeriod s.acct.set { p with burn := p.burn + credit } time v15 →
        t.acct = { s.acct with
          accum := s.acct.accum + credit, residue := residue, periods := logAppend 4 s.acct.periods r
          leak := t.acct.leak, period := if r.outcome = .skipped then none else some opened } ∧
        t.acct.leak = (logPeriod r s).acct.leak ∧ t.mgmt.events = (logPeriod r s).mgmt.events ∧
        t.sup = { s.sup with rr := { s.sup.rr with
          start := if s.sup.rr.active then s.tenths else s.sup.rr.start } } ∧
        KeepsClock s t ∧ t.relay = s.relay ∧ t.zone = s.zone ∧ t.recov = s.recov ∧ t.sched = s.sched ∧
        t.level = s.level ∧ t.vol = s.vol ∧ t.nv = s.nv ∧ PortsOffered s t

/-- A publication tests an open delivery record for settling: a rise of less than 50 dL from H1 to H0 adds one to its settle
count, a larger one sets it to 0, and at 2 the record closes SETTLED with H0 as its end (R118). With no delivery open, a full
chain whose H3 is not before the last record's end and whose rise is DELIV_MIN or more opens a delivery record, raises
DELIVERY and marks the open period; with a stage absent, an H3 before that end or a smaller rise nothing opens (R116, R117).
The opening grants a clear in HARD_LOCK when a lockout record of the open episode shows RESERVE or EMPTY, and in every other
case leaves the recovery unit as it is (R63). That it forgives restored entries of the open episode's number as well is the
model's choice (log 27). -/
def Obligations.ChainRiseOpensADelivery : Prop :=
  (∀ (h0 h1 : Stage) (rest : List Stage) (time settle : Nat) (older : List DeliveryRecord) (d d' : DeliveryRecord) (s : State),
    s.acct.deliveries = older ++ [d] → d.reason = none →
    settle = (if (h0.v15 : Int) - h1.v15 < 50 then d.settle + 1 else 0) →
    d' = (if settle < 2 then { d with settle := settle }
      else { d with
        settle := settle, stop := some h0.time, endV15 := some h0.v15
        delivered := some ((h0.v15 : Int) - d.startV15), reason := some .settled }) →
    testDelivery (h0 :: h1 :: rest) time s = { s with acct := { s.acct with deliveries := older ++ [d'] } }) ∧
  (∀ (chain : List Stage) (time : Nat) (s : State), deliveryOpen s = false → chain.length < 4 →
    testDelivery chain time s = s) ∧
  ∀ (h0 h1 h2 h3 : Stage) (time number : Nat) (s t : State), deliveryOpen s = false →
    t = testDelivery [h0, h1, h2, h3] time s → number = (s.recov.episode.map (·.number)).getD 0 →
    ((∀ d stop, s.acct.deliveries.getLast? = some d → d.stop = some stop → stop ≤ h3.time) →
      (s.acct.set.delivMin : Int) ≤ (h0.v15 : Int) - h3.v15 →
      t.acct.deliveries = logAppend 8 s.acct.deliveries
        { start := h3.time, startV15 := h3.v15, openTime := time, settle := 0, stop := none, endV15 := none,
          delivered := none, reason := none } ∧
      t.acct.period = s.acct.period.map (fun p => { p with delivery := true }) ∧
      t.mgmt.events = s.mgmt.events ||| 0x0002 ∧
      (s.recov.state ≠ .hardLock ∨
          (∀ r ∈ s.recov.log, r.episode = number → r.tank ≠ .reserve ∧ r.tank ≠ .empty) →
        t.recov = s.recov ∧ t.nv = s.nv ∧ t.sup = s.sup) ∧
      (∀ e, s.recov.state = .hardLock → s.recov.episode = some e →
        (∃ r ∈ s.recov.log, r.episode = number ∧ (r.tank = .reserve ∨ r.tank = .empty)) →
        t.recov.safe = { s.recov.safe with
          flag := false
          history := s.recov.safe.history.map fun h =>
            if h.kind = .automatic ∧ h.episode = e.number then { h with kind := .forgiven } else h } ∧
        (t.nv.waiting = true ∨ t.nv.writing = some t.recov.safe) ∧ t.recov.log = s.recov.log ∧
        ∃ e', t.recov.episode = some e' ∧ e'.number = e.number ∧ e'.cause = e.cause ∧
          (s.sup.lockout.value = true →
            t.recov.state = .waitRetry ∧ e'.k = 1 ∧ e'.ref = some s.tenths ∧ t.sup = s.sup) ∧
          (s.sup.lockout.value = false → t.recov.state = .proving ∧ e'.ref = none ∧ t.sup.state ≠ .locked)) ∧
      KeepsClock s t ∧ t.relay = s.relay ∧ t.zone = s.zone ∧ t.vol = s.vol ∧ KeepsNodes s t ∧ PortsOffered s t) ∧
    ((∃ d stop, s.acct.deliveries.getLast? = some d ∧ d.stop = some stop ∧ h3.time < stop) ∨
      (h0.v15 : Int) - h3.v15 < s.acct.set.delivMin → t = s)

/-- An accepted sample joins the partial box. The sample that completes it makes the box's mean depth the spike reference.
Under ORDER 1 the box is the output; under ORDER 2 it becomes the previous box, and the output is its mean with the one
before it, if there is one. With no hold cause the output is published: the level record takes it and the status is VALID,
with which LEVEL_STALE is no longer pending; the volume unit replaces its record and shifts its chain, and the accounting
unit then takes H0 as its last H0, evaluates the tank state, tests the delivery and then the period, in this order. Under a
hold cause the output is counted HELD and the record stays (R73, R75, R76, R80, R98, R103). A SAMPLE that answers a poll on P
restarts the stale timer and is screened by its length, its quality and its distance from the spike reference before it joins
(R69 to R71, R73, R74, R83, R163). -/
def Obligations.CompletedBoxIsPublished : Prop :=
  (∀ (depth : Nat) (temp : Option Int) (b : PartialBox) (done : Box) (out : Option Box) (prev : Option Box) (s t : State),
    t = acceptSample depth temp s →
    b = { depthSum := s.level.box.depthSum + depth, tempSum := s.level.box.tempSum + temp.getD 0,
          count := s.level.box.count + 1, mark := s.level.box.mark || temp.isNone } →
    done = { depth := b.depthSum / s.level.set.windowN
             temp := if b.mark then none else some (b.tempSum.fdiv s.level.set.windowN) } →
    (s.level.set.order = 1 ∧ out = some done ∧ prev = s.level.prev) ∨
      (s.level.set.order ≠ 1 ∧ prev = some done ∧ out = s.level.prev.map fun a =>
        { depth := (a.depth + done.depth) / 2
          temp := match a.temp, done.temp with
            | some x, some y => some ((x + y).fdiv 2)
            | _, _ => none }) →
    (b.count < s.level.set.windowN → t = { s with level := { s.level with spikeRun := 0, box := b } }) ∧
    (s.level.set.windowN ≤ b.count →
      t.level.ref = some done.depth ∧ t.level.box = {} ∧ t.level.spikeRun = 0 ∧ t.level.prev = prev ∧
      (out = none →
        t = { s with level := { s.level with spikeRun := 0, box := {}, ref := some done.depth, prev := prev } }) ∧
      (∀ o, out = some o → holdStands s.level = true →
        t = { s with level := { s.level with
          spikeRun := 0, box := {}, ref := some done.depth, prev := prev
          ctr := { s.level.ctr with held := bump s.level.ctr.held } } }) ∧
      (∀ o, out = some o → holdStands s.level = false →
        t.level.depth = some o.depth ∧ t.level.temp = o.temp ∧ t.level.time = s.sec ∧ t.level.status = .valid ∧
        t.level.ctr = { s.level.ctr with published := bump s.level.ctr.published } ∧
        t.vol.record = some (computeRecord s.vol o.depth o.temp s.sec) ∧
        t.vol.chain =
          ({ v15 := (computeRecord s.vol o.depth o.temp s.sec).v15, time := s.sec } :: s.vol.chain).take 4 ∧
        ∀ (r : VolRecord) (chain : List Stage) (level : Level) (u : State),
          r = computeRecord s.vol o.depth o.temp s.sec →
          chain = ({ v15 := r.v15, time := s.sec } :: s.vol.chain).take 4 →
          level = { s.level with
            spikeRun := 0, box := {}, ref := some done.depth, prev := prev, depth := some o.depth, temp := o.temp
            time := s.sec, status := .valid
            ctr := { s.level.ctr with published := bump s.level.ctr.published } } →
          u = settleNotices { s with level := level } →
          t = testPeriod s.sec r.v15 (testDelivery chain s.sec (evaluateTank r.v15
            { u with
              vol := { s.vol with record := some r, chain := chain }
              acct := { s.acct with lastH0 := some { v15 := r.v15, time := s.sec } } }))))) ∧
  ∀ (start w slot raw depth measured : Nat) (x y : Int) (quality : Byte) (given : List Byte) (temp : Option Int)
      (tel : Telegram) (exch : Exchange) (e : PollEntry) (fresh : Level) (s : State),
    s.portP.asm = some { hasBuffer := true, start := start } → s.portP.phase ≠ .sending → WellSent tel → tel.dest = 0 →
    tel.kind = 0x21 → s.sched.exch = some exch → exch.kind.slot? = some slot → exch.window = some w →
    tel.src = exch.node → slotGet s.sched.slots slot = some e → e.role = .gauge →
    ∃ t e', exec (.rxTelegramEnd .p (received tel)) s = .next t ∧ ExchangeOver s t ∧
      t.sched.ctr.answered = bump s.sched.ctr.answered ∧ t.sched.ctr.stray = s.sched.ctr.stray ∧
      slotGet t.sched.slots slot = some e' ∧ nodeSeen e' = (e.addr, e.interval, true, 0, s.sec, none) ∧
      (tel.payload.length ≠ 3 ∧ tel.payload.length ≠ 5 ∨ (∃ q rest, tel.payload = q :: rest ∧ 3 ≤ q.toNat) →
        t.level = { s.level with ctr := { s.level.ctr with badSample := bump s.level.ctr.badSample } }) ∧
      (raw < 65536 → -32768 ≤ y → y < 32768 → given = [] ∨ given = beSigned 2 y →
        tel.payload = [quality] ++ beBytes 2 raw ++ given →
        temp = (if given = [] then none else some (min 500 (max (-300) y))) →
        measured = min ((raw - s.level.set.zero) * s.level.set.gain / 4096) 65535 →
        depth = (if s.level.set.sense = .head then measured else s.level.set.tankHeight - measured) →
        x = (depth : Int) - s.level.ref.getD 0 →
        fresh = { s.level with
          staleFrom := some s.sec, faultRun := 0
          ctr := { s.level.ctr with
            range := if quality = 1 then bump s.level.ctr.range else s.level.ctr.range } } →
        (quality = 2 → s.level.faultRun < 5 →
          t.level = { s.level with
            staleFrom := some s.sec, faultRun := s.level.faultRun + 1
            ctr := { s.level.ctr with sensorFault := bump s.level.ctr.sensorFault } }) ∧
        (quality = 2 → 5 ≤ s.level.faultRun →
          t.level = { s.level with
            staleFrom := some s.sec, faultRun := 6, status := .fault, box := {}
            prev := none, ref := none, spikeRun := 0, burnerStart := t.level.burnerStart
            ctr := { s.level.ctr with sensorFault := bump s.level.ctr.sensorFault } } ∧
          t.acct.tank = .unknown) ∧
        (quality = 0 ∨ quality = 1 →
          (s.level.set.slew = 0 ∨ s.level.ref = none ∨ (-(s.level.set.slew : Int) ≤ x ∧ x ≤ s.level.set.slew) →
            (s.level.box.count + 1 < s.level.set.windowN →
              t.level = { fresh with
                spikeRun := 0
                box := { depthSum := s.level.box.depthSum + depth, tempSum := s.level.box.tempSum + temp.getD 0,
                         count := s.level.box.count + 1, mark := s.level.box.mark || temp.isNone } }) ∧
            (s.level.set.windowN ≤ s.level.box.count + 1 →
              t.level.ref = some ((s.level.box.depthSum + depth) / s.level.set.windowN) ∧ t.level.box = {} ∧
              t.level.spikeRun = 0 ∧ t.level.faultRun = 0 ∧ t.level.staleFrom = fresh.staleFrom ∧
              ∀ (done : Box) (r : VolRecord), s.level.set.order = 1 → holdStands s.level = false →
                done.depth = (s.level.box.depthSum + depth) / s.level.set.windowN →
                done.temp = (if s.level.box.mark = true ∨ temp = none then none
                  else some ((s.level.box.tempSum + temp.getD 0).fdiv s.level.set.windowN)) →
                r = computeRecord s.vol done.depth done.temp s.sec →
                t.level.depth = some done.depth ∧ t.level.temp = done.temp ∧ t.level.time = s.sec ∧
                t.level.status = .valid ∧ t.vol.record = some r ∧
                t.vol.chain = ({ v15 := r.v15, time := s.sec } :: s.vol.chain).take 4 ∧
                t.acct.lastH0 = some { v15 := r.v15, time := s.sec } ∧
                t.acct.tank = (evaluateTank r.v15 s).acct.tank)) ∧
          (s.level.set.slew ≠ 0 → s.level.ref ≠ none → x < -(s.level.set.slew : Int) ∨ (s.level.set.slew : Int) < x →
            (s.level.spikeRun < 7 →
              t.level = { fresh with
                spikeRun := s.level.spikeRun + 1, ctr := { fresh.ctr with spike := bump fresh.ctr.spike } }) ∧
            (7 ≤ s.level.spikeRun → 1 < s.level.set.windowN →
              t.level = { fresh with
                spikeRun := 0, prev := none, ref := none
                box := { depthSum := depth, tempSum := temp.getD 0, count := 1, mark := temp.isNone }
                ctr := { fresh.ctr with stepRestart := bump fresh.ctr.stepRestart } })))) ∧
      KeepsClock s t ∧ t.relay.set = s.relay.set ∧ t.zone.enrol = s.zone.enrol ∧
      t.zone.table = s.zone.table ∧ t.portP.asm = none ∧ t.portP.ctr.rxGood = bump s.portP.ctr.rxGood

/-! ### Ports, telegrams and the pool (chapter 7) -/

/-- A telegram of up to 16 payload bytes is read back from its characters as it was sent, and with CHECK computed it is
received without an error, with or without a buffer to store it in but for NO_BUFFER (R121, R122, R123, R127). -/
def Obligations.TelegramsDecodeAsTheyWereSent : Prop :=
  ∀ t : Telegram, t.payload.length ≤ 16 →
    parseTel t.wire = t ∧ t.wire.length = t.payload.length + 6 ∧
    (t.check = checkOf t.body →
      errorsOf true (received t) =
        { parity := false, framing := false, noBuffer := false, length := false, check := false } ∧
      errorsOf false (received t) =
        { parity := false, framing := false, noBuffer := true, length := false, check := false }) ∧
    (t.check ≠ checkOf t.body →
      errorsOf true (received t) =
        { parity := false, framing := false, noBuffer := false, length := false, check := true })

/-- CHECK starts from FFFF hex; each byte is added without carry into the high eight bits, and eight shifts follow, each adding
1021 hex when the bit shifted out was 1. The transmitter computes it over DEST, SRC, KIND, LEN and the payload; the receiver
finds a CHECK error exactly where what it received differs; over every character of a telegram that is received without error
the same computation leaves 0 (R123). -/
def Obligations.CheckIsComputedByByte : Prop :=
  checkOf [] = 0xFFFF ∧
  (∀ (bs : List Byte) (b : Byte), checkOf (bs ++ [b]) =
    (fun v : Word16 => (v <<< 1) ^^^ (if v.msb then 0x1021 else 0))^[8] (checkOf bs ^^^ (b.zeroExtend 16 <<< 8))) ∧
  (∀ (dest kind : Byte) (payload : List Byte), (composeTel dest kind payload).check =
    checkOf (dest :: 0 :: kind :: BitVec.ofNat 8 payload.length :: payload)) ∧
  (∀ t : Telegram, t.payload.length ≤ 16 →
    (badCheck (received t) = true ↔
      t.check ≠ checkOf (t.dest :: t.src :: t.kind :: BitVec.ofNat 8 t.payload.length :: t.payload))) ∧
  ∀ chars : List RxChar, (errorsOf true chars).isEmpty = true → checkOf (chars.map (·.data)) = 0

/-- The first character of a telegram, once the line has been idle for 8 ms, begins an assembly that has a buffer if the pool
grants one: P takes any free buffer, H and Y only while more than 2 are free. Where taking it crosses no threshold of the pool
nothing else changes; where it puts the pool in HELD, the ports are at most offered the hold-offs (R122, R126, R137 to R139).
In BREAK, while the port sends or assembles, and before 8 ms of idle line, no assembly begins. What the line and armed show,
before and after, and that an idle time seen before the characters counts until the next reset, telegram or transmission, is
the model's tracking of the line (log 15); that an event whose cause does not hold changes nothing is the model's as well (log
2). -/
def Obligations.FirstCharacterAsksForABuffer : Prop :=
  (∀ (port : Port) (granted : Bool) (took : PortState) (s : State), Settled s → MayListen (s.port port) s.now →
    granted = (if port = .p then decide (0 < s.pool.free) else decide (2 < s.pool.free)) →
    took = { s.port port with
      asm := some { hasBuffer := granted, start := s.now }, armed := false
      line := match (s.port port).line with
        | .idle _ => .busy s.now
        | .active since | .busy since => .busy since } →
    ∃ t, exec (.rxFirstCharacter port) s = .next t ∧ OnlyPortsChange s t ∧ PortOffered took (t.port port) ∧
      (t.port port).asm = some { hasBuffer := granted, start := s.now } ∧
      (∀ since, (s.port port).line = .idle since → (t.port port).line = .busy s.now) ∧
      (∀ since, (s.port port).line = .active since ∨ (s.port port).line = .busy since →
        (t.port port).line = .busy since) ∧
      (t.port port).armed = false ∧ (t.port port).mode = .active ∧ (t.port port).phase = (s.port port).phase ∧
      (∀ other, other ≠ port → PortOffered (s.port other) (t.port other)) ∧
      (granted = false → t = s.setPort port took) ∧
      (granted = true → s.pool.held = true ∨ 7 < s.pool.free →
        t = ({ s with pool := { s.pool with free := s.pool.free - 1 } } : State).setPort port took) ∧
      (granted = true → s.pool.held = false → s.pool.free ≤ 7 →
        t.pool.held = true ∧ t.pool.holdEntry = bump s.pool.holdEntry ∧ t.pool.repeatFrom = some s.now)) ∧
  ∀ (port : Port) (s : State),
    (s.port port).mode = .broken ∨ (s.port port).asm ≠ none ∨ (s.port port).phase = .sending ∨
      ((s.port port).armed = false ∧ ∀ since, (s.port port).line = .idle since → s.now < since + 80) →
    exec (.rxFirstCharacter port) s = .next s

/-- A telegram with an error is counted once for each kind of error in it and discarded; so is one without an error whose SRC
or DEST R128 does not accept, which counts BAD_ADDRESS and no RX_GOOD. Its buffer returns, nothing is learned or delivered,
and nothing else changes: where the return makes the pool OPEN the ports are at most offered the hold-offs, and otherwise the
whole state is given (R126 to R128, R138, R139). What the line and armed show after a telegram is the model's tracking of the
line (log 15). -/
def Obligations.ErroneousTelegramIsOnlyCounted : Prop :=
  (∀ (port : Port) (a : Assembly) (chars : List RxChar) (bad length check : Bool) (q : PortState) (s : State), Settled s →
    (s.port port).asm = some a → (s.port port).phase ≠ .sending →
    length = (a.hasBuffer && badLength chars) → check = (a.hasBuffer && !badLength chars && badCheck chars) →
    bad = (chars.any (fun c => c.parity != parityOf c.data) || chars.any (fun c => !c.stop) || !a.hasBuffer || length ||
      check) →
    bad = true →
    q = { ended s.now (s.port port) with ctr := { (s.port port).ctr with
      parity := if chars.any (fun c => c.parity != parityOf c.data) then bump (s.port port).ctr.parity
        else (s.port port).ctr.parity
      framing := if chars.any (fun c => !c.stop) then bump (s.port port).ctr.framing else (s.port port).ctr.framing
      noBuffer := if a.hasBuffer then (s.port port).ctr.noBuffer else bump (s.port port).ctr.noBuffer
      length := if length then bump (s.port port).ctr.length else (s.port port).ctr.length
      check := if check then bump (s.port port).ctr.check else (s.port port).ctr.check } } →
    ∃ t, exec (.rxTelegramEnd port chars) s = .next t ∧ OnlyPortsChange s t ∧ PortOffered q (t.port port) ∧
      (∀ other, other ≠ port → PortOffered (s.port other) (t.port other)) ∧
      (a.hasBuffer = false → t = s.setPort port q) ∧
      (a.hasBuffer = true → s.pool.held = false ∨ s.pool.free < 13 →
        t = ({ s with pool := { s.pool with free := s.pool.free + 1 } } : State).setPort port q)) ∧
  ∀ (port : Port) (start : Nat) (tel : Telegram) (q : PortState) (s : State), Settled s →
    (s.port port).asm = some { hasBuffer := true, start := start } → (s.port port).phase ≠ .sending →
    tel.payload.length ≤ 16 → tel.check = checkOf tel.body →
    tel.src.toNat = 0 ∨ 127 ≤ tel.src.toNat ∨ 127 < tel.dest.toNat →
    q = { ended s.now (s.port port) with
      ctr := { (s.port port).ctr with badAddress := bump (s.port port).ctr.badAddress } } →
    ∃ t, exec (.rxTelegramEnd port (received tel)) s = .next t ∧ OnlyPortsChange s t ∧ PortOffered q (t.port port) ∧
      (∀ other, other ≠ port → PortOffered (s.port other) (t.port other)) ∧
      (s.pool.held = false ∨ s.pool.free < 13 →
        t = ({ s with pool := { s.pool with free := s.pool.free + 1 } } : State).setPort port q)

/-- A line that may have been active for 100 ms puts the port in BREAK, and not before: its assembly and queue are gone, each
queued telegram is FLUSHED and every buffer returned, BREAK is counted and SEGMENT_BREAK is pending. For P the exchange ends
and every valve reports UNKNOWN; for H and Y the plant and the burner stay as they are (R129, R168). That a line which carries
characters may have been active since it began to carry them is the model's (log 15). -/
def Obligations.BreakFlushesThePort : Prop :=
  ∀ (port : Port) (since : Nat) (s : State), (s.port port).mode = .active →
    (s.port port).line = .active since ∨ (s.port port).line = .busy since →
    (s.now < since + 1000 → exec (.breakEntry port) s = .next s) ∧
    (since + 1000 ≤ s.now →
    ∃ t, exec (.breakEntry port) s = .next t ∧ (t.port port).mode = .broken ∧ (t.port port).queue = [] ∧
      (t.port port).asm = none ∧ (t.port port).phase = .wait ∧ (t.port port).attempts = 0 ∧
      (∃ from_, (t.port port).line = .active from_ ∧ from_ + 1000 ≤ s.now) ∧
      (t.port port).ctr.breaks = bump (s.port port).ctr.breaks ∧ (pendingSet t).getLsbD 10 = true ∧
      t.mgmt.events = s.mgmt.events ∧
      (Settled s → s.mgmt.line = true → s.pool.held = false →
        (t.port port).ctr = { (s.port port).ctr with
          breaks := bump (s.port port).ctr.breaks
          flushed := min ((s.port port).ctr.flushed + (s.port port).queue.length) 65535 } ∧
        t.pool = { s.pool with free := s.pool.free + portBuffers (s.port port) }) ∧
      (∀ other, other ≠ port → PortOffered (s.port other) (t.port other)) ∧
      KeepsClock s t ∧ t.relay = s.relay ∧ t.zone = s.zone ∧ t.recov = s.recov ∧ t.vol = s.vol ∧ t.acct = s.acct ∧
      t.nv = s.nv ∧
      (port ≠ .p → t.sup = s.sup ∧ t.level = s.level ∧ KeepsNodes s t) ∧
      (port = .p →
        t.sched.exch = none ∧ t.sched.relayList = s.sched.relayList ∧
        (∀ slot r, recordOf t slot = some r → r.reported = .unknown) ∧
        t.sched.slots.map (Option.map fun e => (e.addr, e.interval, e.present, e.misses, e.lastAnswer)) =
          s.sched.slots.map (Option.map fun e => (e.addr, e.interval, e.present, e.misses, e.lastAnswer))))

/-- After 1 s of idle line the port is ACTIVE again, and SEGMENT_BREAK ends with the last break. When P returns, every valve
command is pending and every entry is due (R130, R168). -/
def Obligations.IdleLineEndsTheBreak : Prop :=
  ∀ (port : Port) (since : Nat) (s : State), (s.port port).mode = .broken → (s.port port).line = .idle since →
    since + 10000 ≤ s.now →
    ∃ t, exec (.breakExit port) s = .next t ∧ (t.port port).mode = .active ∧ (t.port port).armed = true ∧
      (t.port port).asm = (s.port port).asm ∧ (t.port port).ctr.breaks = (s.port port).ctr.breaks ∧
      (segmentBreakCond t = true ↔ ∃ other, other ≠ port ∧ (s.port other).mode = .broken) ∧
      (∀ other, other ≠ port → PortOffered (s.port other) (t.port other)) ∧
      KeepsClock s t ∧ KeepsHeat s t ∧ KeepsOil s t ∧ KeepsStores s t ∧ KeepsNodes s t ∧
      (port = .p → ∀ slot e, slotGet t.sched.slots slot = some e →
        e.due = s.tenths ∧ ∀ r, e.valve? = some r → r.pending = true)

/-- A head that waits for a quiet line is sent once the line has been idle for 10 ms; the ends of a backoff and of P's retry
pause return the head to that wait; a change of the line restarts its times (R130, R132, R134, R136). Nothing else changes.
That a line idle for 8 ms before a change to active leaves the receiver ready (armed) is the model's choice for R122 and R126
(log 15). -/
def Obligations.LineEventsMoveTheHead : Prop :=
  ∀ (port : Port) (r : Room) (since : Nat) (s : State), Settled s →
    ((s.port port).mode = .active → (s.port port).queue ≠ [] → (s.port port).phase = .wait → (s.port port).asm = none →
      (s.port port).line = .idle since → since + 100 ≤ s.now →
      exec (.quietWaitMet port) s = .next
        (s.setPort port { s.port port with phase := .sending, line := .busy s.now, armed := false })) ∧
    ((s.port (roomPort r)).phase = .backoff since → since ≤ s.now →
      exec (.backoffEnd r) s = .next (s.setPort (roomPort r) { s.port (roomPort r) with phase := .wait })) ∧
    (s.portP.phase = .pause since → since ≤ s.now →
      exec .pRetryPauseEnd s = .next { s with portP := { s.portP with phase := .wait } }) ∧
    ((s.port port).phase ≠ .sending → (s.port port).asm = none → (s.port port).line = .idle since →
      exec (.segmentLineChange port true) s = .next
        (s.setPort port { s.port port with
          line := .active s.now
          armed := (s.port port).armed || (decide ((s.port port).mode = .active) && decide (since + 80 ≤ s.now)) })) ∧
    ((s.port port).phase ≠ .sending → (s.port port).asm = none → (∀ m, (s.port port).line ≠ .idle m) →
      exec (.segmentLineChange port false) s = .next (s.setPort port { s.port port with line := .idle s.now }))

/-- An early collision counts COLLISION and raises the head's attempt count k: below 8 the head stays and backs off for a
free number of 10 ms slots below 2^min(k, 5), none meaning the quiet wait; at 8 it is dropped and EXCESS_COLLISION counted. A
late collision drops it at once. The assembly takes over the telegram on the line (R126, R133 to R135; log 6). That it asks
for its buffer before a dropped head returns one is the model's choice (log 17). -/
def Obligations.CollisionsBackOffOrDrop : Prop :=
  ∀ (r : Room) (ch k : Nat) (q : PortState) (s : State), Settled s → q = s.port (roomPort r) → q.phase = .sending →
    k = q.attempts + 1 →
    (1 ≤ ch → ch ≤ 4 → ∃ t its, exec (.earlyCollision r ch) s = .next t ∧
      (t.port (roomPort r)).asm = some { hasBuffer := decide (2 < s.pool.free), start := s.now } ∧
      (t.port (roomPort r)).ctr.collision = bump q.ctr.collision ∧
      (k < 8 → ∃ slots, slots < 2 ^ min k 5 ∧ (t.port (roomPort r)).attempts = k ∧
        (t.port (roomPort r)).queue = q.queue ++ its ∧
        (t.port (roomPort r)).phase = (if slots = 0 then .wait else .backoff (s.now + slots * 100)) ∧
        t.freeIdx = s.freeIdx + 1) ∧
      (8 ≤ k → (t.port (roomPort r)).attempts = 0 ∧ (t.port (roomPort r)).phase = .wait ∧
        (q.queue ≠ [] → (t.port (roomPort r)).queue = q.queue.drop 1 ++ its) ∧
        (t.port (roomPort r)).ctr.excessCollision = bump q.ctr.excessCollision) ∧
      t.now = s.now ∧ t.pending = s.pending ∧ KeepsHeat s t ∧ KeepsOil s t ∧ t.sched = s.sched ∧ t.mgmt = s.mgmt ∧
      t.nv = s.nv) ∧
    (5 ≤ ch → ∃ t its, exec (.lateCollision r ch) s = .next t ∧ OnlyPortsChange s t ∧
      (t.port (roomPort r)).asm = some { hasBuffer := decide (2 < s.pool.free), start := s.now } ∧
      (t.port (roomPort r)).attempts = 0 ∧ (t.port (roomPort r)).phase = .wait ∧
      (q.queue ≠ [] → (t.port (roomPort r)).queue = q.queue.drop 1 ++ its) ∧
      (t.port (roomPort r)).ctr.lateCollision = bump q.ctr.lateCollision ∧
      (t.port (roomPort r)).ctr.collision = q.ctr.collision)

/-- On P the first mismatch leaves the head for a second attempt after 10 ms; the second drops it, counts TX_FAIL, and ends the
exchange whose request it was without a miss. A mismatch is no COLLISION (R136, R160). -/
def Obligations.PlantMismatchRetriesOnce : Prop :=
  ∀ s : State, Settled s → s.portP.phase = .sending →
    (s.portP.attempts = 0 → ∃ t its, exec .pTxMismatch s = .next t ∧ OnlyPortsChange s t ∧ t.portP.attempts = 1 ∧
      t.portP.phase = .pause (s.now + 100) ∧ t.portP.queue = s.portP.queue ++ its ∧
      t.portP.asm = some { hasBuffer := decide (0 < s.pool.free), start := s.now } ∧
      t.portP.ctr.collision = s.portP.ctr.collision ∧ t.portP.ctr.txFail = s.portP.ctr.txFail) ∧
    (s.portP.attempts ≠ 0 → s.portP.queue ≠ [] → ∃ t its, exec .pTxMismatch s = .next t ∧
      t.portP.attempts = 0 ∧ t.portP.phase = .wait ∧ t.portP.queue = s.portP.queue.drop 1 ++ its ∧
      t.portP.ctr.txFail = bump s.portP.ctr.txFail ∧ t.portP.ctr.collision = s.portP.ctr.collision ∧
      t.sched.ctr.miss = s.sched.ctr.miss ∧ t.sched.ctr.retry = s.sched.ctr.retry ∧ KeepsClock s t ∧ KeepsHeat s t ∧
      KeepsOil s t ∧ t.mgmt = s.mgmt ∧ t.nv = s.nv ∧ KeepsNodes s t ∧
      (headIsRequest s.portP = true →
        ∀ x, t.sched.exch = some x → x.start = s.tenths ∧ x.attempt = 1 ∧ x.window = none) ∧
      (headIsRequest s.portP = false → t.sched = s.sched))

/-- A head sent to its last stop bit is counted TX_SENT and leaves the queue; on P the end of an exchange's request opens its
response window (R135, R136, R160). -/
def Obligations.SentTelegramLeavesTheQueue : Prop :=
  ∀ (port : Port) (q : PortState) (s : State), Settled s → q = s.port port → q.phase = .sending → q.queue ≠ [] →
    ∃ t its, exec (.txSent port) s = .next t ∧ (t.port port).queue = q.queue.drop 1 ++ its ∧
      (t.port port).phase = .wait ∧ (t.port port).attempts = 0 ∧ (t.port port).line = .idle s.now ∧
      (t.port port).ctr.txSent = bump q.ctr.txSent ∧ (t.port port).mode = q.mode ∧ (t.port port).asm = q.asm ∧
      (headIsRequest q = true →
        t.sched = { s.sched with exch := s.sched.exch.map fun x => { x with window := some s.now } }) ∧
      (headIsRequest q = false → t.sched = s.sched) ∧
      (s.pool.held = false ∨ s.pool.free < 13 → t.pool = { s.pool with free := s.pool.free + 1 } ∧ its = []) ∧
      KeepsClock s t ∧ KeepsHeat s t ∧ KeepsOil s t ∧ t.mgmt = s.mgmt ∧ t.nv = s.nv

/-- The pool falls to 6 free buffers and is HELD: HOLD_ENTRY is counted and HOLD_OFF(30) broadcast on H and Y, which leaves 4
free; it rises to 14 and is OPEN: HOLD_OFF(0) is broadcast, which leaves 12. While HELD the broadcasts are repeated every
20 s (R138, R139). -/
def Obligations.PoolHoldsOffTheRooms : Prop :=
  ∀ (s : State) (room : PortState → Prop) (add : Nat → PortState → PortState),
    (∀ q, room q ↔ q.mode = .active ∧ q.queue.length < queueCap) →
    (∀ n q, add n q = { q with queue := q.queue ++ [{ tel := composeTel 127 0x30 [BitVec.ofNat 8 n], mark := .plain }] }) →
    room s.portH → room s.portY →
    (s.pool.held = false → s.pool.free = 7 →
      takeBuffer s =
        { s with
          pool := { s.pool with free := 4, held := true, holdEntry := bump s.pool.holdEntry, repeatFrom := some s.now }
          portH := add 30 s.portH, portY := add 30 s.portY }) ∧
    (s.pool.held = true → s.pool.free = 13 →
      returnBuffer s =
        { s with
          pool := { s.pool with free := 12, held := false, repeatFrom := none }
          portH := add 0 s.portH, portY := add 0 s.portY }) ∧
    (∀ since, Settled s → s.pool.held = true → s.pool.repeatFrom = some since → since + 200000 ≤ s.now →
      2 ≤ s.pool.free →
      exec .holdOffRepeat s = .next
        { s with
          pool := { s.pool with free := s.pool.free - 2, repeatFrom := some s.now }
          portH := add 30 s.portH, portY := add 30 s.portY })


/-! ### The relay unit (chapter 8) -/

/-- A telegram that H or Y delivers is learned from before it is resolved: a known source is refreshed or migrates, an
unknown one takes an empty slot, or in a full table the slot of the entry without a demand part that was heard longest ago,
the lowest address among equals. Here it is of a kind that only the BX40 sends, or for the BX40 and of no kind that it takes,
so that it is then discarded as FOREIGN_KIND or UNKNOWN_KIND, and its buffer returns (R143 to R145, R148, R151, R154). A
telegram beyond its source's storm limit, of any kind, is discarded unresolved, and the first of the interval has
HOLD_OFF(60) sent to its source (R148, R149). -/
def Obligations.LearningComesFirst : Prop :=
  (∀ (room : Room) (start addr : Nat) (t : Telegram) (own : Prop) (cast : RelayCounters → RelayCounters) (s : State),
    Settled s → (s.port (roomPort room)).asm = some { hasBuffer := true, start := start } →
    (s.port (roomPort room)).phase ≠ .sending → WellSent t → addr = t.src.toNat →
    (own ↔ t.kind = 0x12 ∨ t.kind = 0x20 ∨ t.kind = 0x22 ∨ t.kind = 0x30 ∨ t.kind = 0x31) →
    (own ∧ ∀ c, cast c = { c with foreignKind := bump c.foreignKind }) ∨
      (¬ own ∧ t.dest = 0 ∧ t.kind ≠ 0x11 ∧ t.kind ≠ 0x40 ∧ ∀ c, cast c = { c with unknownKind := bump c.unknownKind }) →
    0 < s.relay.set.nodeCap →
    (∀ n, nodeOf s addr = some n → n.storm < s.relay.set.nodeCap) →
    (nodeOf s addr = none → (∃ i : Nat, s.relay.nodes[i]? = some none) ∨ ∃ n, some n ∈ s.relay.nodes ∧ n.part = none) →
    ∃ u, exec (.rxTelegramEnd (roomPort room) (received t)) s = .next u ∧
      (∀ n, nodeOf s addr = some n → n.seg = room →
        nodeOf u addr = some { n with heard := s.sec, storm := bump8 n.storm } ∧
        u.relay.ctr = cast s.relay.ctr ∧ u.zone = s.zone ∧
        u.sup = s.sup ∧ u.sched = s.sched ∧ u.level = s.level ∧ u.mgmt = s.mgmt ∧
        (s.pool.held = false ∨ s.pool.free < 13 →
          u.pool = { s.pool with free := s.pool.free + 1 } ∧
          ∀ port, u.port port = if port = roomPort room then
            { ended s.now (s.port port) with
              ctr := { (s.port port).ctr with rxGood := bump (s.port port).ctr.rxGood } } else s.port port)) ∧
      (∀ n, nodeOf s addr = some n → n.seg ≠ room →
        nodeOf u addr = some { n with seg := room, heard := s.sec, storm := bump8 n.storm } ∧
        u.relay.ctr = cast { s.relay.ctr with migrated := bump s.relay.ctr.migrated }) ∧
      (nodeOf s addr = none →
        nodeOf u addr = some
          { addr := addr, seg := room, heard := s.sec, storm := 1, holdOffSent := false, part := none }) ∧
      (nodeOf s addr = none → (∃ i : Nat, s.relay.nodes[i]? = some none) →
        u.relay.ctr = cast { s.relay.ctr with learned := bump s.relay.ctr.learned }) ∧
      (nodeOf s addr ≠ none ∨ (∃ i : Nat, s.relay.nodes[i]? = some none) →
        ∀ other, other ≠ addr → nodeOf u other = nodeOf s other) ∧
      (∀ i e, nodeOf s addr = none → (∀ j : Nat, s.relay.nodes[j]? ≠ some none) → slotGet s.relay.nodes i = some e →
        e.part = none →
        (∀ j n, j ≠ i → slotGet s.relay.nodes j = some n → n.addr ≠ e.addr ∧
          (n.part = none → e.heard < n.heard ∨ (e.heard = n.heard ∧ e.addr < n.addr))) →
        nodeOf u e.addr = none ∧ (∀ other, other ≠ addr → other ≠ e.addr → nodeOf u other = nodeOf s other) ∧
        u.relay.ctr = cast { s.relay.ctr with
          learned := bump s.relay.ctr.learned, evicted := bump s.relay.ctr.evicted }) ∧
      u.relay.set = s.relay.set ∧
      u.relay.bcastH = s.relay.bcastH ∧ u.relay.bcastY = s.relay.bcastY ∧
      (u.port (roomPort room)).asm = none ∧
      (u.port (roomPort room)).ctr.rxGood = bump (s.port (roomPort room)).ctr.rxGood ∧
      u.zone.enrol = s.zone.enrol ∧ u.zone.table = s.zone.table ∧ KeepsClock s u ∧ u.recov = s.recov ∧ u.vol = s.vol ∧
      u.acct = s.acct ∧ KeepsStores s u ∧ KeepsNodes s u) ∧
  ∀ (room : Room) (start addr : Nat) (t : Telegram) (n : NodeEntry) (s : State), Settled s →
    (s.port (roomPort room)).asm = some { hasBuffer := true, start := start } →
    (s.port (roomPort room)).phase ≠ .sending → WellSent t → addr = t.src.toNat → nodeOf s addr = some n →
    isService s addr = false → s.relay.set.nodeCap < bump8 n.storm →
    ∃ u, exec (.rxTelegramEnd (roomPort room) (received t)) s = .next u ∧
      nodeOf u addr = some { n with seg := room, heard := s.sec, storm := bump8 n.storm, holdOffSent := true } ∧
      (∀ other, other ≠ addr → nodeOf u other = nodeOf s other) ∧
      u.relay.ctr = { s.relay.ctr with
        migrated := if n.seg = room then s.relay.ctr.migrated else bump s.relay.ctr.migrated
        nodeStorm := bump s.relay.ctr.nodeStorm
        holdOffSent := if n.holdOffSent then s.relay.ctr.holdOffSent else bump s.relay.ctr.holdOffSent } ∧
      (n.seg = room → u.zone = s.zone ∧ u.sup = s.sup ∧ u.sched = s.sched ∧ u.level = s.level ∧ u.mgmt = s.mgmt) ∧
      (n.seg = room → n.holdOffSent = true → s.pool.held = false ∨ s.pool.free < 13 →
        (u.port (roomPort room)).queue = (s.port (roomPort room)).queue ∧
        u.pool = { s.pool with free := s.pool.free + 1 }) ∧
      (n.seg = room → n.holdOffSent = false → s.pool.held = false → CanQueue s (roomPort room) →
        (u.port (roomPort room)).queue = (s.port (roomPort room)).queue ++
          [{ tel := composeTel t.src 0x30 [60], mark := .plain }] ∧ u.pool = s.pool) ∧
      u.relay.set = s.relay.set ∧ u.relay.bcastH = s.relay.bcastH ∧ u.relay.bcastY = s.relay.bcastY ∧
      u.zone.enrol = s.zone.enrol ∧ u.zone.table = s.zone.table ∧ KeepsClock s u ∧ u.recov = s.recov ∧ u.vol = s.vol ∧
      u.acct = s.acct ∧ KeepsStores s u ∧ KeepsNodes s u

/-- A telegram for another station goes by its destination: nowhere when it is learned on the arrival segment; to the other
room segment when it is learned there, unknown, or a broadcast under its cap; to the relay list when it is in the poll list
and a service source sent it. The filter stage removes it for an unprivileged source, a candidate in BREAK or the broadcast
cap, each with its own counter; a full queue drops it, with a broadcast counted all the same (R131, R150, R152 to R154). A
telegram that a room port delivers for another station, of a kind that is not the BX40's own and from a source known on that
segment within its storm limit, takes this way once its source has been refreshed and counted (R143, R148, R151). -/
def Obligations.RelayMovesByAddress : Prop :=
  (∀ (room : Room) (t : Telegram) (n : NodeEntry) (s : State), ArrivesFrom room t n s → t.dest ≠ 0 →
    t.kind ≠ 0x12 → t.kind ≠ 0x20 → t.kind ≠ 0x22 → t.kind ≠ 0x30 → t.kind ≠ 0x31 →
    ∃ u, LearnedFrom room t n s u ∧
      exec (.rxTelegramEnd (roomPort room) (received t)) s = .next (finish (relayOn room t u))) ∧
  ∀ (room : Room) (other : Port) (t : Telegram) (s : State) (moved : RelayCounters), other = roomPort (otherRoom room) →
    moved = (match room with
      | .h => { s.relay.ctr with relayedY := bump s.relay.ctr.relayedY }
      | .y => { s.relay.ctr with relayedH := bump s.relay.ctr.relayedH }) →
    (∀ n, t.dest ≠ 127 → nodeOf s t.dest.toNat = some n → n.seg = room →
      relayOn room t s = returnBuffer
        { s with relay := { s.relay with ctr := { s.relay.ctr with localDest := bump s.relay.ctr.localDest } } }) ∧
    (t.dest ≠ 127 → (∃ n, nodeOf s t.dest.toNat = some n ∧ n.seg ≠ room) ∨
        (nodeOf s t.dest.toNat = none ∧ inPollList s t.dest.toNat = false) →
      ((s.port other).mode = .active → (s.port other).queue.length < 8 →
        relayOn room t s = ({ s with relay := { s.relay with ctr := moved } } : State).setPort other
          { s.port other with queue := (s.port other).queue ++ [{ tel := t, mark := .plain }] }) ∧
      ((s.port other).mode = .active → 8 ≤ (s.port other).queue.length →
        relayOn room t s = returnBuffer (({ s with relay := { s.relay with ctr := moved } } : State).setPort other
          { s.port other with ctr := { (s.port other).ctr with queueFull := bump (s.port other).ctr.queueFull } })) ∧
      ((s.port other).mode = .broken →
        relayOn room t s = returnBuffer
          { s with relay := { s.relay with ctr := { s.relay.ctr with
            segmentDown := bump s.relay.ctr.segmentDown } } })) ∧
    (t.dest ≠ 127 → nodeOf s t.dest.toNat = none → inPollList s t.dest.toNat = true →
      (isService s t.src.toNat = false →
        relayOn room t s = returnBuffer
          { s with relay := { s.relay with ctr := { s.relay.ctr with
            plantGuard := bump s.relay.ctr.plantGuard } } }) ∧
      (isService s t.src.toNat = true → s.portP.mode = .broken →
        relayOn room t s = returnBuffer
          { s with relay := { s.relay with ctr := { s.relay.ctr with
            segmentDown := bump s.relay.ctr.segmentDown } } }) ∧
      (isService s t.src.toNat = true → s.portP.mode = .active →
        (s.sched.relayList.length < 4 →
          relayOn room t s =
            { s with
              relay := { s.relay with ctr := { s.relay.ctr with relayedP := bump s.relay.ctr.relayedP } }
              sched := { s.sched with relayList := s.sched.relayList ++ [(t, room)], wake := true } }) ∧
        (4 ≤ s.sched.relayList.length →
          relayOn room t s = returnBuffer
            { s with relay := { s.relay with ctr := { s.relay.ctr with
              relayListFull := bump s.relay.ctr.relayListFull } } }))) ∧
    (t.dest = 127 → (s.port other).mode = .broken →
      relayOn room t s = returnBuffer
        { s with relay := { s.relay with ctr := { s.relay.ctr with segmentDown := bump s.relay.ctr.segmentDown } } }) ∧
    (t.dest = 127 → (s.port other).mode = .active →
      (s.relay.set.bcastCap ≤ bcastCount s other →
        relayOn room t s = returnBuffer
          { s with relay := { s.relay with ctr := { s.relay.ctr with bcastDrop := bump s.relay.ctr.bcastDrop } } }) ∧
      (bcastCount s other < s.relay.set.bcastCap → (s.port other).queue.length < 8 →
        relayOn room t s =
          ({ s with relay := { s.relay with
              ctr := moved
              bcastH := if room = .y then s.relay.bcastH + 1 else s.relay.bcastH
              bcastY := if room = .h then s.relay.bcastY + 1 else s.relay.bcastY } } : State).setPort other
            { s.port other with queue := (s.port other).queue ++ [{ tel := t, mark := .plain }] }) ∧
      (bcastCount s other < s.relay.set.bcastCap → 8 ≤ (s.port other).queue.length →
        relayOn room t s = returnBuffer
          (({ s with relay := { s.relay with
              ctr := moved
              bcastH := if room = .y then s.relay.bcastH + 1 else s.relay.bcastH
              bcastY := if room = .h then s.relay.bcastY + 1 else s.relay.bcastY } } : State).setPort other
            { s.port other with ctr := { (s.port other).ctr with queueFull := bump (s.port other).ctr.queueFull } })))

/-- Each second a node entry not heard for more than AGE_LIMIT is removed whole and counted, and the zone of a removed room
unit is evaluated; at the interval starts the storm counts, or the broadcast counts, return to 0 (R146 to R148, R150). -/
def Obligations.AgingAndIntervals : Prop :=
  (∀ s : State, s.relay.ctr.aged ≤ 65535 →
    ∃ (t : State) (gone : List (Option NodeEntry)), exec .nodeAgingCheck s = .next t ∧
      gone = s.relay.nodes.filter (fun o => o.any fun n => decide (s.relay.set.ageLimit < s.sec - n.heard)) ∧
      t.relay = { s.relay with
        nodes := s.relay.nodes.map fun o => o.filter fun n => decide (s.sec - n.heard ≤ s.relay.set.ageLimit)
        ctr := { s.relay.ctr with aged := min (s.relay.ctr.aged + gone.length) 65535 } } ∧
      (gone = [] → t.zone = s.zone ∧ t.sup = s.sup ∧ t.level = s.level) ∧
      (∀ n z, some n ∈ gone → unitZone s n.addr = some z → z < s.zone.states.length →
        t.zone.states[z]? = some (zoneStateOf t z)) ∧
      t.zone.enrol = s.zone.enrol ∧ t.zone.table = s.zone.table ∧ KeepsClock s t ∧ t.recov = s.recov ∧ t.vol = s.vol ∧
      t.acct = s.acct ∧ KeepsStores s t ∧ KeepsNodes s t ∧ PortsOffered s t) ∧
  ∀ s : State, Settled s →
    (s.sec % 60 = 0 →
      exec .stormIntervalStart s = .next
        { s with relay := { s.relay with
          nodes := s.relay.nodes.map (Option.map fun n => { n with storm := 0, holdOffSent := false }) } }) ∧
    (s.sec % 10 = 0 →
      exec .broadcastIntervalStart s = .next { s with relay := { s.relay with bcastH := 0, bcastY := 0 } })

/-! ### The poll scheduler (chapter 9) -/

/-- With an entry due and no exchange outstanding the P line is arbitrated: the oldest pending command of a PRESENT valve goes
first, then the oldest relayed telegram, then the first due entry after the last one polled. The request is queued on P and
the exchange is outstanding with attempt 1 (R160 to R162). That SET_SENT or POLL_SENT of R169 is counted as the request joins
the queue is the model's choice (log 19). -/
def Obligations.PollDueBeginsAnExchange : Prop :=
  ∀ s : State, Settled s → s.sched.exch = none → s.portP.mode = .active → s.portP.queue.length < 8 →
    (∃ slot e, slotGet s.sched.slots slot = some e ∧ e.due ≤ s.tenths) →
    (∀ slot e r, s.pool.free ≠ 0 → s.pool.held = true ∨ 7 < s.pool.free → slotGet s.sched.slots slot = some e →
      e.role = .valve r → r.pending = true → e.present = true →
      (∀ slot' e' r', slot' ≠ slot → slotGet s.sched.slots slot' = some e' → e'.role = .valve r' → r'.pending = true →
        e'.present = true → r.since < r'.since ∨ (r.since = r'.since ∧ slot < slot')) →
      exec .pollDue s = .next
        { s with
          pool := { s.pool with free := s.pool.free - 1 }
          portP := { s.portP with queue := s.portP.queue ++
            [{ tel := composeTel (BitVec.ofNat 8 e.addr) 0x22 [if r.desired = .opened then 1 else 0], mark := .request }] }
          sched := { s.sched with
            slots := s.sched.slots.set slot (some { e with start := some s.tenths, base := s.tenths })
            exch := some { kind := .valve slot r.desired, node := BitVec.ofNat 8 e.addr, start := s.tenths, attempt := 1,
                           window := none }
            ctr := { s.sched.ctr with setSent := bump s.sched.ctr.setSent } } }) ∧
    ((∀ slot e r, slotGet s.sched.slots slot = some e → e.role = .valve r → r.pending = true → e.present = false) →
      (∀ t room rest, s.sched.relayList = (t, room) :: rest →
        exec .pollDue s = .next
          { s with
            portP := { s.portP with queue := s.portP.queue ++ [{ tel := t, mark := .request }] }
            sched := { s.sched with
              relayList := rest
              exch := some { kind := .relay room, node := t.dest, start := s.tenths, attempt := 1, window := none } } }) ∧
      (∀ j slot e, s.pool.free ≠ 0 → s.pool.held = true ∨ 7 < s.pool.free → s.sched.relayList = [] →
        j < s.sched.slots.length → slot = (s.sched.rr + 1 + j) % s.sched.slots.length →
        slotGet s.sched.slots slot = some e → e.due ≤ s.tenths →
        (∀ i e', i < j → slotGet s.sched.slots ((s.sched.rr + 1 + i) % s.sched.slots.length) = some e' →
          s.tenths < e'.due) →
        exec .pollDue s = .next
          { s with
            pool := { s.pool with free := s.pool.free - 1 }
            portP := { s.portP with queue := s.portP.queue ++
              [{ tel := composeTel (BitVec.ofNat 8 e.addr) 0x20 [], mark := .request }] }
            sched := { s.sched with
              slots := s.sched.slots.set slot (some { e with start := some s.tenths, base := s.tenths })
              rr := slot
              exch := some { kind := .poll slot, node := BitVec.ofNat 8 e.addr, start := s.tenths, attempt := 1,
                             window := none }
              ctr := { s.sched.ctr with pollSent := bump s.sched.ctr.pollSent } } }))

/-- A response window that closes with no answer: the first attempt is repeated once; after the second the exchange ends as a
miss, the third miss making the entry ABSENT and its valve UNKNOWN; a relay window's silence is counted (R160, R164, R167).
That POLL_SENT or SET_SENT of R169 is counted as the repeated request joins the queue is the model's choice (log 19). A
telegram on P that is no answer is STRAY and leaves a window open; in a relay window the first telegram of the addressed node
ends the exchange and goes to the requester's segment (R128, R155, R165, R167). -/
def Obligations.SilentWindowRetriesThenMisses : Prop :=
  (∀ (x : Exchange) (w : Nat) (s : State), Settled s → s.sched.exch = some x → x.window = some w → w + 4000 ≤ s.now →
    (∀ a, s.portP.asm = some a → w + 4000 ≤ a.start) →
    (∀ slot, x.kind = .poll slot → x.attempt = 1 → CanQueue s .p →
      exec .responseWindowClose s = .next
        { s with
          pool := { s.pool with free := s.pool.free - 1 }
          portP := { s.portP with queue := s.portP.queue ++ [{ tel := composeTel x.node 0x20 [], mark := .request }] }
          sched := { s.sched with
            exch := some { x with attempt := 2, window := none }
            ctr := { s.sched.ctr with pollSent := bump s.sched.ctr.pollSent, retry := bump s.sched.ctr.retry } } }) ∧
    (∀ slot pos, x.kind = .valve slot pos → x.attempt = 1 → CanQueue s .p →
      exec .responseWindowClose s = .next
        { s with
          pool := { s.pool with free := s.pool.free - 1 }
          portP := { s.portP with queue := s.portP.queue ++
            [{ tel := composeTel x.node 0x22 [if pos = .opened then 1 else 0], mark := .request }] }
          sched := { s.sched with
            exch := some { x with attempt := 2, window := none }
            ctr := { s.sched.ctr with setSent := bump s.sched.ctr.setSent, retry := bump s.sched.ctr.retry } } }) ∧
    (∀ slot e, x.kind.slot? = some slot → x.attempt ≠ 1 → slotGet s.sched.slots slot = some e →
      ∃ t e', exec .responseWindowClose s = .next t ∧ ExchangeOver s t ∧
        t.sched.ctr.miss = bump s.sched.ctr.miss ∧ t.sched.ctr.retry = s.sched.ctr.retry ∧
        slotGet t.sched.slots slot = some e' ∧ e'.addr = e.addr ∧ e'.interval = e.interval ∧
        e'.lastAnswer = e.lastAnswer ∧ e'.misses = bump8 e.misses ∧
        (e'.present = true ↔ e.present = true ∧ bump8 e.misses < 3) ∧
        (e.present = true → e'.present = false → nodeAbsentCond t = true ∧
          ∀ r, e'.valve? = some r → r.reported = .unknown) ∧
        (e'.present = e.present → valveShown t slot = valveShown s slot ∧ t.sup = s.sup ∧ t.level = s.level) ∧
        (∀ other, other ≠ slot → valveShown t other = valveShown s other) ∧
        KeepsClock s t ∧ t.relay = s.relay ∧ t.zone = s.zone ∧ t.recov = s.recov ∧ t.vol = s.vol ∧ t.acct = s.acct ∧
        KeepsStores s t ∧ PortsOffered s t) ∧
    (∀ room, x.kind = .relay room →
      ∃ t, exec .responseWindowClose s = .next t ∧ ExchangeOver s t ∧
        t.sched.ctr.relayNoReply = bump s.sched.ctr.relayNoReply ∧ t.sched.ctr.miss = s.sched.ctr.miss ∧
        KeepsClock s t ∧ KeepsHeat s t ∧ KeepsOil s t ∧ t.mgmt = s.mgmt ∧ t.nv = s.nv ∧ KeepsNodes s t ∧
        PortsOffered s t)) ∧
  ∀ (start : Nat) (tel : Telegram) (s : State), Settled s → s.portP.asm = some { hasBuffer := true, start := start } →
    s.portP.phase ≠ .sending → WellSent tel →
    (s.sched.exch = none ∨
        (∃ x, s.sched.exch = some x ∧ (x.window = none ∨ tel.src ≠ x.node)) ∨
        (∃ x slot e, s.sched.exch = some x ∧ x.kind.slot? = some slot ∧ slotGet s.sched.slots slot = some e ∧
          (tel.dest ≠ 0 ∨ tel.kind ≠ if e.role = .gauge then 0x21 else 0x23)) →
      ∃ t, exec (.rxTelegramEnd .p (received tel)) s = .next t ∧
        t.sched = { s.sched with ctr := { s.sched.ctr with stray := bump s.sched.ctr.stray } } ∧
        t.portP.asm = none ∧ t.portP.queue = s.portP.queue ∧ t.portP.ctr.rxGood = bump s.portP.ctr.rxGood ∧
        (s.pool.held = false ∨ s.pool.free < 13 → t.pool = { s.pool with free := s.pool.free + 1 }) ∧
        KeepsClock s t ∧ KeepsHeat s t ∧ KeepsOil s t ∧ t.mgmt = s.mgmt ∧ t.nv = s.nv) ∧
    (∀ x w room, s.sched.exch = some x → x.kind = .relay room → x.window = some w → tel.src = x.node →
      ∃ t, exec (.rxTelegramEnd .p (received tel)) s = .next t ∧ ExchangeOver s t ∧
        t.relay = { s.relay with ctr := { s.relay.ctr with returned := bump s.relay.ctr.returned } } ∧
        t.sched.ctr.stray = s.sched.ctr.stray ∧ t.sched.ctr.relayNoReply = s.sched.ctr.relayNoReply ∧
        t.sched.ctr.answered = s.sched.ctr.answered ∧
        ((s.port (roomPort room)).mode = .active → (s.port (roomPort room)).queue.length < 8 →
          ∃ its, (t.port (roomPort room)).queue = (s.port (roomPort room)).queue ++
            [{ tel := tel, mark := .plain }] ++ its) ∧
        t.portP.asm = none ∧ t.portP.ctr.rxGood = bump s.portP.ctr.rxGood ∧
        KeepsClock s t ∧ t.zone = s.zone ∧ t.sup = s.sup ∧ t.recov = s.recov ∧ KeepsOil s t ∧ t.mgmt = s.mgmt ∧
        t.nv = s.nv ∧ KeepsNodes s t)

/-- VALVE_TRAVEL after the command the fault flag is set and the reported position stays; VALVE_FAULT is pending, and no other
valve's report or fault changes. Where the flag was set already only the timer stops, and no due time moves (R159, R162,
R166). A VALVE_REPORT that answers on P makes the entry PRESENT and its position the reported one: FAULT sets the flag, the
desired position clears it, and a report of another length or code is counted BAD_REPORT and leaves both; the command
answered, where its position is desired as it was, is pending no more (R163, R164, R166). -/
def Obligations.TravelExpiryFlagsTheValve : Prop :=
  (∀ (slot : Nat) (r : ValveRecord) (s : State), recordOf s slot = some r → r.travel = true → r.since + 900 ≤ s.tenths →
    ∃ t, exec (.valveTravelExpiry slot) s = .next t ∧ valveShown t slot = some (r.reported, true) ∧
      (pendingSet t).getLsbD 14 = true ∧ t.mgmt.events = s.mgmt.events ∧
      (∀ other, other ≠ slot → valveShown t other = valveShown s other) ∧
      (r.fault = true → recordOf t slot = some { r with travel := false } ∧ t.sup = s.sup ∧ t.level = s.level ∧
        t.sched.slots.map (Option.map (·.due)) = s.sched.slots.map (Option.map (·.due))) ∧
      t.level = { s.level with burnerStart := t.level.burnerStart } ∧ KeepsClock s t ∧ t.relay = s.relay ∧
      t.zone = s.zone ∧ t.recov = s.recov ∧ t.vol = s.vol ∧ t.acct = s.acct ∧ KeepsStores s t ∧ PortsOffered s t) ∧
  ∀ (start w slot : Nat) (tel : Telegram) (exch : Exchange) (e : PollEntry) (r : ValveRecord) (s : State),
    s.portP.asm = some { hasBuffer := true, start := start } → s.portP.phase ≠ .sending → WellSent tel → tel.dest = 0 →
    tel.kind = 0x23 → s.sched.exch = some exch → exch.kind.slot? = some slot → exch.window = some w →
    tel.src = exch.node → slotGet s.sched.slots slot = some e → e.role = .valve r →
    ∃ t e' r', exec (.rxTelegramEnd .p (received tel)) s = .next t ∧ ExchangeOver s t ∧
      t.sched.ctr.answered = bump s.sched.ctr.answered ∧ t.sched.ctr.stray = s.sched.ctr.stray ∧
      slotGet t.sched.slots slot = some e' ∧ e'.role = .valve r' ∧ e'.addr = e.addr ∧ e'.interval = e.interval ∧
      e'.present = true ∧ e'.misses = 0 ∧ e'.lastAnswer = s.sec ∧
      (∀ rep : Reported, rep ≠ .unknown → tel.payload = [rep.code] →
        r'.reported = rep ∧ t.sched.ctr.badReport = s.sched.ctr.badReport ∧
        (rep = .fault → r'.fault = true) ∧
        (rep = .opened ∧ r.desired = .opened ∨ rep = .closed ∧ r.desired = .closed → r'.fault = false) ∧
        (rep = .moving ∨ rep = .opened ∧ r.desired = .closed ∨ rep = .closed ∧ r.desired = .opened →
          r'.fault = r.fault)) ∧
      ((∀ rep : Reported, rep ≠ .unknown → tel.payload ≠ [rep.code]) →
        t.sched.ctr.badReport = bump s.sched.ctr.badReport ∧ r'.reported = r.reported ∧ r'.fault = r.fault) ∧
      (r'.reported = r.reported → r'.fault = r.fault → t.sup = s.sup ∧ r'.desired = r.desired ∧
        ∀ pos, exch.kind = .valve slot pos → r.desired = pos → r'.pending = false) ∧
      (∀ pos, exch.kind = .valve slot pos → r.desired = pos → r.since < s.tenths → r'.since = r.since →
        r'.pending = false) ∧
      (∀ other, other ≠ slot → valveShown t other = valveShown s other) ∧
      t.level = { s.level with burnerStart := t.level.burnerStart } ∧ t.portP.asm = none ∧
      t.portP.ctr.rxGood = bump s.portP.ctr.rxGood ∧ KeepsClock s t ∧ t.relay = s.relay ∧ t.zone = s.zone ∧
      t.recov = s.recov ∧ t.vol = s.vol ∧ t.acct = s.acct ∧ KeepsStores s t

/-! ### Requests and notices (chapter 10) -/

/-- While the enabled set is not empty, NOTICE is composed for H and for Y again every 30 s, carrying the enabled set and the
pending set as they are then (R124, R177). -/
def Obligations.NoticeIsRepeated : Prop :=
  ∀ (since : Nat) (item : QItem) (s : State), Settled s → enabledSet s ≠ 0 → s.mgmt.repeatFrom = some since →
    since + 300000 ≤ s.now → 2 ≤ s.pool.free → s.pool.held = true ∨ 8 < s.pool.free →
    s.portH.mode = .active → s.portH.queue.length < 8 → s.portY.mode = .active → s.portY.queue.length < 8 →
    item = { tel := composeTel 127 0x31 (beBytes 2 (enabledSet s).toNat ++ beBytes 2 (pendingSet s).toNat)
             mark := .plain } →
    exec .noticeRepeat s = .next
      { s with
        mgmt := { s.mgmt with repeatFrom := some s.now }
        pool := { s.pool with free := s.pool.free - 2 }
        portH := { s.portH with queue := s.portH.queue ++ [item] }
        portY := { s.portY with queue := s.portY.queue ++ [item] } }

/-- A request is answered by the first check that it fails (R170): BAD_VALUE for an op of no number; BAD_OBJECT for an object
or action of no number; BAD_INDEX beyond its range (R171, R173); DENIED for a WRITE or an ACTION of a source that is no
service source; REFUSED for a WRITE to an index that is read-only; BUSY for WRITE, SWAP-STRAP, STORE and RESTART during a
STORE, and for STORE while a RESTART waits (R175); then BAD_VALUE for an action of another data length, and what R62 and R64
answer by the recovery state. A READ passes from any source. A READ, and every request that is answered with another status
than OK or CLAMPED, changes nothing but that its response is offered to the arrival port's queue: with that, only the ports
and the pool can change, the other room port's queue where the response's buffer puts the pool in HELD and HOLD_OFF is
broadcast (R139, R170 to R173). That a request row is the request at the management unit, with no arrival of its own, is the
model's choice (log 3), as is that the broadcast counts at index 22 of RELAY_COUNTERS are read-only (log 37). -/
def Obligations.RefusedRequestsChangeNothing : Prop :=
  (∀ (c : Instr) (op : Op) (obj idx : Byte) (q : Req) (st : Status) (data : List Byte) (mark : QMark) (s : State),
    Settled s → requestOf c = some (op, obj, idx, q) → answerOf op obj idx q s = .now st data mark →
    op = .read ∨ (st ≠ .ok ∧ st ≠ .clamped) →
    exec c s = .next (respond q.room q.src op.code obj idx (.now st data mark) s) ∧
      OnlyPortsChange s (respond q.room q.src op.code obj idx (.now st data mark) s)) ∧
  (∀ (s : State) (addr : Nat), isService s 126 = true ∧
    (isService s addr = true → addr = 126 ∨ ∃ e, some e ∈ s.zone.enrol ∧ e.addr = addr ∧ e.role = .service) ∧
    ∀ e, some e ∈ s.zone.enrol → e.addr = addr → e.role = .service →
      (∀ e', some e' ∈ s.zone.enrol → e'.addr = addr → e' = e) → isService s addr = true) ∧
  (∀ (op obj idx src : Byte) (room : Room) (data : List Byte) (s : State), op ≠ 1 → op ≠ 2 → op ≠ 3 →
    handle op obj idx room src data s = (s, .bare .badValue)) ∧
  (∀ (op : Op) (obj idx : Byte) (q : Req) (s : State),
    obj = 0 ∨ (if op = .action then 8 else 25) < obj.toNat → answerOf op obj idx q s = .bare .badObject) ∧
  (∀ (obj idx : Byte) (last : Nat) (q : Req) (s : State), obj ≠ 0 → objectRanges[obj.toNat - 1]? = some last →
    (last < idx.toNat →
      answerOf .read obj idx q s = .bare .badIndex ∧ answerOf .write obj idx q s = .bare .badIndex) ∧
    (idx.toNat ≤ last →
      (q.data = [] → ∃ bytes, answerOf .read obj idx q s = .now .ok bytes .plain) ∧
      (∀ q' : Req, q'.data = q.data → answerOf .read obj idx q' s = answerOf .read obj idx q s) ∧
      (isService s q.src.toNat = false → answerOf .write obj idx q s = .bare .denied) ∧
      (isService s q.src.toNat = true →
        (¬ OpenToWrite obj.toNat idx.toNat → answerOf .write obj idx q s = .bare .refused) ∧
        (OpenToWrite obj.toNat idx.toNat → s.mgmt.job ≠ .none → answerOf .write obj idx q s = .bare .busy) ∧
        (OpenToWrite obj.toNat idx.toNat → s.mgmt.job = .none →
          ∃ st ∈ [Status.ok, .clamped, .badValue], answerOf .write obj idx q s = .bare st)))) ∧
  (∀ (obj idx : Byte) (last : Nat) (q : Req) (s : State), obj ≠ 0 → obj.toNat ≤ 8 → last = (if obj = 6 then 1 else 0) →
    (last < idx.toNat → answerOf .action obj idx q s = .bare .badIndex) ∧
    (idx.toNat ≤ last → isService s q.src.toNat = false → answerOf .action obj idx q s = .bare .denied) ∧
    (idx.toNat ≤ last → isService s q.src.toNat = true →
      (obj ∈ ([1, 2, 8] : List Byte) → s.mgmt.job ≠ .none → answerOf .action obj idx q s = .bare .busy) ∧
      (obj = 2 → s.mgmt.restart = true → answerOf .action obj idx q s = .bare .busy) ∧
      ((obj ∈ ([1, 2, 8] : List Byte) → s.mgmt.job = .none) → (obj = 2 → s.mgmt.restart = false) →
        q.data.length ≠ (if obj = 3 then 2 else 0) → answerOf .action obj idx q s = .bare .badValue))) ∧
  ∀ (q : Req) (s : State), isService s q.src.toNat = true → q.data = [] →
    (s.recov.state = .closed ∨ s.recov.state = .proving ∨ s.recov.state = .hardLock →
      answerOf .action 4 0 q s = .bare .refused) ∧
    (s.recov.state = .pulsing ∨ s.recov.state = .confirming ∨
        (s.recov.state = .waitRetry ∧ ∃ e a, s.recov.episode = some e ∧ e.attempt = some a) →
      answerOf .action 4 0 q s = .bare .busy) ∧
    (s.recov.state ≠ .hardLock → answerOf .action 5 0 q s = .bare .refused)

/-- Every request is handled and its response offered to the arrival port's queue: with no free buffer it is not made, in
BREAK or with eight telegrams queued it is dropped. A MGMT_REQ that a room port delivers, here from a source known on that
segment within its storm limit, is handled once its source has been refreshed and counted: with a payload below 3 bytes
BAD_REQUEST is counted and there is no response. What some READs answer, to any source, is listed (R131, R137, R138, R143,
R148, R151, R170, R171). That a telegram's buffer returns after its handling and before its response is composed is the
model's choice (log 11). -/
def Obligations.ResponsesJoinTheQueue : Prop :=
  (∀ (c : Instr) (op : Op) (obj idx : Byte) (q : Req) (s : State), requestOf c = some (op, obj, idx, q) →
    exec c s = .next (finish (respond q.room q.src op.code obj idx (answerOf op obj idx q s)
      (handle op.code obj idx q.room q.src q.data s).1))) ∧
  (∀ (room : Room) (t : Telegram) (n : NodeEntry) (s : State), ArrivesFrom room t n s → t.dest = 0 → t.kind = 0x40 →
    ∃ u, LearnedFrom room t n s u ∧
      (t.payload.length < 3 →
        exec (.rxTelegramEnd (roomPort room) (received t)) s = .next (returnBuffer
          { u with mgmt := { s.mgmt with badRequest := bump s.mgmt.badRequest } })) ∧
      ∀ (op obj idx : Byte) (data : List Byte) (v : State) (r : Reply), t.payload = op :: obj :: idx :: data →
        (v, r) = handle op obj idx room t.src data u →
        exec (.rxTelegramEnd (roomPort room) (received t)) s =
          .next (finish (respond room t.src op obj idx r (returnBuffer v)))) ∧
  (∀ (room : Room) (port : Port) (src op obj idx : Byte) (st : Status) (data : List Byte) (mark : QMark) (s : State),
    port = roomPort room →
    (s.pool.free = 0 →
      respond room src op obj idx (.now st data mark) s =
        { s with pool := { s.pool with genDropped := bump s.pool.genDropped } }) ∧
    (CanQueue s port →
      respond room src op obj idx (.now st data mark) s =
        ({ s with pool := { s.pool with free := s.pool.free - 1 } } : State).setPort port
          { s.port port with queue := (s.port port).queue ++
            [{ tel := composeTel src 0x41 (st.code :: op :: obj :: idx :: data), mark := mark }] }) ∧
    (s.pool.held = false → 7 < s.pool.free → (s.port port).mode = .broken →
      respond room src op obj idx (.now st data mark) s =
        s.setPort port { s.port port with
          ctr := { (s.port port).ctr with flushed := bump (s.port port).ctr.flushed } }) ∧
    (s.pool.held = false → 7 < s.pool.free → (s.port port).mode = .active → 8 ≤ (s.port port).queue.length →
      respond room src op obj idx (.now st data mark) s =
        s.setPort port { s.port port with
          ctr := { (s.port port).ctr with queueFull := bump (s.port port).ctr.queueFull } })) ∧
  ∀ (q : Req) (s : State), q.data = [] →
    answerOf .read 25 0 q s = .now .ok (beBytes 2 (pendingSet s).toNat) .plain ∧
    answerOf .read 25 1 q s = .now .ok (beBytes 2 s.mgmt.mask.toNat) .plain ∧
    answerOf .read 17 0 q s = .now .ok (beBytes 2 s.sup.set.minOn) .plain ∧
    answerOf .read 13 0 q s = .now .ok (match s.vol.chain with
      | [] => []
      | h0 :: _ => beBytes 4 h0.v15 ++ beBytes 4 h0.time) .plain ∧
    answerOf .read 14 1 q s = .now .ok (beBytes 4 s.acct.accum ++ beBytes 4 s.acct.residue) .plain ∧
    (s.recov.log = [] → answerOf .read 22 0 q s = .now .ok [] .plain) ∧
    answerOf .read 0 0 q s = .bare .badObject ∧ answerOf .read 26 0 q s = .bare .badObject ∧
    answerOf .read 12 1 q s = .bare .badIndex

/-- A service source's write of a setting that no test follows is clamped to its range, taken, and answered OK or CLAMPED; a
tank level that would not leave EMPTY_LEVEL below RESERVE_LEVEL is refused; a write of 0 to a counter index clears its
counters (R51, R73, R89, R96, R106, R113, R116, R156, R172). -/
def Obligations.PlainWritesAreTaken : Prop :=
  ∀ (q : Req) (v : Nat) (s : State), Settled s → MayWrite s q →
    (v < 65536 → q.data = beBytes 2 v →
      Answers (.relaySettingsWrite .ageLimit q) 2 24 19 q (takenAs v (min 3600 (max 120 v))) s
        { s with relay := { s.relay with set := { s.relay.set with ageLimit := min 3600 (max 120 v) } } } ∧
      Answers (.mgmtWrite 10 4 q) 2 10 4 q (takenAs v (min 5000 v)) s
        { s with level := { s.level with set := { s.level.set with slew := min 5000 v } } } ∧
      Answers (.mgmtWrite 10 7 q) 2 10 7 q (takenAs v (min 2000 v)) s { s with vol := { s.vol with coef := min 2000 v } } ∧
      Answers (.mgmtWrite 10 11 q) 2 10 11 q (takenAs v (min 20000 (max 500 v))) s
        { s with acct := { s.acct with set := { s.acct.set with nozzleRate := min 20000 (max 500 v) } } }) ∧
    (v < 256 → q.data = beBytes 1 v →
      Answers (.relaySettingsWrite .nodeCap q) 2 24 20 q (takenAs v (min 60 (max 2 v))) s
        { s with relay := { s.relay with set := { s.relay.set with nodeCap := min 60 (max 2 v) } } } ∧
      Answers (.relaySettingsWrite .bcastCap q) 2 24 21 q (.bare .ok) s
        { s with relay := { s.relay with set := { s.relay.set with bcastCap := v } } } ∧
      Answers (.mgmtWrite 10 12 q) 2 10 12 q (takenAs v (min 24 (max 1 v))) s
        { s with acct := { s.acct with set := { s.acct.set with period := min 24 (max 1 v) } } } ∧
      Answers (.mgmtWrite 10 14 q) 2 10 14 q (takenAs v (min 100 v)) s
        { s with acct := { s.acct with set := { s.acct.set with tolPct := min 100 v } } } ∧
      Answers (.strapStagedWrite 32 q) 2 9 32 q (takenAs v (min 32 v)) s
        { s with vol := setStaged { stagedBank s.vol with n := min 32 v } s.vol } ∧
      Answers (.recoverySetWrite .resetWidth q) 2 19 4 q (takenAs v (min 50 (max 2 v))) s
        { s with recov := { s.recov with set := { s.recov.set with resetWidth := min 50 (max 2 v) } } }) ∧
    (v < 4294967296 → q.data = beBytes 4 v →
      Answers (.mgmtWrite 10 13 q) 2 10 13 q (takenAs v (min 100000 v)) s
        { s with acct := { s.acct with set := { s.acct.set with tolFixed := min 100000 v } } } ∧
      Answers (.mgmtWrite 10 15 q) 2 10 15 q (takenAs v (min 1000000 (max 1 v))) s
        { s with acct := { s.acct with set := { s.acct.set with delivMin := min 1000000 (max 1 v) } } } ∧
      (s.acct.set.emptyLevel < min 1000000 (max 1 v) →
        Answers (.tankLevelsWrite .reserveLevel q) 2 10 8 q (takenAs v (min 1000000 (max 1 v))) s
          { s with acct := { s.acct with set := { s.acct.set with reserveLevel := min 1000000 (max 1 v) } } }) ∧
      (min 1000000 (max 1 v) ≤ s.acct.set.emptyLevel →
        Answers (.tankLevelsWrite .reserveLevel q) 2 10 8 q (.bare .badValue) s s) ∧
      (min 999999 v < s.acct.set.reserveLevel →
        Answers (.tankLevelsWrite .emptyLevel q) 2 10 9 q (takenAs v (min 999999 v)) s
          { s with acct := { s.acct with set := { s.acct.set with emptyLevel := min 999999 v } } }) ∧
      (s.acct.set.reserveLevel ≤ min 999999 v →
        Answers (.tankLevelsWrite .emptyLevel q) 2 10 9 q (.bare .badValue) s s) ∧
      (s.acct.set.emptyLevel < s.acct.set.reserveLevel →
        Answers (.tankLevelsWrite .hyst q) 2 10 10 q (takenAs v (min 100000 v)) s
          { s with acct := { s.acct with set := { s.acct.set with hyst := min 100000 v } } })) ∧
    (∀ (d : Nat) (i : Byte), i.toNat < 32 → d < 65536 → v < 4294967296 → q.data = beBytes 2 d ++ beBytes 4 v →
      Answers (.strapStagedWrite i q) 2 9 i q (takenAs v (min 1000000 v)) s
        { s with vol := setStaged { stagedBank s.vol with
          points := (stagedBank s.vol).points.set i.toNat { depth := d, vol := min 1000000 v } } s.vol }) ∧
    (∀ x : Int, -32768 ≤ x → x < 32768 → q.data = beSigned 2 x →
      Answers (.recoverySetWrite .waxTemp q) 2 19 5 q (.bare (if min 100 (max (-200) x) = x then .ok else .clamped)) s
        { s with recov := { s.recov with set := { s.recov.set with waxTemp := min 100 (max (-200) x) } } }) ∧
    (q.data = [0] →
      Answers (.counterClear 1 3 q) 2 1 3 q (.bare .ok) s { s with mgmt := { s.mgmt with badRequest := 0 } } ∧
      Answers (.counterClear 6 12 q) 2 6 12 q (.bare .ok) s { s with sched := { s.sched with ctr := {} } } ∧
      Answers (.counterClear 11 6 q) 2 11 6 q (.bare .ok) s { s with level := { s.level with ctr := {} } } ∧
      Answers (.counterClear 18 1 q) 2 18 1 q (.bare .ok) s
        { s with sup := { s.sup with rr := { s.sup.rr with burnCount := 0, uncalled := 0 } } } ∧
      Answers (.counterClear 23 0 q) 2 23 0 q (.bare .ok) s { s with portH := { s.portH with ctr := {} } } ∧
      Answers (.counterClear 23 1 q) 2 23 1 q (.bare .ok) s { s with portY := { s.portY with ctr := {} } } ∧
      Answers (.counterClear 23 2 q) 2 23 2 q (.bare .ok) s { s with portP := { s.portP with ctr := {} } } ∧
      Answers (.counterClear 23 3 q) 2 23 3 q (.bare .ok) s
        { s with pool := { s.pool with genDropped := 0, holdEntry := 0 } } ∧
      (∀ (i : Byte) (ctr : RelayCounters),
        (i = 0 ∧ ctr = { s.relay.ctr with learned := 0 }) ∨
        (i = 1 ∧ ctr = { s.relay.ctr with evicted := 0 }) ∨
        (i = 2 ∧ ctr = { s.relay.ctr with migrated := 0 }) ∨
        (i = 3 ∧ ctr = { s.relay.ctr with aged := 0 }) ∨
        (i = 4 ∧ ctr = { s.relay.ctr with nodeStorm := 0 }) ∨
        (i = 5 ∧ ctr = { s.relay.ctr with holdOffSent := 0 }) ∨
        (i = 6 ∧ ctr = { s.relay.ctr with foreignKind := 0 }) ∨
        (i = 7 ∧ ctr = { s.relay.ctr with unknownKind := 0 }) ∨
        (i = 8 ∧ ctr = { s.relay.ctr with localDest := 0 }) ∨
        (i = 9 ∧ ctr = { s.relay.ctr with plantGuard := 0 }) ∨
        (i = 10 ∧ ctr = { s.relay.ctr with segmentDown := 0 }) ∨
        (i = 11 ∧ ctr = { s.relay.ctr with bcastDrop := 0 }) ∨
        (i = 12 ∧ ctr = { s.relay.ctr with relayedH := 0 }) ∨
        (i = 13 ∧ ctr = { s.relay.ctr with relayedY := 0 }) ∨
        (i = 14 ∧ ctr = { s.relay.ctr with relayedP := 0 }) ∨
        (i = 15 ∧ ctr = { s.relay.ctr with relayListFull := 0 }) ∨
        (i = 16 ∧ ctr = { s.relay.ctr with returned := 0 }) →
        Answers (.counterClear 24 i q) 2 24 i q (.bare .ok) s { s with relay := { s.relay with ctr := ctr } }) ∧
      Answers (.counterClear 24 17 q) 2 24 17 q (.bare .ok) s { s with zone := { s.zone with badDemand := 0 } } ∧
      Answers (.counterClear 24 18 q) 2 24 18 q (.bare .ok) s { s with zone := { s.zone with unenrolled := 0 } })

/-- The burner and recovery settings are clamped and taken, and the timer, the due time or the history that a setting governs
is tested at once against it; a write of BUDGET counts the AUTOMATIC entries after the lapses by age and lapses the oldest
beyond it (R42, R51, R54; which tests follow a write, and that MIN_ON and MIN_OFF are measured anew though expired, is log
28). -/
def Obligations.BurnerAndRecoverySettings : Prop :=
  ∀ (q : Req) (v since : Nat) (s : State), Settled s → MayWrite s q →
    (∀ taken, v < 65536 → q.data = beBytes 2 v → taken = min 900 (max 60 v) →
      answerOf .write 17 0 q s = takenAs v taken ∧ ∃ t, exec (.burnerSetWrite .minOn q) s = .next t ∧
        DispatchFrame s t ∧ t.zone = s.zone ∧ t.sup.set = { s.sup.set with minOn := taken } ∧
        (callAsserted s = true → s.sup.served = [] → s.sup.minOn = some since → since + taken * 10 ≤ s.tenths →
          callAsserted t = false) ∧
        (callAsserted s = true → pathExists s = true → s.sup.served ≠ [] →
          t.sup = { s.sup with set := t.sup.set } ∧ t.level = s.level)) ∧
    (∀ taken, v < 65536 → q.data = beBytes 2 v → taken = min 1800 (max 60 v) →
      answerOf .write 17 1 q s = takenAs v taken ∧ ∃ t, exec (.burnerSetWrite .minOff q) s = .next t ∧
        DispatchFrame s t ∧ t.zone = s.zone ∧ t.sup.set = { s.sup.set with minOff := taken } ∧
        (s.sup.state = .waitOff → s.sup.served ≠ [] → s.sup.rr.active = false →
          (s.sup.minOffRef + taken * 10 ≤ s.tenths → t.sup.state = .calling) ∧
          (s.tenths < s.sup.minOffRef + taken * 10 → t.sup = { s.sup with set := t.sup.set } ∧ t.level = s.level))) ∧
    (∀ taken, v < 65536 → q.data = beBytes 2 v → taken = min 600 v →
      answerOf .write 17 2 q s = takenAs v taken ∧ ∃ t, exec (.burnerSetWrite .pumpOverrun q) s = .next t ∧
        DispatchFrame s t ∧ t.zone = s.zone ∧ t.level = s.level ∧
        (s.sup.overrun = some since → since + taken * 10 ≤ s.tenths →
          t.sup = { s.sup with
            set := { s.sup.set with pumpOverrun := taken }, pump := false, overrun := none, heldSet := [] }) ∧
        ((∀ from_, s.sup.overrun = some from_ → s.tenths < from_ + taken * 10) →
          t.sup = { s.sup with set := { s.sup.set with pumpOverrun := taken } })) ∧
    (∀ taken, v < 65536 → q.data = beBytes 2 v → taken = min 300 v →
      (s.sup.holdExt = some since → since + taken * 10 ≤ s.tenths →
        Answers (.burnerSetWrite .holdExtend q) 2 17 3 q (takenAs v taken) s
          { s with
            sup := { s.sup with set := { s.sup.set with holdExtend := taken }, holdExt := none }
            level := { s.level with burnerStart := false } }) ∧
      ((∀ from_, s.sup.holdExt = some from_ → s.tenths < from_ + taken * 10) →
        Answers (.burnerSetWrite .holdExtend q) 2 17 3 q (takenAs v taken) s
          { s with sup := { s.sup with set := { s.sup.set with holdExtend := taken } } })) ∧
    (∀ item idx taken u, v < 65536 → q.data = beBytes 2 v →
      (item = .retryBase ∧ idx = 0 ∧ taken = min 1800 (max 30 v) ∧
        u = { s with recov := { s.recov with set := { s.recov.set with retryBase := taken } } }) ∨
      (item = .cap ∧ idx = 1 ∧ s.recov.set.retryBase ≤ 14400 ∧ taken = min 14400 (max s.recov.set.retryBase v) ∧
        u = { s with recov := { s.recov with set := { s.recov.set with cap := taken } } }) →
      (attemptDue u = false → Answers (.recoverySetWrite item q) 2 19 idx q (takenAs v taken) s u) ∧
      (attemptDue u = true → answerOf .write 19 idx q s = takenAs v taken ∧
        ∃ t, exec (.recoverySetWrite item q) s = .next t ∧ t.recov.set = u.recov.set ∧
          (s.acct.tank = .empty → t.recov.state = .fuelWait) ∧
          (s.acct.tank ≠ .empty → t.recov.state = .hardLock ∨
            (t.recov.state = .waitRetry ∧ (attemptInHand t).isSome = true)))) ∧
    (∀ taken, v < 4294967296 → q.data = beBytes 4 v → taken = min 172800 (max 3600 v) →
      Answers (.recoverySetWrite .window q) 2 19 2 q (takenAs v taken) s
        { s with recov := { s.recov with
          set := { s.recov.set with window := taken }
          safe := { s.recov.safe with history := s.recov.safe.history.map fun h =>
            if h.kind = .automatic ∧ h.time + taken ≤ s.sec then { h with kind := .lapsed } else h } } }) ∧
    (∀ taken, v < 256 → q.data = beBytes 1 v → taken = min 5 (max 1 v) →
      ∃ (aged h : List HistEntry) (n : Nat),
        aged = s.recov.safe.history.map (fun e =>
          if e.kind = .automatic ∧ e.time + s.recov.set.window ≤ s.sec then { e with kind := .lapsed } else e) ∧
        autoCount h = min taken (autoCount aged) ∧
        h = (aged.take n).map (fun e => if e.kind = .automatic then { e with kind := .lapsed } else e) ++ aged.drop n ∧
        Answers (.recoverySetWrite .budget q) 2 19 3 q (takenAs v taken) s
          { s with recov := { s.recov with
            set := { s.recov.set with budget := taken }, safe := { s.recov.safe with history := h } } })

/-- RESERVE_SETBACK, the notice mask, the scaling settings and the filter shape are clamped and taken by their owners. A write
of RESERVE_SETBACK evaluates every stored demand part again and every zone after it. A changed scaling restarts the filter,
clears the chain, closes the open delivery TRUNCATED at the last H0, and ends the open period with its burn split as a
SKIPPED record of reason SCALING; a changed shape restarts the filter; a value unchanged changes nothing (R9, R72, R76, R77,
R99, R111, R112, R114, R118, R176). -/
def Obligations.ZoneMaskAndLevelSettings : Prop :=
  ∀ (q : Req) (v : Nat) (s : State), Settled s → MayWrite s q →
    (∀ taken, v < 256 → q.data = beBytes 1 v → taken = min 100 v →
      answerOf .write 3 8 q s = takenAs v taken ∧ ∃ t, exec (.reserveSetbackWrite q) s = .next t ∧
        t.zone = { s.zone with setback := taken, states := t.zone.states, wanting := t.zone.wanting } ∧
        PartsRerun (fun _ => True) s t ∧
        (∀ z, z < s.zone.table.length → z < s.zone.states.length → t.zone.states[z]? = some (zoneStateOf t z)) ∧
        TableFrame s t ∧ KeepsNodes s t ∧ PortsOffered s t) ∧
    (∀ mask : Word16, q.data = beBytes 2 mask.toNat →
      answerOf .write 25 1 q s = .bare (if mask.getLsbD 15 then .clamped else .ok) ∧
        ∃ t, exec (.noticeMaskWrite q) s = .next t ∧
        t.mgmt = { s.mgmt with mask := mask &&& 0x7FFF, line := t.mgmt.line, repeatFrom := t.mgmt.repeatFrom } ∧
        (t.mgmt.line = true ↔ pendingSet s &&& mask &&& 0x7FFF ≠ 0) ∧ KeepsClock s t ∧ KeepsHeat s t ∧ KeepsOil s t ∧
        t.sched = s.sched ∧ t.nv = s.nv ∧ PortsOffered s t) ∧
    (∀ item idx taken set,
      (item = .sense ∧ idx = 0 ∧ v < 2 ∧ q.data = beBytes 1 v ∧ taken = v ∧
        set = { s.level.set with sense := if v = 0 then .head else .ullage }) ∨
      (item = .zero ∧ idx = 1 ∧ v < 65536 ∧ q.data = beBytes 2 v ∧ taken = v ∧
        set = { s.level.set with zero := taken }) ∨
      (item = .gain ∧ idx = 2 ∧ v < 65536 ∧ q.data = beBytes 2 v ∧ taken = max 1 v ∧
        set = { s.level.set with gain := taken }) ∨
      (item = .tankHeight ∧ idx = 3 ∧ v < 65536 ∧ q.data = beBytes 2 v ∧ taken = max 1 v ∧
        set = { s.level.set with tankHeight := taken }) →
      (set = s.level.set → Answers (.scalingWrite item q) 2 10 idx q (takenAs v taken) s s) ∧
      (set ≠ s.level.set → answerOf .write 10 idx q s = takenAs v taken ∧
        ∃ t, exec (.scalingWrite item q) s = .next t ∧
          t.level = { s.level with set := set, box := {}, prev := none, ref := none, spikeRun := 0 } ∧
          t.vol = { s.vol with chain := [] } ∧ t.acct.period = none ∧ t.acct.lastH0 = none ∧ deliveryOpen t = false ∧
          (deliveryOpen s = false → t.acct.deliveries = s.acct.deliveries) ∧
          (∀ older d, s.acct.deliveries = older ++ [d] → d.reason = none → t.acct.deliveries = older ++
            [{ d with
               stop := s.acct.lastH0.map (·.time), endV15 := s.acct.lastH0.map (·.v15)
               delivered := s.acct.lastH0.map (fun h => (h.v15 : Int) - d.startV15), reason := some .truncated }]) ∧
          (s.acct.period = none → t.acct.periods = s.acct.periods ∧ t.acct.accum = s.acct.accum ∧ t.sup = s.sup) ∧
          (∀ p credit residue, s.acct.period = some p → partialCredit s credit residue →
            t.acct.accum = s.acct.accum + credit ∧ t.acct.residue = residue ∧
            t.acct.periods = logAppend 4 s.acct.periods
              { start := p.start, stop := s.sec, startV15 := p.startV15, endV15 := none, burn := p.burn + credit,
                drop := none, discrepancy := none, outcome := .skipped, skip := some .scaling } ∧
            t.sup.rr.start = if s.sup.rr.active then s.tenths else s.sup.rr.start) ∧
          t.acct.leak = s.acct.leak ∧ t.acct.tank = s.acct.tank ∧ t.acct.set = s.acct.set ∧ t.sup = { s.sup with rr := t.sup.rr } ∧
          KeepsClock s t ∧ t.relay = s.relay ∧ t.zone = s.zone ∧ t.recov = s.recov ∧ t.sched = s.sched ∧
          t.mgmt = s.mgmt ∧ t.nv = s.nv ∧ PortsOffered s t)) ∧
    (∀ item idx taken set, v < 256 → q.data = beBytes 1 v →
      (item = .windowN ∧ idx = 5 ∧ set = { s.level.set with windowN := taken } ∧
        taken = if 32 ≤ v then 32 else if 16 ≤ v then 16 else if 8 ≤ v then 8 else 4) ∨
      (item = .order ∧ idx = 6 ∧ set = { s.level.set with order := taken } ∧ taken = min 2 (max 1 v)) →
      (set = s.level.set → Answers (.filterShapeWrite item q) 2 10 idx q (takenAs v taken) s s) ∧
      (set ≠ s.level.set → Answers (.filterShapeWrite item q) 2 10 idx q (takenAs v taken) s
        { s with level := { s.level with set := set, box := {}, prev := none, ref := none, spikeRun := 0 } }))

/-- An enrolment slot, a zone entry and a poll-list slot are written whole after their checks: the address of a slot is used
nowhere else, and a zone names only a VALVE entry that no other zone names. An empty write empties a slot. A zone write
evaluates the stored demand parts of its zone again, and a room unit moved to another zone has its part evaluated against
that one. A write to an occupied poll-list slot with the entry's own address and role changes its interval alone, and a
changed interval counts its due time from the entry's last exchange; with another address or role it removes the entry,
ending its exchange, and makes a new one, refused while a zone names the entry (R1, R2, R9, R19, R20, R147, R158, R159, R162,
R172). That addresses are clamped to 1 to 125 before the checks, that presence bits without a field and the bytes of absent
fields are ignored, and that a ROOM_UNIT alone has a zone is the model's choice (log 25), as is that such a removal ends no
relay exchange (log 21) and that an entry made due is chosen in the same command (log 14). -/
def Obligations.TableWritesAreTaken : Prop :=
  ∀ (idx : Byte) (slot : Nat) (q : Req) (s : State), Settled s → MayWrite s q → slot = idx.toNat →
    (slot < 16 → q.data = [] →
      answerOf .write 2 idx q s = .bare .ok ∧ ∃ t, exec (.enrolWrite idx q) s = .next t ∧
        t.zone.enrol = s.zone.enrol.set slot none ∧ t.zone.table = s.zone.table ∧ TableFrame s t ∧ KeepsNodes s t ∧
        PortsOffered s t ∧
        ∀ e z n, slotGet s.zone.enrol slot = some e → e.role = .roomUnit z → nodeOf t e.addr = some n → n.part = none) ∧
    (∀ (p a r zone : Byte) (addr : Nat) (role : Role), slot < 16 → q.data = [p, a, r, zone] →
      addr = min 125 (max 1 a.toNat) →
      (r = 0 ∧ p.getLsbD 0 = true ∧ role = .roomUnit (min 7 zone.toNat)) ∨
        (r = 1 ∧ p.getLsbD 0 = false ∧ role = .service) ∨ (r = 2 ∧ p.getLsbD 0 = false ∧ role = .display) →
      ((∃ i e, i ≠ slot ∧ slotGet s.zone.enrol i = some e ∧ e.addr = addr) ∨ inPollList s addr = true →
        answerOf .write 2 idx q s = .bare .badValue) ∧
      ((∀ i e, i ≠ slot → slotGet s.zone.enrol i = some e → e.addr ≠ addr) → inPollList s addr = false →
        answerOf .write 2 idx q s =
          .bare (if addr = a.toNat ∧ (r = 0 → zone.toNat ≤ 7) then .ok else .clamped) ∧
        ∃ t, exec (.enrolWrite idx q) s = .next t ∧
          t.zone.enrol = s.zone.enrol.set slot (some { addr := addr, role := role }) ∧ t.zone.table = s.zone.table ∧
          TableFrame s t ∧ KeepsNodes s t ∧ PortsOffered s t ∧
          (∀ o z z' ze n p, slotGet s.zone.enrol slot = some o → o = { addr := addr, role := .roomUnit z } →
            role = .roomUnit z' → z ≠ z' → slot < s.zone.enrol.length → s.zone.table[z']? = some ze →
            nodeOf s addr = some n → n.part = some p →
            ∃ q', nodeOf t addr = some { n with part := some q' } ∧ Rerun s.acct.tank s.zone.setback ze p q') ∧
          (∀ z, slotGet s.zone.enrol slot = none → slot < s.zone.enrol.length → role = .roomUnit z →
            z < s.zone.states.length → t.zone.states[z]? = some (zoneStateOf t z)))) ∧
    (∀ (p lead frost diff duty valve : Byte) (cls : ZoneClass) (mode : ZoneMode) (sp ce : Nat) (old given taken : ZoneEntry),
      slot < 8 → s.zone.table[slot]? = some old → sp < 65536 → ce < 65536 →
      q.data = [p, cls.code, mode.code, lead] ++ beBytes 2 sp ++ beBytes 2 ce ++ [frost, diff, duty, valve] →
      given = { cls := cls, mode := mode, lead := if p.getLsbD 0 then some lead.toNat else none, setpoint := sp,
                ceiling := ce, frost := frost.toNat, diff := diff.toNat, duty := duty.toNat,
                valve := if p.getLsbD 1 then some valve.toNat else none } →
      taken = { cls := cls, mode := mode, lead := given.lead.map (fun a => min 125 (max 1 a))
                setpoint := min 300 (max 50 sp), ceiling := min 300 (max 50 ce), frost := min 100 (max 30 frost.toNat)
                diff := min 30 (max 2 diff.toNat), duty := min 60 duty.toNat
                valve := given.valve.map (fun a => min 125 (max 1 a)) } →
      ((∃ a, taken.valve = some a ∧
          (valveAt s a = none ∨ ∃ y ze, y ≠ slot ∧ s.zone.table[y]? = some ze ∧ ze.valve = some a)) →
        answerOf .write 3 idx q s = .bare .badValue) ∧
      ((∀ a, taken.valve = some a →
          valveAt s a ≠ none ∧ ∀ y ze, y ≠ slot → s.zone.table[y]? = some ze → ze.valve ≠ some a) →
        answerOf .write 3 idx q s = .bare (if taken = given then .ok else .clamped) ∧
        ∃ t, exec (.zoneWrite idx q) s = .next t ∧ t.zone.table = s.zone.table.set slot taken ∧
          t.zone.enrol = s.zone.enrol ∧ PartsRerun (fun z => z = slot) s t ∧
          (slot < s.zone.states.length → t.zone.states[slot]? = some (zoneStateOf t slot)) ∧
          TableFrame s t ∧ KeepsNodes s t ∧ PortsOffered s t)) ∧
    (∀ (a : Byte) (r v addr interval : Nat), slot < 12 → slot < s.sched.slots.length → r < 2 → v < 65536 →
      q.data = [a, BitVec.ofNat 8 r] ++ beBytes 2 v → addr = min 125 (max 1 a.toNat) → interval = min 600 (max 2 v) →
      slotGet s.sched.slots slot = none →
      ((∃ i e, i ≠ slot ∧ slotGet s.sched.slots i = some e ∧ (e.addr = addr ∨ (r = 0 ∧ e.isGauge = true))) ∨
          enrolOf s addr ≠ none → answerOf .write 6 idx q s = .bare .badValue) ∧
      ((∀ i e, i ≠ slot → slotGet s.sched.slots i = some e → e.addr ≠ addr ∧ ¬(r = 0 ∧ e.isGauge = true)) →
        enrolOf s addr = none →
        answerOf .write 6 idx q s = .bare (if addr = a.toNat ∧ interval = v then .ok else .clamped) ∧
        ∃ t e, exec (.pollWrite idx q) s = .next t ∧ slotGet t.sched.slots slot = some e ∧
          NewEntry s addr interval r e ∧
          (∀ i, i ≠ slot →
            (slotGet t.sched.slots i).map nodeSeen = (slotGet s.sched.slots i).map nodeSeen) ∧
          t.level = { s.level with staleFrom := if r = 0 then some s.sec else s.level.staleFrom } ∧
          KeepsClock s t ∧ KeepsHeat s t ∧ t.vol = s.vol ∧ t.acct = s.acct ∧ KeepsStores s t ∧ PortsOffered s t)) ∧
    (∀ (a : Byte) (r v addr interval : Nat) (e : PollEntry) (same : Prop), slot < 12 → r < 2 → v < 65536 →
      q.data = [a, BitVec.ofNat 8 r] ++ beBytes 2 v → addr = min 125 (max 1 a.toNat) → interval = min 600 (max 2 v) →
      slotGet s.sched.slots slot = some e → (same ↔ addr = e.addr ∧ (r = 0 ↔ e.isGauge = true)) →
      ((∃ i e', i ≠ slot ∧ slotGet s.sched.slots i = some e' ∧ (e'.addr = addr ∨ (r = 0 ∧ e'.isGauge = true))) ∨
          enrolOf s addr ≠ none ∨ (e.isGauge = false ∧ (∃ z ∈ s.zone.table, z.valve = some e.addr) ∧ ¬ same) →
        answerOf .write 6 idx q s = .bare .badValue) ∧
      ((∀ i e', i ≠ slot → slotGet s.sched.slots i = some e' → e'.addr ≠ addr ∧ ¬(r = 0 ∧ e'.isGauge = true)) →
        enrolOf s addr = none → (e.isGauge = false → (∃ z ∈ s.zone.table, z.valve = some e.addr) → same) →
        answerOf .write 6 idx q s = .bare (if addr = a.toNat ∧ interval = v then .ok else .clamped) ∧
        ∃ t e', exec (.pollWrite idx q) s = .next t ∧ slotGet t.sched.slots slot = some e' ∧
          (same →
            (∃ start base, e' = { e with
              interval := interval, start := start, base := base
              due := if interval = e.interval then e.due
                else e.start.getD s.tenths + selectedInterval e interval }) ∧
            t.level = s.level ∧ PortsOffered s t ∧ (∀ x, s.sched.exch = some x → t.sched.exch = some x)) ∧
          (¬ same →
            NewEntry s addr interval r e' ∧
            t.level = { s.level with
              staleFrom := if r = 0 then some s.sec else if e.isGauge then none else s.level.staleFrom } ∧
            (∀ x, t.sched.exch = some x → x.kind.slot? = some slot →
              x.start = s.tenths ∧ x.attempt = 1 ∧ x.window = none) ∧
            (∀ x, s.sched.exch = some x → x.kind.slot? ≠ some slot → t.sched.exch = some x)) ∧
          (e'.due ≤ s.tenths → s.sched.exch = none → s.portP.mode = .active → s.portP.queue.length < 8 →
            2 ≤ s.pool.free → s.pool.held = true ∨ 8 < s.pool.free → t.sched.exch ≠ none) ∧
          (∀ i, i ≠ slot → (slotGet t.sched.slots i).map nodeSeen = (slotGet s.sched.slots i).map nodeSeen) ∧
          KeepsClock s t ∧ KeepsHeat s t ∧ t.vol = s.vol ∧ t.acct = s.acct ∧ KeepsStores s t ∧
          PortOffered s.portH t.portH ∧ PortOffered s.portY t.portY)) ∧
    (∀ e, slot < 12 → q.data = [] → slotGet s.sched.slots slot = some e →
      e.isGauge = false → (∃ z ∈ s.zone.table, z.valve = some e.addr) →
      answerOf .write 6 idx q s = .bare .badValue) ∧
    (∀ e, slot < 12 → q.data = [] → slotGet s.sched.slots slot = some e →
      (e.isGauge = false → ∀ z ∈ s.zone.table, z.valve ≠ some e.addr) →
      answerOf .write 6 idx q s = .bare .ok ∧ ∃ t, exec (.pollWrite idx q) s = .next t ∧
        slotGet t.sched.slots slot = none ∧ (∀ x, t.sched.exch = some x → x.kind.slot? ≠ some slot) ∧
        (∀ i, i ≠ slot → (slotGet t.sched.slots i).map nodeSeen = (slotGet s.sched.slots i).map nodeSeen) ∧
        t.level = { s.level with staleFrom := if e.isGauge then none else s.level.staleFrom } ∧
        KeepsClock s t ∧ KeepsHeat s t ∧ t.vol = s.vol ∧ t.acct = s.acct ∧ KeepsStores s t)

/-- A STORE is in progress from its acceptance: it takes the whole stored content when the memory is free, at once or later,
and its completion stores that content and answers OK, or answers FAILED and raises STORE_FAULT, the store then holding what
the free value says (R174, R175; log 7). Meanwhile STORE is BUSY. A safety write that waits starts when the STORE ends,
before any later STORE, and a STORE that waits starts when nothing else holds the memory or waits for it (R65, R175; log 10).
-/
def Obligations.StoreRunsItsCourse : Prop :=
  ∀ (q : Req) (content : StoreImage) (s : State), Settled s →
    content =
      { enrol := s.zone.enrol, table := s.zone.table, setback := s.zone.setback
        poll := s.sched.slots.map (Option.map fun e => { addr := e.addr, isValve := !e.isGauge, interval := e.interval })
        bank := if s.vol.activeB then s.vol.bankB else s.vol.bankA
        level := s.level.set, coef := s.vol.coef, acct := s.acct.set, burner := s.sup.set, recovery := s.recov.set
        relay := s.relay.set, mask := s.mgmt.mask } →
    (isService s q.src.toNat = true → q.data = [] →
      (s.mgmt.job = .none → s.mgmt.restart = false →
        (s.nv.writing = none → s.nv.waiting = false →
          exec (.store 0 q) s =
            .next { s with mgmt := { s.mgmt with job := .writing q.room q.src 0 content } }) ∧
        (s.nv.writing ≠ none →
          exec (.store 0 q) s = .next { s with mgmt := { s.mgmt with job := .waiting q.room q.src 0 } }) ∧
        (s.nv.writing = none → s.nv.waiting = true → ∃ t, exec (.store 0 q) s = .next t ∧
          t.mgmt.job = .waiting q.room q.src 0 ∧
          t.nv = { s.nv with writing := some s.recov.safe, waiting := false })) ∧
      (s.mgmt.job ≠ .none ∨ s.mgmt.restart = true → answerOf .action 2 0 q s = .bare .busy)) ∧
    (∀ (room : Room) (src idx : Byte) (t : State),
      t = { s with mgmt := { s.mgmt with job := .writing room src idx content } } →
      s.mgmt.job = .waiting room src idx → s.nv.writing = none → s.nv.waiting = false →
      startNextWrite s = t ∧ exec .storeWriteStart s = .next t) ∧
    (∀ room src idx old, s.mgmt.job = .writing room src idx old →
      exec (.storeComplete true) s = .next (startNextWrite (respond room src 3 2 idx (.bare .ok)
        { s with nv := { s.nv with store := some old }, mgmt := { s.mgmt with job := .none } })) ∧
      ∃ t, exec (.storeComplete false) s = .next t ∧
        (t.nv.store = s.nv.store ∨ t.nv.store = some old ∨ t.nv.store = none) ∧
        (s.nv.waiting = false ∨ s.nv.writing ≠ none →
          t.nv = { s.nv with store := t.nv.store } ∧ t.recov = s.recov) ∧
        (s.nv.waiting = true → s.nv.writing = none →
          t.nv = { s.nv with store := t.nv.store, writing := some s.recov.safe, waiting := false } ∧
          t.recov = { s.recov with episode := s.recov.episode.map fun e =>
            { e with attempt := e.attempt.map fun a => { a with carried := true } } }) ∧
        t.freeIdx = s.freeIdx + 1 ∧
        t.mgmt = { s.mgmt with
          events := s.mgmt.events ||| 0x0020, job := .none, line := t.mgmt.line, repeatFrom := t.mgmt.repeatFrom } ∧
        (CanQueue s (roomPort room) → ∃ its, (t.port (roomPort room)).queue = (s.port (roomPort room)).queue ++
          [{ tel := composeTel src 0x41 [8, 3, 2, idx], mark := .plain }] ++ its) ∧
        t.now = s.now ∧ t.pending = s.pending ∧ t.relay = s.relay ∧ t.zone = s.zone ∧ t.sup = s.sup ∧ KeepsOil s t ∧
        t.sched = s.sched ∧ PortsOffered s t)

/-- Each action of a service source but STORE has its owner's effect: a swap exchanges the banks and clears the chain, a
clear removes event kinds, a service pulse starts, a hard lock is cleared, the SERVICE hold is set or ended, the level is
forgotten, and a RESTART waits (R62, R64, R82, R85, R90, R91, R112, R173, R176). That a clear which enters PROVING keeps k,
and forgives restored entries of the open episode's number, is the model's choice (log 27), as is that the reset waits for
the response to the first RESTART alone (log 22). -/
def Obligations.ActionsTakeEffect : Prop :=
  ∀ (q : Req) (s : State), Settled s → isService s q.src.toNat = true →
    (q.data = [] → storeInProgress s = false →
      ((stagedBank s.vol).n < 2 → answerOf .action 1 0 q s =
        .now .refused [BitVec.ofNat 8 (stagedBank s.vol).n, 0] .plain) ∧
      (strapFault (stagedBank s.vol) = none →
        answerOf .action 1 0 q s = .bare .ok ∧ ∃ t, exec (.swapStrap 0 q) s = .next t ∧
          t.vol = { s.vol with activeB := !s.vol.activeB, chain := [], record := t.vol.record } ∧
          (s.level.depth = none → t.vol.record = s.vol.record ∧ t.acct.tank = s.acct.tank) ∧
          (∀ d, s.level.depth = some d → t.vol.record =
            some (computeRecord { s.vol with activeB := !s.vol.activeB } d s.level.temp s.level.time)) ∧
          t.acct.period = none ∧ t.acct.lastH0 = none ∧ deliveryOpen t = false ∧
          t.level = { s.level with burnerStart := t.level.burnerStart } ∧ KeepsClock s t ∧ KeepsStores s t ∧
          KeepsNodes s t ∧ PortsOffered s t)) ∧
    (∀ named : Word16, q.data = beBytes 2 named.toNat →
      ∃ t, exec (.clearNotice 0 q) s = .next t ∧
        t.mgmt = { s.mgmt with
          events := s.mgmt.events &&& ~~~(named &&& 0x7FFF), line := t.mgmt.line, repeatFrom := t.mgmt.repeatFrom } ∧
        answerOf .action 3 0 q s = .now .ok (beBytes 2 (named &&& 0x7FFF &&& pendingSet t).toNat) .plain ∧
        KeepsClock s t ∧ KeepsHeat s t ∧ KeepsOil s t ∧ t.sched = s.sched ∧ t.nv = s.nv ∧ PortsOffered s t) ∧
    (∀ (e : Episode) (h : List HistEntry) (ret : ReturnState), q.data = [] → s.recov.episode = some e →
      (s.recov.state = .waitRetry ∧ e.attempt = none ∧ ret = .waitRetry) ∨
        (s.recov.state = .fuelWait ∧ ret = .fuelWait) →
      h = (if s.recov.safe.history.length < 8 then s.recov.safe.history else evictEntry s.recov.safe.history) ++
        [{ time := s.sec, kind := .service, episode := e.number, outcome := .pending }] →
      Answers (.resetBurner 0 q) 3 4 0 q (.bare .ok) s
        { s with recov := { s.recov with
          state := .pulsing, pulseEnd := some (s.tenths + s.recov.set.resetWidth)
          safe := { s.recov.safe with history := h }
          episode := some { e with
            ret := some ret, attempt := some { automatic := false, pos := h.length - 1, carried := false } } } }) ∧
    (∀ e : Episode, q.data = [] → s.recov.state = .hardLock → s.recov.episode = some e →
      answerOf .action 5 0 q s = .bare .ok ∧ ∃ t e', exec (.clearHardLock 0 q) s = .next t ∧
        t.recov.episode = some e' ∧ e'.number = e.number ∧ e'.cause = e.cause ∧
        (s.sup.lockout.value = true → t.recov.state = .waitRetry ∧ e'.k = 1 ∧ e'.ref = some s.tenths ∧ t.sup = s.sup) ∧
        (s.sup.lockout.value = false → t.recov.state = .proving ∧ e'.k = e.k ∧ e'.ref = none ∧ t.sup.state ≠ .locked) ∧
        t.recov.safe = { s.recov.safe with
          flag := false
          history := s.recov.safe.history.map fun h =>
            if h.kind = .automatic ∧ h.episode = e.number then { h with kind := .forgiven } else h } ∧
        (memoryIdle s = true → s.nv.waiting = false →
          t.nv = { s.nv with writing := some t.recov.safe, waiting := false }) ∧
        (memoryIdle s = false ∨ s.nv.waiting = true → t.nv = { s.nv with waiting := true }) ∧
        KeepsClock s t ∧ t.relay = s.relay ∧ t.zone = s.zone ∧ t.vol = s.vol ∧ t.acct = s.acct ∧ KeepsNodes s t ∧
        PortsOffered s t) ∧
    (q.data = [] →
      Answers (.holdTank 1 q) 3 6 1 q (.bare .ok) s { s with level := { s.level with serviceFrom := some s.sec } } ∧
      Answers (.holdTank 0 q) 3 6 0 q (.bare .ok) s { s with level := { s.level with serviceFrom := none } } ∧
      (storeInProgress s = false →
        Answers (.restart 0 q) 3 8 0 q (.now .ok [] (if s.mgmt.restart then .plain else .restart)) s
          { s with mgmt := { s.mgmt with restart := true } }) ∧
      (answerOf .action 7 0 q s = .bare .ok ∧ ∃ t, exec (.forgetLevel 0 q) s = .next t ∧
        t.level = { s.level with
          depth := none, temp := none, time := 0, status := .none, faultRun := 0, box := {}, prev := none, ref := none
          spikeRun := 0, staleFrom := if hasGauge s then some s.sec else none, burnerStart := t.level.burnerStart } ∧
        t.vol = { s.vol with record := none, chain := [] } ∧ t.acct.tank = .unknown ∧ t.acct.period = none ∧
        t.acct.lastH0 = none ∧ deliveryOpen t = false ∧ KeepsClock s t ∧ KeepsStores s t ∧ KeepsNodes s t ∧
        PortsOffered s t))

/-! ### What every step keeps -/

/-- Whatever the command, the supervisor stays in step with the recovery unit, the tank state, the zone unit and the valves;
so CALL is asserted only while the recovery state is CLOSED or PROVING, the tank is not EMPTY, and a path exists (R31). -/
def Obligations.StepKeepsCallSafe : Prop :=
  (∀ s t : State, SupervisorSound s → step s = .next t → SupervisorSound t) ∧
  ∀ s : State, SupervisorSound s → CallSafe s

/-- Whatever the command, each of the 32 buffers is in exactly one place, no queue or relay list passes its capacity, and a
port that sends has a head and assembles nothing (R131, R137, R154). -/
def Obligations.StepKeepsTheBuffers : Prop :=
  ∀ s t : State, BuffersSound s → step s = .next t → BuffersSound t

/-- Whatever the command: no arbitration is left owing and the NOTICE line is asserted exactly while the enabled set is not
empty (R177; log 13, log 14); AUTOMATIC entries never outnumber BUDGET (R54); the episode record is empty exactly in CLOSED
(R44); the hard-lock flag is set exactly in HARD_LOCK (R61); no write of non-volatile memory waits while the memory is idle
(R65, R175; log 10); at most the newest of eight delivery records is open (R117); and the residue stays below one decilitre's
worth (R108). Once set, the flag is cleared, but for a reset, only by CLEAR-HARD-LOCK of a service source or with the opening
of a delivery record, and then a safety write of the clear record is in progress or waits (R61 to R63). -/
def Obligations.StepKeepsTheRecords : Prop :=
  (∀ s t : State, step s = .next t →
    (Settled s → Settled t) ∧ (BudgetKept s → BudgetKept t) ∧ (EpisodeSound s → EpisodeSound t) ∧
    (HardLockSound s → HardLockSound t) ∧ (MemorySound s → MemorySound t) ∧ (DeliveriesSound s → DeliveriesSound t) ∧
    (ResidueSound s → ResidueSound t)) ∧
  ∀ (c : Instr) (s t : State), exec c s = .next t → s.recov.safe.flag = true → t.recov.safe.flag = false →
    TakesReset c s ∨
      (ClearsTheLock c s t ∧ (t.nv.waiting = true ∨ t.nv.writing = some t.recov.safe))

/-- The state after reset satisfies what every step keeps. The stores, the raw inputs and the lines of that state are the
model's choice (log 4, log 5). -/
def Obligations.ResetIsSound : Prop :=
  SupervisorSound State.reset ∧ BuffersSound State.reset ∧ Settled State.reset ∧ BudgetKept State.reset ∧
    EpisodeSound State.reset ∧ HardLockSound State.reset ∧ MemorySound State.reset ∧ DeliveriesSound State.reset ∧
    ResidueSound State.reset ∧ PulseSafe State.reset
end

