-- ==== Sys2Proof/Laws/State.lean ====
section
/-! SUPPORT. One lemma per field per setter of State, true by rfl and tagged simp, and the same for the ports. -/

namespace Sys2Proof.Machine

@[simp] theorem State.setNow_now (s : State) (v : Nat) : (s.setNow v).now = v := rfl
@[simp] theorem State.setNow_portH (s : State) (v : Nat) : (s.setNow v).portH = s.portH := rfl
@[simp] theorem State.setNow_portY (s : State) (v : Nat) : (s.setNow v).portY = s.portY := rfl
@[simp] theorem State.setNow_portP (s : State) (v : Nat) : (s.setNow v).portP = s.portP := rfl
@[simp] theorem State.setNow_pool (s : State) (v : Nat) : (s.setNow v).pool = s.pool := rfl
@[simp] theorem State.setNow_relay (s : State) (v : Nat) : (s.setNow v).relay = s.relay := rfl
@[simp] theorem State.setNow_zone (s : State) (v : Nat) : (s.setNow v).zone = s.zone := rfl
@[simp] theorem State.setNow_sup (s : State) (v : Nat) : (s.setNow v).sup = s.sup := rfl
@[simp] theorem State.setNow_recov (s : State) (v : Nat) : (s.setNow v).recov = s.recov := rfl
@[simp] theorem State.setNow_sched (s : State) (v : Nat) : (s.setNow v).sched = s.sched := rfl
@[simp] theorem State.setNow_level (s : State) (v : Nat) : (s.setNow v).level = s.level := rfl
@[simp] theorem State.setNow_vol (s : State) (v : Nat) : (s.setNow v).vol = s.vol := rfl
@[simp] theorem State.setNow_acct (s : State) (v : Nat) : (s.setNow v).acct = s.acct := rfl
@[simp] theorem State.setNow_mgmt (s : State) (v : Nat) : (s.setNow v).mgmt = s.mgmt := rfl
@[simp] theorem State.setNow_nv (s : State) (v : Nat) : (s.setNow v).nv = s.nv := rfl
@[simp] theorem State.setNow_freeIdx (s : State) (v : Nat) : (s.setNow v).freeIdx = s.freeIdx := rfl
@[simp] theorem State.setNow_pending (s : State) (v : Nat) : (s.setNow v).pending = s.pending := rfl
@[simp] theorem State.setPortH_now (s : State) (v : PortState) : (s.setPortH v).now = s.now := rfl
@[simp] theorem State.setPortH_portH (s : State) (v : PortState) : (s.setPortH v).portH = v := rfl
@[simp] theorem State.setPortH_portY (s : State) (v : PortState) : (s.setPortH v).portY = s.portY := rfl
@[simp] theorem State.setPortH_portP (s : State) (v : PortState) : (s.setPortH v).portP = s.portP := rfl
@[simp] theorem State.setPortH_pool (s : State) (v : PortState) : (s.setPortH v).pool = s.pool := rfl
@[simp] theorem State.setPortH_relay (s : State) (v : PortState) : (s.setPortH v).relay = s.relay := rfl
@[simp] theorem State.setPortH_zone (s : State) (v : PortState) : (s.setPortH v).zone = s.zone := rfl
@[simp] theorem State.setPortH_sup (s : State) (v : PortState) : (s.setPortH v).sup = s.sup := rfl
@[simp] theorem State.setPortH_recov (s : State) (v : PortState) : (s.setPortH v).recov = s.recov := rfl
@[simp] theorem State.setPortH_sched (s : State) (v : PortState) : (s.setPortH v).sched = s.sched := rfl
@[simp] theorem State.setPortH_level (s : State) (v : PortState) : (s.setPortH v).level = s.level := rfl
@[simp] theorem State.setPortH_vol (s : State) (v : PortState) : (s.setPortH v).vol = s.vol := rfl
@[simp] theorem State.setPortH_acct (s : State) (v : PortState) : (s.setPortH v).acct = s.acct := rfl
@[simp] theorem State.setPortH_mgmt (s : State) (v : PortState) : (s.setPortH v).mgmt = s.mgmt := rfl
@[simp] theorem State.setPortH_nv (s : State) (v : PortState) : (s.setPortH v).nv = s.nv := rfl
@[simp] theorem State.setPortH_freeIdx (s : State) (v : PortState) : (s.setPortH v).freeIdx = s.freeIdx := rfl
@[simp] theorem State.setPortH_pending (s : State) (v : PortState) : (s.setPortH v).pending = s.pending := rfl
@[simp] theorem State.setPortY_now (s : State) (v : PortState) : (s.setPortY v).now = s.now := rfl
@[simp] theorem State.setPortY_portH (s : State) (v : PortState) : (s.setPortY v).portH = s.portH := rfl
@[simp] theorem State.setPortY_portY (s : State) (v : PortState) : (s.setPortY v).portY = v := rfl
@[simp] theorem State.setPortY_portP (s : State) (v : PortState) : (s.setPortY v).portP = s.portP := rfl
@[simp] theorem State.setPortY_pool (s : State) (v : PortState) : (s.setPortY v).pool = s.pool := rfl
@[simp] theorem State.setPortY_relay (s : State) (v : PortState) : (s.setPortY v).relay = s.relay := rfl
@[simp] theorem State.setPortY_zone (s : State) (v : PortState) : (s.setPortY v).zone = s.zone := rfl
@[simp] theorem State.setPortY_sup (s : State) (v : PortState) : (s.setPortY v).sup = s.sup := rfl
@[simp] theorem State.setPortY_recov (s : State) (v : PortState) : (s.setPortY v).recov = s.recov := rfl
@[simp] theorem State.setPortY_sched (s : State) (v : PortState) : (s.setPortY v).sched = s.sched := rfl
@[simp] theorem State.setPortY_level (s : State) (v : PortState) : (s.setPortY v).level = s.level := rfl
@[simp] theorem State.setPortY_vol (s : State) (v : PortState) : (s.setPortY v).vol = s.vol := rfl
@[simp] theorem State.setPortY_acct (s : State) (v : PortState) : (s.setPortY v).acct = s.acct := rfl
@[simp] theorem State.setPortY_mgmt (s : State) (v : PortState) : (s.setPortY v).mgmt = s.mgmt := rfl
@[simp] theorem State.setPortY_nv (s : State) (v : PortState) : (s.setPortY v).nv = s.nv := rfl
@[simp] theorem State.setPortY_freeIdx (s : State) (v : PortState) : (s.setPortY v).freeIdx = s.freeIdx := rfl
@[simp] theorem State.setPortY_pending (s : State) (v : PortState) : (s.setPortY v).pending = s.pending := rfl
@[simp] theorem State.setPortP_now (s : State) (v : PortState) : (s.setPortP v).now = s.now := rfl
@[simp] theorem State.setPortP_portH (s : State) (v : PortState) : (s.setPortP v).portH = s.portH := rfl
@[simp] theorem State.setPortP_portY (s : State) (v : PortState) : (s.setPortP v).portY = s.portY := rfl
@[simp] theorem State.setPortP_portP (s : State) (v : PortState) : (s.setPortP v).portP = v := rfl
@[simp] theorem State.setPortP_pool (s : State) (v : PortState) : (s.setPortP v).pool = s.pool := rfl
@[simp] theorem State.setPortP_relay (s : State) (v : PortState) : (s.setPortP v).relay = s.relay := rfl
@[simp] theorem State.setPortP_zone (s : State) (v : PortState) : (s.setPortP v).zone = s.zone := rfl
@[simp] theorem State.setPortP_sup (s : State) (v : PortState) : (s.setPortP v).sup = s.sup := rfl
@[simp] theorem State.setPortP_recov (s : State) (v : PortState) : (s.setPortP v).recov = s.recov := rfl
@[simp] theorem State.setPortP_sched (s : State) (v : PortState) : (s.setPortP v).sched = s.sched := rfl
@[simp] theorem State.setPortP_level (s : State) (v : PortState) : (s.setPortP v).level = s.level := rfl
@[simp] theorem State.setPortP_vol (s : State) (v : PortState) : (s.setPortP v).vol = s.vol := rfl
@[simp] theorem State.setPortP_acct (s : State) (v : PortState) : (s.setPortP v).acct = s.acct := rfl
@[simp] theorem State.setPortP_mgmt (s : State) (v : PortState) : (s.setPortP v).mgmt = s.mgmt := rfl
@[simp] theorem State.setPortP_nv (s : State) (v : PortState) : (s.setPortP v).nv = s.nv := rfl
@[simp] theorem State.setPortP_freeIdx (s : State) (v : PortState) : (s.setPortP v).freeIdx = s.freeIdx := rfl
@[simp] theorem State.setPortP_pending (s : State) (v : PortState) : (s.setPortP v).pending = s.pending := rfl
@[simp] theorem State.setPool_now (s : State) (v : Pool) : (s.setPool v).now = s.now := rfl
@[simp] theorem State.setPool_portH (s : State) (v : Pool) : (s.setPool v).portH = s.portH := rfl
@[simp] theorem State.setPool_portY (s : State) (v : Pool) : (s.setPool v).portY = s.portY := rfl
@[simp] theorem State.setPool_portP (s : State) (v : Pool) : (s.setPool v).portP = s.portP := rfl
@[simp] theorem State.setPool_pool (s : State) (v : Pool) : (s.setPool v).pool = v := rfl
@[simp] theorem State.setPool_relay (s : State) (v : Pool) : (s.setPool v).relay = s.relay := rfl
@[simp] theorem State.setPool_zone (s : State) (v : Pool) : (s.setPool v).zone = s.zone := rfl
@[simp] theorem State.setPool_sup (s : State) (v : Pool) : (s.setPool v).sup = s.sup := rfl
@[simp] theorem State.setPool_recov (s : State) (v : Pool) : (s.setPool v).recov = s.recov := rfl
@[simp] theorem State.setPool_sched (s : State) (v : Pool) : (s.setPool v).sched = s.sched := rfl
@[simp] theorem State.setPool_level (s : State) (v : Pool) : (s.setPool v).level = s.level := rfl
@[simp] theorem State.setPool_vol (s : State) (v : Pool) : (s.setPool v).vol = s.vol := rfl
@[simp] theorem State.setPool_acct (s : State) (v : Pool) : (s.setPool v).acct = s.acct := rfl
@[simp] theorem State.setPool_mgmt (s : State) (v : Pool) : (s.setPool v).mgmt = s.mgmt := rfl
@[simp] theorem State.setPool_nv (s : State) (v : Pool) : (s.setPool v).nv = s.nv := rfl
@[simp] theorem State.setPool_freeIdx (s : State) (v : Pool) : (s.setPool v).freeIdx = s.freeIdx := rfl
@[simp] theorem State.setPool_pending (s : State) (v : Pool) : (s.setPool v).pending = s.pending := rfl
@[simp] theorem State.setRelay_now (s : State) (v : Relay) : (s.setRelay v).now = s.now := rfl
@[simp] theorem State.setRelay_portH (s : State) (v : Relay) : (s.setRelay v).portH = s.portH := rfl
@[simp] theorem State.setRelay_portY (s : State) (v : Relay) : (s.setRelay v).portY = s.portY := rfl
@[simp] theorem State.setRelay_portP (s : State) (v : Relay) : (s.setRelay v).portP = s.portP := rfl
@[simp] theorem State.setRelay_pool (s : State) (v : Relay) : (s.setRelay v).pool = s.pool := rfl
@[simp] theorem State.setRelay_relay (s : State) (v : Relay) : (s.setRelay v).relay = v := rfl
@[simp] theorem State.setRelay_zone (s : State) (v : Relay) : (s.setRelay v).zone = s.zone := rfl
@[simp] theorem State.setRelay_sup (s : State) (v : Relay) : (s.setRelay v).sup = s.sup := rfl
@[simp] theorem State.setRelay_recov (s : State) (v : Relay) : (s.setRelay v).recov = s.recov := rfl
@[simp] theorem State.setRelay_sched (s : State) (v : Relay) : (s.setRelay v).sched = s.sched := rfl
@[simp] theorem State.setRelay_level (s : State) (v : Relay) : (s.setRelay v).level = s.level := rfl
@[simp] theorem State.setRelay_vol (s : State) (v : Relay) : (s.setRelay v).vol = s.vol := rfl
@[simp] theorem State.setRelay_acct (s : State) (v : Relay) : (s.setRelay v).acct = s.acct := rfl
@[simp] theorem State.setRelay_mgmt (s : State) (v : Relay) : (s.setRelay v).mgmt = s.mgmt := rfl
@[simp] theorem State.setRelay_nv (s : State) (v : Relay) : (s.setRelay v).nv = s.nv := rfl
@[simp] theorem State.setRelay_freeIdx (s : State) (v : Relay) : (s.setRelay v).freeIdx = s.freeIdx := rfl
@[simp] theorem State.setRelay_pending (s : State) (v : Relay) : (s.setRelay v).pending = s.pending := rfl
@[simp] theorem State.setZone_now (s : State) (v : ZoneUnit) : (s.setZone v).now = s.now := rfl
@[simp] theorem State.setZone_portH (s : State) (v : ZoneUnit) : (s.setZone v).portH = s.portH := rfl
@[simp] theorem State.setZone_portY (s : State) (v : ZoneUnit) : (s.setZone v).portY = s.portY := rfl
@[simp] theorem State.setZone_portP (s : State) (v : ZoneUnit) : (s.setZone v).portP = s.portP := rfl
@[simp] theorem State.setZone_pool (s : State) (v : ZoneUnit) : (s.setZone v).pool = s.pool := rfl
@[simp] theorem State.setZone_relay (s : State) (v : ZoneUnit) : (s.setZone v).relay = s.relay := rfl
@[simp] theorem State.setZone_zone (s : State) (v : ZoneUnit) : (s.setZone v).zone = v := rfl
@[simp] theorem State.setZone_sup (s : State) (v : ZoneUnit) : (s.setZone v).sup = s.sup := rfl
@[simp] theorem State.setZone_recov (s : State) (v : ZoneUnit) : (s.setZone v).recov = s.recov := rfl
@[simp] theorem State.setZone_sched (s : State) (v : ZoneUnit) : (s.setZone v).sched = s.sched := rfl
@[simp] theorem State.setZone_level (s : State) (v : ZoneUnit) : (s.setZone v).level = s.level := rfl
@[simp] theorem State.setZone_vol (s : State) (v : ZoneUnit) : (s.setZone v).vol = s.vol := rfl
@[simp] theorem State.setZone_acct (s : State) (v : ZoneUnit) : (s.setZone v).acct = s.acct := rfl
@[simp] theorem State.setZone_mgmt (s : State) (v : ZoneUnit) : (s.setZone v).mgmt = s.mgmt := rfl
@[simp] theorem State.setZone_nv (s : State) (v : ZoneUnit) : (s.setZone v).nv = s.nv := rfl
@[simp] theorem State.setZone_freeIdx (s : State) (v : ZoneUnit) : (s.setZone v).freeIdx = s.freeIdx := rfl
@[simp] theorem State.setZone_pending (s : State) (v : ZoneUnit) : (s.setZone v).pending = s.pending := rfl
@[simp] theorem State.setSup_now (s : State) (v : Supervisor) : (s.setSup v).now = s.now := rfl
@[simp] theorem State.setSup_portH (s : State) (v : Supervisor) : (s.setSup v).portH = s.portH := rfl
@[simp] theorem State.setSup_portY (s : State) (v : Supervisor) : (s.setSup v).portY = s.portY := rfl
@[simp] theorem State.setSup_portP (s : State) (v : Supervisor) : (s.setSup v).portP = s.portP := rfl
@[simp] theorem State.setSup_pool (s : State) (v : Supervisor) : (s.setSup v).pool = s.pool := rfl
@[simp] theorem State.setSup_relay (s : State) (v : Supervisor) : (s.setSup v).relay = s.relay := rfl
@[simp] theorem State.setSup_zone (s : State) (v : Supervisor) : (s.setSup v).zone = s.zone := rfl
@[simp] theorem State.setSup_sup (s : State) (v : Supervisor) : (s.setSup v).sup = v := rfl
@[simp] theorem State.setSup_recov (s : State) (v : Supervisor) : (s.setSup v).recov = s.recov := rfl
@[simp] theorem State.setSup_sched (s : State) (v : Supervisor) : (s.setSup v).sched = s.sched := rfl
@[simp] theorem State.setSup_level (s : State) (v : Supervisor) : (s.setSup v).level = s.level := rfl
@[simp] theorem State.setSup_vol (s : State) (v : Supervisor) : (s.setSup v).vol = s.vol := rfl
@[simp] theorem State.setSup_acct (s : State) (v : Supervisor) : (s.setSup v).acct = s.acct := rfl
@[simp] theorem State.setSup_mgmt (s : State) (v : Supervisor) : (s.setSup v).mgmt = s.mgmt := rfl
@[simp] theorem State.setSup_nv (s : State) (v : Supervisor) : (s.setSup v).nv = s.nv := rfl
@[simp] theorem State.setSup_freeIdx (s : State) (v : Supervisor) : (s.setSup v).freeIdx = s.freeIdx := rfl
@[simp] theorem State.setSup_pending (s : State) (v : Supervisor) : (s.setSup v).pending = s.pending := rfl
@[simp] theorem State.setRecov_now (s : State) (v : Recovery) : (s.setRecov v).now = s.now := rfl
@[simp] theorem State.setRecov_portH (s : State) (v : Recovery) : (s.setRecov v).portH = s.portH := rfl
@[simp] theorem State.setRecov_portY (s : State) (v : Recovery) : (s.setRecov v).portY = s.portY := rfl
@[simp] theorem State.setRecov_portP (s : State) (v : Recovery) : (s.setRecov v).portP = s.portP := rfl
@[simp] theorem State.setRecov_pool (s : State) (v : Recovery) : (s.setRecov v).pool = s.pool := rfl
@[simp] theorem State.setRecov_relay (s : State) (v : Recovery) : (s.setRecov v).relay = s.relay := rfl
@[simp] theorem State.setRecov_zone (s : State) (v : Recovery) : (s.setRecov v).zone = s.zone := rfl
@[simp] theorem State.setRecov_sup (s : State) (v : Recovery) : (s.setRecov v).sup = s.sup := rfl
@[simp] theorem State.setRecov_recov (s : State) (v : Recovery) : (s.setRecov v).recov = v := rfl
@[simp] theorem State.setRecov_sched (s : State) (v : Recovery) : (s.setRecov v).sched = s.sched := rfl
@[simp] theorem State.setRecov_level (s : State) (v : Recovery) : (s.setRecov v).level = s.level := rfl
@[simp] theorem State.setRecov_vol (s : State) (v : Recovery) : (s.setRecov v).vol = s.vol := rfl
@[simp] theorem State.setRecov_acct (s : State) (v : Recovery) : (s.setRecov v).acct = s.acct := rfl
@[simp] theorem State.setRecov_mgmt (s : State) (v : Recovery) : (s.setRecov v).mgmt = s.mgmt := rfl
@[simp] theorem State.setRecov_nv (s : State) (v : Recovery) : (s.setRecov v).nv = s.nv := rfl
@[simp] theorem State.setRecov_freeIdx (s : State) (v : Recovery) : (s.setRecov v).freeIdx = s.freeIdx := rfl
@[simp] theorem State.setRecov_pending (s : State) (v : Recovery) : (s.setRecov v).pending = s.pending := rfl
@[simp] theorem State.setSched_now (s : State) (v : Scheduler) : (s.setSched v).now = s.now := rfl
@[simp] theorem State.setSched_portH (s : State) (v : Scheduler) : (s.setSched v).portH = s.portH := rfl
@[simp] theorem State.setSched_portY (s : State) (v : Scheduler) : (s.setSched v).portY = s.portY := rfl
@[simp] theorem State.setSched_portP (s : State) (v : Scheduler) : (s.setSched v).portP = s.portP := rfl
@[simp] theorem State.setSched_pool (s : State) (v : Scheduler) : (s.setSched v).pool = s.pool := rfl
@[simp] theorem State.setSched_relay (s : State) (v : Scheduler) : (s.setSched v).relay = s.relay := rfl
@[simp] theorem State.setSched_zone (s : State) (v : Scheduler) : (s.setSched v).zone = s.zone := rfl
@[simp] theorem State.setSched_sup (s : State) (v : Scheduler) : (s.setSched v).sup = s.sup := rfl
@[simp] theorem State.setSched_recov (s : State) (v : Scheduler) : (s.setSched v).recov = s.recov := rfl
@[simp] theorem State.setSched_sched (s : State) (v : Scheduler) : (s.setSched v).sched = v := rfl
@[simp] theorem State.setSched_level (s : State) (v : Scheduler) : (s.setSched v).level = s.level := rfl
@[simp] theorem State.setSched_vol (s : State) (v : Scheduler) : (s.setSched v).vol = s.vol := rfl
@[simp] theorem State.setSched_acct (s : State) (v : Scheduler) : (s.setSched v).acct = s.acct := rfl
@[simp] theorem State.setSched_mgmt (s : State) (v : Scheduler) : (s.setSched v).mgmt = s.mgmt := rfl
@[simp] theorem State.setSched_nv (s : State) (v : Scheduler) : (s.setSched v).nv = s.nv := rfl
@[simp] theorem State.setSched_freeIdx (s : State) (v : Scheduler) : (s.setSched v).freeIdx = s.freeIdx := rfl
@[simp] theorem State.setSched_pending (s : State) (v : Scheduler) : (s.setSched v).pending = s.pending := rfl
@[simp] theorem State.setLevel_now (s : State) (v : Level) : (s.setLevel v).now = s.now := rfl
@[simp] theorem State.setLevel_portH (s : State) (v : Level) : (s.setLevel v).portH = s.portH := rfl
@[simp] theorem State.setLevel_portY (s : State) (v : Level) : (s.setLevel v).portY = s.portY := rfl
@[simp] theorem State.setLevel_portP (s : State) (v : Level) : (s.setLevel v).portP = s.portP := rfl
@[simp] theorem State.setLevel_pool (s : State) (v : Level) : (s.setLevel v).pool = s.pool := rfl
@[simp] theorem State.setLevel_relay (s : State) (v : Level) : (s.setLevel v).relay = s.relay := rfl
@[simp] theorem State.setLevel_zone (s : State) (v : Level) : (s.setLevel v).zone = s.zone := rfl
@[simp] theorem State.setLevel_sup (s : State) (v : Level) : (s.setLevel v).sup = s.sup := rfl
@[simp] theorem State.setLevel_recov (s : State) (v : Level) : (s.setLevel v).recov = s.recov := rfl
@[simp] theorem State.setLevel_sched (s : State) (v : Level) : (s.setLevel v).sched = s.sched := rfl
@[simp] theorem State.setLevel_level (s : State) (v : Level) : (s.setLevel v).level = v := rfl
@[simp] theorem State.setLevel_vol (s : State) (v : Level) : (s.setLevel v).vol = s.vol := rfl
@[simp] theorem State.setLevel_acct (s : State) (v : Level) : (s.setLevel v).acct = s.acct := rfl
@[simp] theorem State.setLevel_mgmt (s : State) (v : Level) : (s.setLevel v).mgmt = s.mgmt := rfl
@[simp] theorem State.setLevel_nv (s : State) (v : Level) : (s.setLevel v).nv = s.nv := rfl
@[simp] theorem State.setLevel_freeIdx (s : State) (v : Level) : (s.setLevel v).freeIdx = s.freeIdx := rfl
@[simp] theorem State.setLevel_pending (s : State) (v : Level) : (s.setLevel v).pending = s.pending := rfl
@[simp] theorem State.setVol_now (s : State) (v : Volume) : (s.setVol v).now = s.now := rfl
@[simp] theorem State.setVol_portH (s : State) (v : Volume) : (s.setVol v).portH = s.portH := rfl
@[simp] theorem State.setVol_portY (s : State) (v : Volume) : (s.setVol v).portY = s.portY := rfl
@[simp] theorem State.setVol_portP (s : State) (v : Volume) : (s.setVol v).portP = s.portP := rfl
@[simp] theorem State.setVol_pool (s : State) (v : Volume) : (s.setVol v).pool = s.pool := rfl
@[simp] theorem State.setVol_relay (s : State) (v : Volume) : (s.setVol v).relay = s.relay := rfl
@[simp] theorem State.setVol_zone (s : State) (v : Volume) : (s.setVol v).zone = s.zone := rfl
@[simp] theorem State.setVol_sup (s : State) (v : Volume) : (s.setVol v).sup = s.sup := rfl
@[simp] theorem State.setVol_recov (s : State) (v : Volume) : (s.setVol v).recov = s.recov := rfl
@[simp] theorem State.setVol_sched (s : State) (v : Volume) : (s.setVol v).sched = s.sched := rfl
@[simp] theorem State.setVol_level (s : State) (v : Volume) : (s.setVol v).level = s.level := rfl
@[simp] theorem State.setVol_vol (s : State) (v : Volume) : (s.setVol v).vol = v := rfl
@[simp] theorem State.setVol_acct (s : State) (v : Volume) : (s.setVol v).acct = s.acct := rfl
@[simp] theorem State.setVol_mgmt (s : State) (v : Volume) : (s.setVol v).mgmt = s.mgmt := rfl
@[simp] theorem State.setVol_nv (s : State) (v : Volume) : (s.setVol v).nv = s.nv := rfl
@[simp] theorem State.setVol_freeIdx (s : State) (v : Volume) : (s.setVol v).freeIdx = s.freeIdx := rfl
@[simp] theorem State.setVol_pending (s : State) (v : Volume) : (s.setVol v).pending = s.pending := rfl
@[simp] theorem State.setAcct_now (s : State) (v : Accounting) : (s.setAcct v).now = s.now := rfl
@[simp] theorem State.setAcct_portH (s : State) (v : Accounting) : (s.setAcct v).portH = s.portH := rfl
@[simp] theorem State.setAcct_portY (s : State) (v : Accounting) : (s.setAcct v).portY = s.portY := rfl
@[simp] theorem State.setAcct_portP (s : State) (v : Accounting) : (s.setAcct v).portP = s.portP := rfl
@[simp] theorem State.setAcct_pool (s : State) (v : Accounting) : (s.setAcct v).pool = s.pool := rfl
@[simp] theorem State.setAcct_relay (s : State) (v : Accounting) : (s.setAcct v).relay = s.relay := rfl
@[simp] theorem State.setAcct_zone (s : State) (v : Accounting) : (s.setAcct v).zone = s.zone := rfl
@[simp] theorem State.setAcct_sup (s : State) (v : Accounting) : (s.setAcct v).sup = s.sup := rfl
@[simp] theorem State.setAcct_recov (s : State) (v : Accounting) : (s.setAcct v).recov = s.recov := rfl
@[simp] theorem State.setAcct_sched (s : State) (v : Accounting) : (s.setAcct v).sched = s.sched := rfl
@[simp] theorem State.setAcct_level (s : State) (v : Accounting) : (s.setAcct v).level = s.level := rfl
@[simp] theorem State.setAcct_vol (s : State) (v : Accounting) : (s.setAcct v).vol = s.vol := rfl
@[simp] theorem State.setAcct_acct (s : State) (v : Accounting) : (s.setAcct v).acct = v := rfl
@[simp] theorem State.setAcct_mgmt (s : State) (v : Accounting) : (s.setAcct v).mgmt = s.mgmt := rfl
@[simp] theorem State.setAcct_nv (s : State) (v : Accounting) : (s.setAcct v).nv = s.nv := rfl
@[simp] theorem State.setAcct_freeIdx (s : State) (v : Accounting) : (s.setAcct v).freeIdx = s.freeIdx := rfl
@[simp] theorem State.setAcct_pending (s : State) (v : Accounting) : (s.setAcct v).pending = s.pending := rfl
@[simp] theorem State.setMgmt_now (s : State) (v : Management) : (s.setMgmt v).now = s.now := rfl
@[simp] theorem State.setMgmt_portH (s : State) (v : Management) : (s.setMgmt v).portH = s.portH := rfl
@[simp] theorem State.setMgmt_portY (s : State) (v : Management) : (s.setMgmt v).portY = s.portY := rfl
@[simp] theorem State.setMgmt_portP (s : State) (v : Management) : (s.setMgmt v).portP = s.portP := rfl
@[simp] theorem State.setMgmt_pool (s : State) (v : Management) : (s.setMgmt v).pool = s.pool := rfl
@[simp] theorem State.setMgmt_relay (s : State) (v : Management) : (s.setMgmt v).relay = s.relay := rfl
@[simp] theorem State.setMgmt_zone (s : State) (v : Management) : (s.setMgmt v).zone = s.zone := rfl
@[simp] theorem State.setMgmt_sup (s : State) (v : Management) : (s.setMgmt v).sup = s.sup := rfl
@[simp] theorem State.setMgmt_recov (s : State) (v : Management) : (s.setMgmt v).recov = s.recov := rfl
@[simp] theorem State.setMgmt_sched (s : State) (v : Management) : (s.setMgmt v).sched = s.sched := rfl
@[simp] theorem State.setMgmt_level (s : State) (v : Management) : (s.setMgmt v).level = s.level := rfl
@[simp] theorem State.setMgmt_vol (s : State) (v : Management) : (s.setMgmt v).vol = s.vol := rfl
@[simp] theorem State.setMgmt_acct (s : State) (v : Management) : (s.setMgmt v).acct = s.acct := rfl
@[simp] theorem State.setMgmt_mgmt (s : State) (v : Management) : (s.setMgmt v).mgmt = v := rfl
@[simp] theorem State.setMgmt_nv (s : State) (v : Management) : (s.setMgmt v).nv = s.nv := rfl
@[simp] theorem State.setMgmt_freeIdx (s : State) (v : Management) : (s.setMgmt v).freeIdx = s.freeIdx := rfl
@[simp] theorem State.setMgmt_pending (s : State) (v : Management) : (s.setMgmt v).pending = s.pending := rfl
@[simp] theorem State.setNv_now (s : State) (v : NonVolatile) : (s.setNv v).now = s.now := rfl
@[simp] theorem State.setNv_portH (s : State) (v : NonVolatile) : (s.setNv v).portH = s.portH := rfl
@[simp] theorem State.setNv_portY (s : State) (v : NonVolatile) : (s.setNv v).portY = s.portY := rfl
@[simp] theorem State.setNv_portP (s : State) (v : NonVolatile) : (s.setNv v).portP = s.portP := rfl
@[simp] theorem State.setNv_pool (s : State) (v : NonVolatile) : (s.setNv v).pool = s.pool := rfl
@[simp] theorem State.setNv_relay (s : State) (v : NonVolatile) : (s.setNv v).relay = s.relay := rfl
@[simp] theorem State.setNv_zone (s : State) (v : NonVolatile) : (s.setNv v).zone = s.zone := rfl
@[simp] theorem State.setNv_sup (s : State) (v : NonVolatile) : (s.setNv v).sup = s.sup := rfl
@[simp] theorem State.setNv_recov (s : State) (v : NonVolatile) : (s.setNv v).recov = s.recov := rfl
@[simp] theorem State.setNv_sched (s : State) (v : NonVolatile) : (s.setNv v).sched = s.sched := rfl
@[simp] theorem State.setNv_level (s : State) (v : NonVolatile) : (s.setNv v).level = s.level := rfl
@[simp] theorem State.setNv_vol (s : State) (v : NonVolatile) : (s.setNv v).vol = s.vol := rfl
@[simp] theorem State.setNv_acct (s : State) (v : NonVolatile) : (s.setNv v).acct = s.acct := rfl
@[simp] theorem State.setNv_mgmt (s : State) (v : NonVolatile) : (s.setNv v).mgmt = s.mgmt := rfl
@[simp] theorem State.setNv_nv (s : State) (v : NonVolatile) : (s.setNv v).nv = v := rfl
@[simp] theorem State.setNv_freeIdx (s : State) (v : NonVolatile) : (s.setNv v).freeIdx = s.freeIdx := rfl
@[simp] theorem State.setNv_pending (s : State) (v : NonVolatile) : (s.setNv v).pending = s.pending := rfl
@[simp] theorem State.setFreeIdx_now (s : State) (v : Nat) : (s.setFreeIdx v).now = s.now := rfl
@[simp] theorem State.setFreeIdx_portH (s : State) (v : Nat) : (s.setFreeIdx v).portH = s.portH := rfl
@[simp] theorem State.setFreeIdx_portY (s : State) (v : Nat) : (s.setFreeIdx v).portY = s.portY := rfl
@[simp] theorem State.setFreeIdx_portP (s : State) (v : Nat) : (s.setFreeIdx v).portP = s.portP := rfl
@[simp] theorem State.setFreeIdx_pool (s : State) (v : Nat) : (s.setFreeIdx v).pool = s.pool := rfl
@[simp] theorem State.setFreeIdx_relay (s : State) (v : Nat) : (s.setFreeIdx v).relay = s.relay := rfl
@[simp] theorem State.setFreeIdx_zone (s : State) (v : Nat) : (s.setFreeIdx v).zone = s.zone := rfl
@[simp] theorem State.setFreeIdx_sup (s : State) (v : Nat) : (s.setFreeIdx v).sup = s.sup := rfl
@[simp] theorem State.setFreeIdx_recov (s : State) (v : Nat) : (s.setFreeIdx v).recov = s.recov := rfl
@[simp] theorem State.setFreeIdx_sched (s : State) (v : Nat) : (s.setFreeIdx v).sched = s.sched := rfl
@[simp] theorem State.setFreeIdx_level (s : State) (v : Nat) : (s.setFreeIdx v).level = s.level := rfl
@[simp] theorem State.setFreeIdx_vol (s : State) (v : Nat) : (s.setFreeIdx v).vol = s.vol := rfl
@[simp] theorem State.setFreeIdx_acct (s : State) (v : Nat) : (s.setFreeIdx v).acct = s.acct := rfl
@[simp] theorem State.setFreeIdx_mgmt (s : State) (v : Nat) : (s.setFreeIdx v).mgmt = s.mgmt := rfl
@[simp] theorem State.setFreeIdx_nv (s : State) (v : Nat) : (s.setFreeIdx v).nv = s.nv := rfl
@[simp] theorem State.setFreeIdx_freeIdx (s : State) (v : Nat) : (s.setFreeIdx v).freeIdx = v := rfl
@[simp] theorem State.setFreeIdx_pending (s : State) (v : Nat) : (s.setFreeIdx v).pending = s.pending := rfl
@[simp] theorem State.setPending_now (s : State) (v : List Instr) : (s.setPending v).now = s.now := rfl
@[simp] theorem State.setPending_portH (s : State) (v : List Instr) : (s.setPending v).portH = s.portH := rfl
@[simp] theorem State.setPending_portY (s : State) (v : List Instr) : (s.setPending v).portY = s.portY := rfl
@[simp] theorem State.setPending_portP (s : State) (v : List Instr) : (s.setPending v).portP = s.portP := rfl
@[simp] theorem State.setPending_pool (s : State) (v : List Instr) : (s.setPending v).pool = s.pool := rfl
@[simp] theorem State.setPending_relay (s : State) (v : List Instr) : (s.setPending v).relay = s.relay := rfl
@[simp] theorem State.setPending_zone (s : State) (v : List Instr) : (s.setPending v).zone = s.zone := rfl
@[simp] theorem State.setPending_sup (s : State) (v : List Instr) : (s.setPending v).sup = s.sup := rfl
@[simp] theorem State.setPending_recov (s : State) (v : List Instr) : (s.setPending v).recov = s.recov := rfl
@[simp] theorem State.setPending_sched (s : State) (v : List Instr) : (s.setPending v).sched = s.sched := rfl
@[simp] theorem State.setPending_level (s : State) (v : List Instr) : (s.setPending v).level = s.level := rfl
@[simp] theorem State.setPending_vol (s : State) (v : List Instr) : (s.setPending v).vol = s.vol := rfl
@[simp] theorem State.setPending_acct (s : State) (v : List Instr) : (s.setPending v).acct = s.acct := rfl
@[simp] theorem State.setPending_mgmt (s : State) (v : List Instr) : (s.setPending v).mgmt = s.mgmt := rfl
@[simp] theorem State.setPending_nv (s : State) (v : List Instr) : (s.setPending v).nv = s.nv := rfl
@[simp] theorem State.setPending_freeIdx (s : State) (v : List Instr) : (s.setPending v).freeIdx = s.freeIdx := rfl
@[simp] theorem State.setPending_pending (s : State) (v : List Instr) : (s.setPending v).pending = v := rfl

end Sys2Proof.Machine
end

