-- ==== Sys2Proof/Laws/Offers.lean ====
section
/-! SUPPORT. What offering a telegram, moving a buffer, settling the notices and finishing a command can do, each said once:
queues grow at the tail, two drop counters and the pool move, and nothing else of the state changes. -/

namespace Sys2Proof.Machine

theorem PortOffered.refl (q : PortState) : PortOffered q q := ⟨[], q.ctr.flushed, q.ctr.queueFull, by simp⟩

theorem PortOffered.trans {a b c : PortState} (h : PortOffered a b) (k : PortOffered b c) : PortOffered a c := by
  obtain ⟨xs, f, g, rfl⟩ := h
  obtain ⟨ys, f', g', rfl⟩ := k
  exact ⟨xs ++ ys, f', g', by simp⟩

theorem PortOffered.mode {q q' : PortState} (h : PortOffered q q') : q'.mode = q.mode := by
  obtain ⟨_, _, _, rfl⟩ := h; rfl

/-- Only offers have been made: every block but the ports and the pool is as it was. -/
structure Offers (s t : State) : Prop where
  now : t.now = s.now
  portH : PortOffered s.portH t.portH
  portY : PortOffered s.portY t.portY
  portP : PortOffered s.portP t.portP
  relay : t.relay = s.relay
  zone : t.zone = s.zone
  sup : t.sup = s.sup
  recov : t.recov = s.recov
  sched : t.sched = s.sched
  level : t.level = s.level
  vol : t.vol = s.vol
  acct : t.acct = s.acct
  mgmt : t.mgmt = s.mgmt
  nv : t.nv = s.nv
  freeIdx : t.freeIdx = s.freeIdx
  pending : t.pending = s.pending

theorem Offers.refl (s : State) : Offers s s :=
  ⟨rfl, .refl _, .refl _, .refl _, rfl, rfl, rfl, rfl, rfl, rfl, rfl, rfl, rfl, rfl, rfl, rfl⟩

theorem Offers.trans {a b c : State} (h : Offers a b) (k : Offers b c) : Offers a c where
  now := k.now.trans h.now
  portH := h.portH.trans k.portH
  portY := h.portY.trans k.portY
  portP := h.portP.trans k.portP
  relay := k.relay.trans h.relay
  zone := k.zone.trans h.zone
  sup := k.sup.trans h.sup
  recov := k.recov.trans h.recov
  sched := k.sched.trans h.sched
  level := k.level.trans h.level
  vol := k.vol.trans h.vol
  acct := k.acct.trans h.acct
  mgmt := k.mgmt.trans h.mgmt
  nv := k.nv.trans h.nv
  freeIdx := k.freeIdx.trans h.freeIdx
  pending := k.pending.trans h.pending

theorem Offers.port {s t : State} (h : Offers s t) (port : Port) : PortOffered (s.port port) (t.port port) := by
  cases port
  · exact h.portH
  · exact h.portY
  · exact h.portP

theorem setPool_offers (s : State) (v : Pool) : Offers s (s.setPool v) :=
  ⟨rfl, .refl _, .refl _, .refl _, rfl, rfl, rfl, rfl, rfl, rfl, rfl, rfl, rfl, rfl, rfl, rfl⟩

theorem setFree_offers (n : Nat) (s : State) : Offers s (setFree n s) := setPool_offers s _

theorem setPort_offers (s : State) (port : Port) {v : PortState} (h : PortOffered (s.port port) v) :
    Offers s (s.setPort port v) := by
  cases port
  · exact ⟨rfl, h, .refl _, .refl _, rfl, rfl, rfl, rfl, rfl, rfl, rfl, rfl, rfl, rfl, rfl, rfl⟩
  · exact ⟨rfl, .refl _, h, .refl _, rfl, rfl, rfl, rfl, rfl, rfl, rfl, rfl, rfl, rfl, rfl, rfl⟩
  · exact ⟨rfl, .refl _, .refl _, h, rfl, rfl, rfl, rfl, rfl, rfl, rfl, rfl, rfl, rfl, rfl, rfl⟩

/-- Everything an offer can do (R131): the telegram joins the tail, or a drop counter moves. -/
theorem offerItem_offers (port : Port) (it : QItem) (s : State) : Offers s (offerItem port it s).1 := by
  unfold offerItem
  dsimp only
  split
  · exact setPort_offers s port ⟨[], _, (s.port port).ctr.queueFull, by simp; rfl⟩
  · split
    · exact setPort_offers s port ⟨[it], (s.port port).ctr.flushed, (s.port port).ctr.queueFull, rfl⟩
    · exact setPort_offers s port ⟨[], (s.port port).ctr.flushed, _, by simp; rfl⟩

theorem generateRaw_offers (port : Port) (t : Telegram) (s : State) : Offers s (generateRaw port t s) := by
  unfold generateRaw
  split
  · exact setPool_offers s _
  · have h := (setFree_offers (s.pool.free - 1) s).trans
      (offerItem_offers port { tel := t, mark := .plain } (setFree (s.pool.free - 1) s))
    split
    · next s' e => rw [e] at h; exact h
    · next s' e => rw [e] at h; exact h.trans (setFree_offers _ s')

theorem broadcastHoldOff_offers (n : Nat) (s : State) : Offers s (broadcastHoldOff n s) :=
  (generateRaw_offers .h _ s).trans (generateRaw_offers .y _ _)

theorem enterHeld_offers (s : State) : Offers s (enterHeld s) :=
  (setPool_offers s _).trans (broadcastHoldOff_offers 30 _)

theorem enterOpen_offers (s : State) : Offers s (enterOpen s) :=
  (setPool_offers s _).trans (broadcastHoldOff_offers 0 _)

/-- Everything taking a buffer can do (R139). -/
theorem takeBuffer_offers (s : State) : Offers s (takeBuffer s) := by
  unfold takeBuffer
  dsimp only
  split
  · exact (setFree_offers _ s).trans (enterHeld_offers _)
  · exact setFree_offers _ s

/-- Everything returning a buffer can do (R139). -/
theorem returnBuffer_offers (s : State) : Offers s (returnBuffer s) := by
  unfold returnBuffer
  dsimp only
  split
  · exact (setFree_offers _ s).trans (enterOpen_offers _)
  · exact setFree_offers _ s

theorem returnBuffers_offers (n : Nat) (s : State) : Offers s (returnBuffers n s) := by
  induction n generalizing s with
  | zero => exact .refl s
  | succ n ih => exact (returnBuffer_offers s).trans (ih _)

/-- Everything a generator can do (R138). -/
theorem generate_offers (port : Port) (t : Telegram) (m : QMark) (s : State) : Offers s (generate port t m s).1 := by
  unfold generate
  split
  · exact setPool_offers s _
  · have h := (takeBuffer_offers s).trans (offerItem_offers port { tel := t, mark := m } (takeBuffer s))
    split
    · next s' e => rw [e] at h; exact h
    · next s' e => rw [e] at h; exact h.trans (returnBuffer_offers s')

/-- Everything a move to a queue can do (R131). -/
theorem moveToQueue_offers (port : Port) (t : Telegram) (m : QMark) (s : State) : Offers s (moveToQueue port t m s).1 := by
  have h := offerItem_offers port { tel := t, mark := m } s
  unfold moveToQueue
  split
  · next s' e => rw [e] at h; exact h
  · next s' e => rw [e] at h; exact h.trans (returnBuffer_offers s')

/-- With a free buffer, room in the queue, an ACTIVE port and a free count that crosses no threshold, a generated telegram
joins the tail and takes one buffer (R131, R138). -/
theorem generate_joins (port : Port) (t : Telegram) (m : QMark) (s : State) (hf : s.pool.free ≠ 0)
    (hh : s.pool.held = true ∨ holdThreshold < s.pool.free - 1) (ha : (s.port port).mode = .active)
    (hq : (s.port port).queue.length < queueCap) :
    generate port t m s =
      ((setFree (s.pool.free - 1) s).setPort port
        { s.port port with queue := (s.port port).queue ++ [{ tel := t, mark := m }] }, true) := by
  have e : takeBuffer s = setFree (s.pool.free - 1) s := by
    unfold takeBuffer
    dsimp only
    rw [if_neg]
    rcases hh with hh | hh
    · simp [setFree, hh]
    · have : ¬ s.pool.free - 1 ≤ holdThreshold := by omega
      simp [setFree, this]
  have ep : ∀ n, (setFree n s).port port = s.port port := fun n => by cases port <;> rfl
  unfold generate
  rw [if_neg hf, e]
  unfold offerItem
  dsimp only
  rw [ep, ha]
  simp [hq]

/-- Only notices may have been shown: as offers, and the NOTICE line and its repeat timer may have changed. -/
structure Reports (s t : State) : Prop where
  now : t.now = s.now
  portH : PortOffered s.portH t.portH
  portY : PortOffered s.portY t.portY
  portP : PortOffered s.portP t.portP
  relay : t.relay = s.relay
  zone : t.zone = s.zone
  sup : t.sup = s.sup
  recov : t.recov = s.recov
  sched : t.sched = s.sched
  level : t.level = s.level
  vol : t.vol = s.vol
  acct : t.acct = s.acct
  mgmt : ∃ l r, t.mgmt = { s.mgmt with line := l, repeatFrom := r }
  nv : t.nv = s.nv
  freeIdx : t.freeIdx = s.freeIdx
  pending : t.pending = s.pending

theorem Offers.reports {s t : State} (h : Offers s t) : Reports s t :=
  ⟨h.now, h.portH, h.portY, h.portP, h.relay, h.zone, h.sup, h.recov, h.sched, h.level, h.vol, h.acct,
    ⟨s.mgmt.line, s.mgmt.repeatFrom, h.mgmt⟩, h.nv, h.freeIdx, h.pending⟩

theorem Reports.refl (s : State) : Reports s s := (Offers.refl s).reports

theorem Reports.trans {a b c : State} (h : Reports a b) (k : Reports b c) : Reports a c where
  now := k.now.trans h.now
  portH := h.portH.trans k.portH
  portY := h.portY.trans k.portY
  portP := h.portP.trans k.portP
  relay := k.relay.trans h.relay
  zone := k.zone.trans h.zone
  sup := k.sup.trans h.sup
  recov := k.recov.trans h.recov
  sched := k.sched.trans h.sched
  level := k.level.trans h.level
  vol := k.vol.trans h.vol
  acct := k.acct.trans h.acct
  mgmt := by
    obtain ⟨l, r, e⟩ := h.mgmt
    obtain ⟨l', r', e'⟩ := k.mgmt
    exact ⟨l', r', by rw [e', e]⟩
  nv := k.nv.trans h.nv
  freeIdx := k.freeIdx.trans h.freeIdx
  pending := k.pending.trans h.pending

theorem composeNotices_offers (s : State) : Offers s (composeNotices s) :=
  (generate_offers .h _ _ s).trans (generate_offers .y _ _ _)

theorem setLine_reports (s : State) (l : Bool) (r : Option Nat) :
    Reports s (s.setMgmt { s.mgmt with line := l, repeatFrom := r }) :=
  ⟨rfl, .refl _, .refl _, .refl _, rfl, rfl, rfl, rfl, rfl, rfl, rfl, rfl, ⟨l, r, rfl⟩, rfl, rfl, rfl⟩

/-- Everything settling the notices can do (R177). -/
theorem settleNotices_reports (s : State) : Reports s (settleNotices s) := by
  unfold settleNotices
  split
  · exact setLine_reports s _ _
  · split
    · exact .refl s
    · exact (setLine_reports s true _).trans (composeNotices_offers _).reports

/-- The condition kinds follow the blocks that own them. -/
theorem conditionSet_congr {s t : State} (hH : t.portH.mode = s.portH.mode) (hY : t.portY.mode = s.portY.mode)
    (hP : t.portP.mode = s.portP.mode) (hz : t.zone = s.zone) (hr : t.recov = s.recov) (ha : t.acct = s.acct)
    (hl : t.level = s.level) (hs : t.sched.slots = s.sched.slots) : conditionSet t = conditionSet s := by
  simp only [conditionSet, hardLockCond, reserveCond, emptyCond, levelStaleCond, segmentBreakCond, zoneBlindCond,
    frostCond, nodeAbsentCond, valveFaultCond, hH, hY, hP, hz, hr, ha, hl, hs]

theorem Reports.enabledSet {s t : State} (h : Reports s t) : enabledSet t = enabledSet s := by
  obtain ⟨l, r, e⟩ := h.mgmt
  have hc : conditionSet t = conditionSet s :=
    conditionSet_congr h.portH.mode h.portY.mode h.portP.mode h.zone h.recov h.acct h.level (by rw [h.sched])
  simp only [Machine.enabledSet, pendingSet, hc, e]

/-- After settling, the NOTICE line is asserted exactly while the enabled set is non-empty (R177). -/
theorem settleNotices_line (s : State) :
    (settleNotices s).mgmt.line = true ↔ enabledSet (settleNotices s) ≠ 0 := by
  rw [(settleNotices_reports s).enabledSet]
  unfold settleNotices
  split
  · next h => simp [h]
  · next h =>
    split
    · next hl => exact ⟨fun _ => h, fun _ => hl⟩
    · rw [(composeNotices_offers _).mgmt]; exact ⟨fun _ => h, fun _ => rfl⟩

/-- A settled state stays as it is. -/
theorem settleNotices_settled (s : State) (h : s.mgmt.line = true ↔ enabledSet s ≠ 0)
    (hr : enabledSet s = 0 → s.mgmt.repeatFrom = none) : settleNotices s = s := by
  unfold settleNotices
  split
  · next e =>
    have hl : s.mgmt.line = false := by
      cases hb : s.mgmt.line with
      | false => rfl
      | true => exact absurd e (h.1 hb)
    have : ({ s.mgmt with line := false, repeatFrom := none } : Management) = s.mgmt := by
      rw [← hl, ← hr e]
    rw [this]; rfl
  · next e => rw [if_pos (h.2 e)]

end Sys2Proof.Machine
end

