-- ==== Sys2Proof/Laws/Finish.lean ====
section
/-! SUPPORT. What arbitrating the P line and finishing a command can do, said once: an exchange may begin, a telegram may be
offered, and the notices settle. -/

namespace Sys2Proof.Machine

/-- A poll-list entry without the record of its exchanges' starts. -/
def forgetStart (e : PollEntry) : PollEntry := { e with start := none, base := 0 }

/-- A command has been finished: no block but the ports, the pool, the scheduler and the NOTICE line has changed, and the
scheduler's entries only in the start of their exchanges. -/
structure Finishes (s t : State) : Prop where
  now : t.now = s.now
  portH : PortOffered s.portH t.portH
  portY : PortOffered s.portY t.portY
  portP : PortOffered s.portP t.portP
  relay : t.relay = s.relay
  zone : t.zone = s.zone
  sup : t.sup = s.sup
  recov : t.recov = s.recov
  slots : t.sched.slots.map (Option.map forgetStart) = s.sched.slots.map (Option.map forgetStart)
  level : t.level = s.level
  vol : t.vol = s.vol
  acct : t.acct = s.acct
  mgmt : ∃ l r, t.mgmt = { s.mgmt with line := l, repeatFrom := r }
  nv : t.nv = s.nv
  freeIdx : t.freeIdx = s.freeIdx
  pending : t.pending = s.pending

theorem Reports.finishes {s t : State} (h : Reports s t) : Finishes s t :=
  ⟨h.now, h.portH, h.portY, h.portP, h.relay, h.zone, h.sup, h.recov, by rw [h.sched], h.level, h.vol, h.acct, h.mgmt,
    h.nv, h.freeIdx, h.pending⟩

theorem Offers.finishes {s t : State} (h : Offers s t) : Finishes s t := h.reports.finishes

theorem Finishes.refl (s : State) : Finishes s s := (Offers.refl s).finishes

theorem Finishes.trans {a b c : State} (h : Finishes a b) (k : Finishes b c) : Finishes a c where
  now := k.now.trans h.now
  portH := h.portH.trans k.portH
  portY := h.portY.trans k.portY
  portP := h.portP.trans k.portP
  relay := k.relay.trans h.relay
  zone := k.zone.trans h.zone
  sup := k.sup.trans h.sup
  recov := k.recov.trans h.recov
  slots := k.slots.trans h.slots
  level := k.level.trans h.level
  vol := k.vol.trans h.vol
  acct := k.acct.trans h.acct
  mgmt := by
    obtain ⟨l, r, e⟩ := h.mgmt
    obtain ⟨l', r', e'⟩ := k.mgmt
    exact ⟨l', r', by rw [e', e]⟩
  nv := k.nv.trans h.nv
  freeIdx := k.freeIdx.trans h.freeIdx
  pending := k.pending.trans h.pending

/-- A change of the scheduler that keeps its entries. -/
theorem setSched_finishes (s : State) (v : Scheduler)
    (h : v.slots.map (Option.map forgetStart) = s.sched.slots.map (Option.map forgetStart)) :
    Finishes s (s.setSched v) :=
  ⟨rfl, .refl _, .refl _, .refl _, rfl, rfl, rfl, rfl, h, rfl, rfl, rfl, ⟨_, _, rfl⟩, rfl, rfl, rfl⟩

theorem countSched_finishes (f : SchedCounters → SchedCounters) (s : State) : Finishes s (countSched f s) :=
  setSched_finishes s _ rfl

theorem wakeSched_finishes (s : State) : Finishes s (wakeSched s) := setSched_finishes s _ rfl

theorem countRequest_finishes (k : ExKind) (s : State) : Finishes s (countRequest k s) := by
  unfold countRequest
  split
  · exact countSched_finishes _ s
  · exact countSched_finishes _ s
  · exact .refl s

/-- Marking the start of an exchange keeps an entry but for its start. -/
theorem markStart_finishes (slot t b : Nat) (s : State) :
    Finishes s (modEntry slot (fun e => { e with start := some t, base := b }) s) := by
  refine setSched_finishes s _ ?_
  apply List.ext_getElem?
  intro i
  by_cases h : slot = i
  · subst h
    simp only [modifySlot, List.getElem?_map, List.getElem?_modify_eq]
    cases s.sched.slots[slot]? with
    | none => rfl
    | some o => cases o <;> rfl
  · simp [modifySlot, h]

theorem beginRequest_finishes (k : ExKind) (slot : Nat) (e : PollEntry) (s : State) :
    Finishes s (beginRequest k slot e s) := by
  have h := (generate_offers .p (requestTel k (BitVec.ofNat 8 e.addr)) .request s).finishes
  unfold beginRequest
  dsimp only
  split
  · next s' eq => rw [eq] at h; exact h
  · next s' eq =>
    rw [eq] at h
    exact ((h.trans (countRequest_finishes k s')).trans (markStart_finishes slot _ _ _)).trans
      (setSched_finishes _ _ rfl)

theorem beginRelay_finishes (t : Telegram) (r : Room) (s : State) : Finishes s (beginRelay t r s) := by
  have h := (setSched_finishes s { s.sched with relayList := s.sched.relayList.drop 1 } rfl).trans
    (moveToQueue_offers .p t .request _).finishes
  unfold beginRelay
  dsimp only
  split
  · next s' eq => rw [eq] at h; exact h
  · next s' eq => rw [eq] at h; exact h.trans (setSched_finishes _ _ rfl)

/-- Everything a choice of the next exchange can do (R161). -/
theorem chooseExchange_finishes (s : State) : Finishes s (chooseExchange s) := by
  unfold chooseExchange
  split
  · exact beginRequest_finishes _ _ _ s
  · split
    · exact beginRelay_finishes _ _ s
    · split
      · next i e _ =>
        dsimp only
        split
        · exact (beginRequest_finishes _ i e s).trans (setSched_finishes _ _ rfl)
        · exact beginRequest_finishes _ i e s
      · exact .refl s

/-- Everything arbitration can do (R161). -/
theorem arbitrate_finishes (s : State) : Finishes s (arbitrate s) := by
  unfold arbitrate
  split
  · dsimp only
    have h : Finishes s (s.setSched { s.sched with wake := false }) := setSched_finishes s _ rfl
    split
    · exact h.trans (chooseExchange_finishes _)
    · exact h
  · exact .refl s

/-- Everything the end of a command can do. -/
theorem finish_finishes (s : State) : Finishes s (finish s) :=
  (arbitrate_finishes s).trans (settleNotices_reports _).finishes

theorem setSched_wake (s : State) (v : Scheduler) : (s.setSched v).sched.wake = v.wake := rfl

theorem countRequest_wake (k : ExKind) (s : State) : (countRequest k s).sched.wake = s.sched.wake := by
  unfold countRequest; split <;> rfl

theorem beginRequest_wake (k : ExKind) (slot : Nat) (e : PollEntry) (s : State) :
    (beginRequest k slot e s).sched.wake = s.sched.wake := by
  have h := (generate_offers .p (requestTel k (BitVec.ofNat 8 e.addr)) .request s).sched
  unfold beginRequest
  dsimp only
  split
  · next s' eq => rw [eq] at h; exact congrArg Scheduler.wake h
  · next s' eq =>
    rw [eq] at h
    exact (countRequest_wake k s').trans (congrArg Scheduler.wake h)

theorem beginRelay_wake (t : Telegram) (r : Room) (s : State) : (beginRelay t r s).sched.wake = s.sched.wake := by
  have h := (moveToQueue_offers .p t .request
    (s.setSched { s.sched with relayList := s.sched.relayList.drop 1 })).sched
  unfold beginRelay
  dsimp only
  split
  · next s' eq => rw [eq] at h; exact (congrArg Scheduler.wake h :)
  · next s' eq => rw [eq] at h; exact (congrArg Scheduler.wake h :)

theorem chooseExchange_wake (s : State) : (chooseExchange s).sched.wake = s.sched.wake := by
  unfold chooseExchange
  split
  · exact beginRequest_wake _ _ _ s
  · split
    · exact beginRelay_wake _ _ s
    · split
      · next i e _ =>
        dsimp only
        split
        · exact beginRequest_wake _ i e s
        · exact beginRequest_wake _ i e s
      · rfl

theorem arbitrate_wake (s : State) : (arbitrate s).sched.wake = false := by
  unfold arbitrate
  split
  · dsimp only
    split
    · exact chooseExchange_wake _
    · rfl
  · next h => simpa using h

/-- The repeat timer is stopped when settling finds the enabled set empty (R177). -/
theorem settleNotices_timer (s : State) (h : enabledSet (settleNotices s) = 0) :
    (settleNotices s).mgmt.repeatFrom = none := by
  rw [(settleNotices_reports s).enabledSet] at h
  simp [settleNotices, h]

/-- A finished command leaves nothing over. -/
theorem finish_settled (s : State) : Settled (finish s) :=
  ⟨by rw [finish, (settleNotices_reports _).sched]; exact arbitrate_wake s, settleNotices_line _,
    settleNotices_timer _⟩

/-- With nothing left over, finishing changes nothing. -/
theorem finish_of_settled {s : State} (h : Settled s) : finish s = s := by
  have ha : arbitrate s = s := by simp [arbitrate, h.quiet]
  rw [finish, ha]
  exact settleNotices_settled s h.notices h.timer

/-- What starting the next write can do (R65, R175): a waiting safety write starts, or with none a waiting STORE, and with the
memory in use nothing changes. -/
theorem startNextWrite_cases (s : State) :
    (memoryIdle s = false ∧ startNextWrite s = s) ∨
      (memoryIdle s = true ∧ s.nv.waiting = true ∧ startNextWrite s = startSafetyWrite s) ∨
      (memoryIdle s = true ∧ s.nv.waiting = false ∧ startNextWrite s = startStoreWrite s) := by
  cases hi : memoryIdle s <;> cases hw : s.nv.waiting <;> simp [startNextWrite, hi, hw]

/-- A started STORE write changes the STORE's job alone. -/
theorem startStoreWrite_mgmt (s : State) :
    startStoreWrite s = s.setMgmt { s.mgmt with job := (startStoreWrite s).mgmt.job } := by
  unfold startStoreWrite
  split <;> rfl

/-- The P line is not arbitrated when no arbitration event occurred. -/
theorem finish_quiet {s : State} (h : s.sched.wake = false) : finish s = settleNotices s := by
  simp [finish, arbitrate, h]

end Sys2Proof.Machine
end

