-- ==== Sys2Proof/WellFormed.lean ====
section
/-! DEFINITION. Which commands are well formed: their operands lie in the ranges the governing rules give. The machine
answers every command, well formed or not; the statements say where they need this. -/

namespace Sys2Proof

/-- A request's source is an address that a telegram may carry, 1 to 126 (R122), and its data fit a MGMT_REQ (R124). -/
def Req.wellFormed (q : Req) : Bool :=
  decide (1 ≤ q.src.toNat) && decide (q.src.toNat ≤ 126) && decide (q.data.length ≤ 13)

/-- The operand ranges of a command. -/
def Instr.wellFormed : Instr → Bool
  | .powerOn | .pinReset | .restartTaken => true
  | .rxFirstCharacter _ | .rxTelegramEnd _ _ => true
  | .startupGraceExpiry | .hourWindowBoundary => true
  | .dutyPortionEnd z => decide (z < 8)
  | .runSenseChange _ | .lockoutSenseChange _ => true
  | .runRise | .runFall | .lockoutTaken | .lockoutReleased => true
  | .minOffElapsed | .minOnExpiry | .startWindowExpiry | .pumpOverrunExpiry | .holdExtendExpiry => true
  | .retryDue | .safetyWriteStart | .safetyWriteComplete | .resetPulseEnd | .confirmTimeout => true
  | .provingComplete | .resetHistoryLapse | .deliveryTimeout | .staleTimerExpiry | .serviceHoldExpiry => true
  | .breakEntry _ | .breakExit _ | .quietWaitMet _ => true
  | .earlyCollision _ ch => decide (1 ≤ ch) && decide (ch ≤ 4)
  | .lateCollision _ ch => decide (5 ≤ ch) && decide (ch ≤ 22)
  | .backoffEnd _ | .pTxMismatch | .pRetryPauseEnd | .txSent _ | .holdOffRepeat => true
  | .nodeAgingCheck | .stormIntervalStart | .broadcastIntervalStart | .pollDue | .responseWindowClose => true
  | .valveTravelExpiry slot => decide (slot < 12)
  | .noticeRepeat => true
  | .read _ _ q => q.wellFormed
  | .enrolWrite idx q => decide (idx.toNat < 16) && q.wellFormed
  | .zoneWrite idx q => decide (idx.toNat < 8) && q.wellFormed
  | .reserveSetbackWrite q => q.wellFormed
  | .pollWrite idx q => decide (idx.toNat < 12) && q.wellFormed
  | .strapStagedWrite idx q => decide (idx.toNat ≤ 32) && q.wellFormed
  | .scalingWrite _ q | .filterShapeWrite _ q | .tankLevelsWrite _ q | .burnerSetWrite _ q => q.wellFormed
  | .recoverySetWrite _ q | .relaySettingsWrite _ q | .noticeMaskWrite q => q.wellFormed
  | .counterClear _ _ q | .mgmtWrite _ _ q => q.wellFormed
  | .swapStrap _ q | .store _ q | .clearNotice _ q | .resetBurner _ q => q.wellFormed
  | .clearHardLock _ q | .holdTank _ q | .forgetLevel _ q | .restart _ q => q.wellFormed
  | .storeWriteStart | .storeComplete _ => true
  | .segmentLineChange _ _ => true

end Sys2Proof
end

