-- ==== Sys2Proof/Laws/PerInstr.lean ====
section
/-! SUPPORT. The family WellFormed of statements made per command: about the command as syntax only. -/

namespace Sys2Proof.Laws.WellFormed

open Sys2Proof.Machine

/-- A well-formed command that is a management request comes from an address a telegram may carry, and its op, object, index
and data fit the payload of a MGMT_REQ (R122, R124, R170). -/
def Statement (i : Instr) : Prop :=
  i.wellFormed = true → ∀ op obj idx q, requestOf i = some (op, obj, idx, q) →
    1 ≤ q.src.toNat ∧ q.src.toNat ≤ 126 ∧ (op.code :: obj :: idx :: q.data).length ≤ 16

/-- A command that is no request. -/
theorem of_not_request (i : Instr) (h : requestOf i = none) : Statement i := by
  intro _ op obj idx q e
  rw [h] at e
  cases e

/-- A request whose own well-formedness the command's asks for. -/
theorem of_request (i : Instr) (op : Op) (obj idx : Byte) (q : Req) (h : requestOf i = some (op, obj, idx, q))
    (w : i.wellFormed = true → q.wellFormed = true) : Statement i := by
  intro k op' obj' idx' q' e
  rw [h] at e
  cases e
  have := w k
  simp only [Req.wellFormed, Bool.and_eq_true, decide_eq_true_eq] at this
  simp only [List.length_cons]
  omega

theorem powerOn : Statement .powerOn := of_not_request _ rfl

theorem pinReset : Statement .pinReset := of_not_request _ rfl

theorem restartTaken : Statement .restartTaken := of_not_request _ rfl

theorem rxFirstCharacter (port : Port) : Statement (.rxFirstCharacter port) := of_not_request _ rfl

theorem rxTelegramEnd (port : Port) (chars : List RxChar) : Statement (.rxTelegramEnd port chars) := of_not_request _ rfl

theorem startupGraceExpiry : Statement .startupGraceExpiry := of_not_request _ rfl

theorem hourWindowBoundary : Statement .hourWindowBoundary := of_not_request _ rfl

theorem dutyPortionEnd (z : Nat) : Statement (.dutyPortionEnd z) := of_not_request _ rfl

theorem runSenseChange (level : Bool) : Statement (.runSenseChange level) := of_not_request _ rfl

theorem lockoutSenseChange (level : Bool) : Statement (.lockoutSenseChange level) := of_not_request _ rfl

theorem runRise : Statement .runRise := of_not_request _ rfl

theorem runFall : Statement .runFall := of_not_request _ rfl

theorem lockoutTaken : Statement .lockoutTaken := of_not_request _ rfl

theorem lockoutReleased : Statement .lockoutReleased := of_not_request _ rfl

theorem minOffElapsed : Statement .minOffElapsed := of_not_request _ rfl

theorem minOnExpiry : Statement .minOnExpiry := of_not_request _ rfl

theorem startWindowExpiry : Statement .startWindowExpiry := of_not_request _ rfl

theorem pumpOverrunExpiry : Statement .pumpOverrunExpiry := of_not_request _ rfl

theorem holdExtendExpiry : Statement .holdExtendExpiry := of_not_request _ rfl

theorem retryDue : Statement .retryDue := of_not_request _ rfl

theorem safetyWriteStart : Statement .safetyWriteStart := of_not_request _ rfl

theorem safetyWriteComplete : Statement .safetyWriteComplete := of_not_request _ rfl

theorem resetPulseEnd : Statement .resetPulseEnd := of_not_request _ rfl

theorem confirmTimeout : Statement .confirmTimeout := of_not_request _ rfl

theorem provingComplete : Statement .provingComplete := of_not_request _ rfl

theorem resetHistoryLapse : Statement .resetHistoryLapse := of_not_request _ rfl

theorem deliveryTimeout : Statement .deliveryTimeout := of_not_request _ rfl

theorem staleTimerExpiry : Statement .staleTimerExpiry := of_not_request _ rfl

theorem serviceHoldExpiry : Statement .serviceHoldExpiry := of_not_request _ rfl

theorem breakEntry (port : Port) : Statement (.breakEntry port) := of_not_request _ rfl

theorem breakExit (port : Port) : Statement (.breakExit port) := of_not_request _ rfl

theorem quietWaitMet (port : Port) : Statement (.quietWaitMet port) := of_not_request _ rfl

theorem earlyCollision (r : Room) (ch : Nat) : Statement (.earlyCollision r ch) := of_not_request _ rfl

theorem lateCollision (r : Room) (ch : Nat) : Statement (.lateCollision r ch) := of_not_request _ rfl

theorem backoffEnd (r : Room) : Statement (.backoffEnd r) := of_not_request _ rfl

theorem pTxMismatch : Statement .pTxMismatch := of_not_request _ rfl

theorem pRetryPauseEnd : Statement .pRetryPauseEnd := of_not_request _ rfl

theorem txSent (port : Port) : Statement (.txSent port) := of_not_request _ rfl

theorem holdOffRepeat : Statement .holdOffRepeat := of_not_request _ rfl

theorem nodeAgingCheck : Statement .nodeAgingCheck := of_not_request _ rfl

theorem stormIntervalStart : Statement .stormIntervalStart := of_not_request _ rfl

theorem broadcastIntervalStart : Statement .broadcastIntervalStart := of_not_request _ rfl

theorem pollDue : Statement .pollDue := of_not_request _ rfl

theorem responseWindowClose : Statement .responseWindowClose := of_not_request _ rfl

theorem valveTravelExpiry (slot : Nat) : Statement (.valveTravelExpiry slot) := of_not_request _ rfl

theorem noticeRepeat : Statement .noticeRepeat := of_not_request _ rfl

theorem read (obj idx : Byte) (q : Req) : Statement (.read obj idx q) :=
  of_request _ _ _ _ q rfl (fun h => h)

theorem enrolWrite (idx : Byte) (q : Req) : Statement (.enrolWrite idx q) :=
  of_request _ _ _ _ q rfl (fun h => (Bool.and_eq_true_iff.mp h).2)

theorem zoneWrite (idx : Byte) (q : Req) : Statement (.zoneWrite idx q) :=
  of_request _ _ _ _ q rfl (fun h => (Bool.and_eq_true_iff.mp h).2)

theorem reserveSetbackWrite (q : Req) : Statement (.reserveSetbackWrite q) :=
  of_request _ _ _ _ q rfl (fun h => h)

theorem pollWrite (idx : Byte) (q : Req) : Statement (.pollWrite idx q) :=
  of_request _ _ _ _ q rfl (fun h => (Bool.and_eq_true_iff.mp h).2)

theorem strapStagedWrite (idx : Byte) (q : Req) : Statement (.strapStagedWrite idx q) :=
  of_request _ _ _ _ q rfl (fun h => (Bool.and_eq_true_iff.mp h).2)

theorem scalingWrite (item : ScalingItem) (q : Req) : Statement (.scalingWrite item q) :=
  of_request _ _ _ _ q rfl (fun h => h)

theorem filterShapeWrite (item : ShapeItem) (q : Req) : Statement (.filterShapeWrite item q) :=
  of_request _ _ _ _ q rfl (fun h => h)

theorem tankLevelsWrite (item : LevelsItem) (q : Req) : Statement (.tankLevelsWrite item q) :=
  of_request _ _ _ _ q rfl (fun h => h)

theorem burnerSetWrite (item : BurnerItem) (q : Req) : Statement (.burnerSetWrite item q) :=
  of_request _ _ _ _ q rfl (fun h => h)

theorem recoverySetWrite (item : RecoveryItem) (q : Req) : Statement (.recoverySetWrite item q) :=
  of_request _ _ _ _ q rfl (fun h => h)

theorem relaySettingsWrite (item : RelayItem) (q : Req) : Statement (.relaySettingsWrite item q) :=
  of_request _ _ _ _ q rfl (fun h => h)

theorem noticeMaskWrite (q : Req) : Statement (.noticeMaskWrite q) :=
  of_request _ _ _ _ q rfl (fun h => h)

theorem counterClear (obj idx : Byte) (q : Req) : Statement (.counterClear obj idx q) :=
  of_request _ _ _ _ q rfl (fun h => h)

theorem mgmtWrite (obj idx : Byte) (q : Req) : Statement (.mgmtWrite obj idx q) :=
  of_request _ _ _ _ q rfl (fun h => h)

theorem swapStrap (idx : Byte) (q : Req) : Statement (.swapStrap idx q) :=
  of_request _ _ _ _ q rfl (fun h => h)

theorem store (idx : Byte) (q : Req) : Statement (.store idx q) :=
  of_request _ _ _ _ q rfl (fun h => h)

theorem storeWriteStart : Statement .storeWriteStart := of_not_request _ rfl

theorem storeComplete (verified : Bool) : Statement (.storeComplete verified) := of_not_request _ rfl

theorem clearNotice (idx : Byte) (q : Req) : Statement (.clearNotice idx q) :=
  of_request _ _ _ _ q rfl (fun h => h)

theorem resetBurner (idx : Byte) (q : Req) : Statement (.resetBurner idx q) :=
  of_request _ _ _ _ q rfl (fun h => h)

theorem clearHardLock (idx : Byte) (q : Req) : Statement (.clearHardLock idx q) :=
  of_request _ _ _ _ q rfl (fun h => h)

theorem holdTank (idx : Byte) (q : Req) : Statement (.holdTank idx q) :=
  of_request _ _ _ _ q rfl (fun h => h)

theorem forgetLevel (idx : Byte) (q : Req) : Statement (.forgetLevel idx q) :=
  of_request _ _ _ _ q rfl (fun h => h)

theorem restart (idx : Byte) (q : Req) : Statement (.restart idx q) :=
  of_request _ _ _ _ q rfl (fun h => h)

theorem segmentLineChange (port : Port) (level : Bool) : Statement (.segmentLineChange port level) := of_not_request _ rfl

end Sys2Proof.Laws.WellFormed
end

