-- ==== Sys2Proof/Tests/Slice0.lean ====
section
/-! SUPPORT. The model's own tests: the refusals of the well-formedness checks, worked values of the spec, and for each
statement a state and operands that meet its hypotheses. -/

namespace Sys2Proof.Tests

open Sys2Proof.Machine

-- One theorem at a time: each kernel computation on a thread of its own costs a gigabyte.
set_option Elab.async false

/-! ### Well-formedness -/

/-- A request of the service tool on H. -/
def tool (data : List Byte) : Req := { room := .h, src := 126, data := data }

theorem test_dutyPortionEnd_zone_refused : (Instr.dutyPortionEnd 8).wellFormed = false := by decide
theorem test_earlyCollision_character_refused : (Instr.earlyCollision .h 5).wellFormed = false := by decide
theorem test_earlyCollision_zero_refused : (Instr.earlyCollision .h 0).wellFormed = false := by decide
theorem test_lateCollision_character_refused : (Instr.lateCollision .y 4).wellFormed = false := by decide
theorem test_lateCollision_length_refused : (Instr.lateCollision .y 23).wellFormed = false := by decide
theorem test_valveTravelExpiry_slot_refused : (Instr.valveTravelExpiry 12).wellFormed = false := by decide
theorem test_request_source_refused : (Instr.read 1 0 { room := .h, src := 0, data := [] }).wellFormed = false := by decide
theorem test_request_broadcast_source_refused :
    (Instr.swapStrap 0 { room := .y, src := 127, data := [] }).wellFormed = false := by decide
theorem test_request_length_refused : (Instr.read 1 0 (tool (List.replicate 14 0))).wellFormed = false := by decide
theorem test_enrolWrite_slot_refused : (Instr.enrolWrite 16 (tool [])).wellFormed = false := by decide
theorem test_zoneWrite_zone_refused : (Instr.zoneWrite 8 (tool [])).wellFormed = false := by decide
theorem test_pollWrite_slot_refused : (Instr.pollWrite 12 (tool [])).wellFormed = false := by decide
theorem test_strapStagedWrite_index_refused : (Instr.strapStagedWrite 33 (tool [0])).wellFormed = false := by decide
theorem test_wellFormed_commands :
    (Instr.dutyPortionEnd 7).wellFormed && (Instr.earlyCollision .h 4).wellFormed && (Instr.lateCollision .h 22).wellFormed &&
      (Instr.zoneWrite 7 (tool [])).wellFormed && (Instr.strapStagedWrite 32 (tool [5])).wellFormed = true := by decide

/-- No row of the table has bits, so no word spells a command. -/
theorem test_no_word_is_a_command : decodeTableWord 16 0x1234 = none := rfl

/-! ### Worked values of the spec -/

/-- The POLL of section 7.2: the running value after each byte of its table, and CHECK. -/
theorem test_check_of_poll :
    checkOf [0x14] = 0xB345 ∧ checkOf [0x14, 0x00] = 0xD2B8 ∧ checkOf [0x14, 0x00, 0x20] = 0x775D ∧
      checkOf [0x14, 0x00, 0x20, 0x00] = 0x5370 := by decide +kernel

/-- The characters of that POLL on the line (section 7.2). -/
theorem test_poll_on_the_line : (composeTel 0x14 0x20 []).wire = [0x14, 0x00, 0x20, 0x00, 0x53, 0x70] := by decide +kernel

/-- Running the computation over every character leaves 0 (R123). -/
theorem test_check_leaves_zero : checkOf [0x14, 0x00, 0x20, 0x00, 0x53, 0x70] = 0 := by decide +kernel

/-- The settings of the worked sequences of chapters 4 and 5: HEAD, ZERO 2000, GAIN 1500. -/
def workedLevel : LevelSet := { factoryImage.level with zero := 2000, gain := 1500 }

/-- Raw 30000 is depth 10253 (section 4.2), and 0 raw is depth 0. -/
theorem test_scaling :
    scaleDepth workedLevel 30000 = 10253 ∧ scaleDepth workedLevel 31500 = 10803 ∧ scaleDepth workedLevel 28000 = 9521 ∧
      scaleDepth { workedLevel with sense := .ullage } 30000 = 1747 := by decide +kernel

/-- The strapping table of the worked conversion of chapter 5. -/
def workedBank : Bank :=
  { n := 5
    points := [⟨0, 0⟩, ⟨3000, 4200⟩, ⟨6000, 11800⟩, ⟨9000, 19600⟩, ⟨12000, 25000⟩] ++ List.replicate 27 ⟨0, 0⟩ }

/-- Depth 10253 at 4.2 °C holds 21855 dL, 22067 dL at 15 °C, with 3145 dL left (section 5.7). -/
theorem test_volume_conversion :
    computeRecord { bankA := workedBank, bankB := workedBank, coef := 900 } 10253 (some 42) 140 =
      { v := 21855, v15 := 22067, space := 3145, flag := .none, time := 140 } := by decide +kernel

/-- The bank of the worked swap of chapter 5 passes its check. -/
theorem test_worked_swap_passes :
    strapFault { workedBank with
      points := [⟨0, 0⟩, ⟨3000, 4200⟩, ⟨6000, 11800⟩, ⟨9000, 19400⟩, ⟨12000, 25000⟩] ++ List.replicate 27 ⟨0, 0⟩ } =
    none := by decide +kernel

/-- A character is a start bit, eight data bits least significant first, even parity, and a stop bit (R121). -/
theorem test_character_levels :
    charLevels 0x14 = [false, false, false, true, false, true, false, false, false, false, true] := by decide

/-! ### States for the witnesses -/

/-- What `Settled` asks, as one computation. -/
def okSettled (s : State) : Bool :=
  !s.sched.wake && (s.mgmt.line == decide (enabledSet s ≠ 0)) && (decide (enabledSet s ≠ 0) || s.mgmt.repeatFrom == none)

theorem settled_of {s : State} (h : okSettled s = true) : Settled s := by
  simp only [okSettled, Bool.and_eq_true, Bool.not_eq_true', beq_iff_eq, Bool.or_eq_true, decide_eq_true_eq] at h
  exact ⟨h.1.1, by simp [NoticeSettled, h.1.2], fun e => (h.2.resolve_left fun n => n e)⟩

/-- An hour after reset, with the lines idle. -/
def base : State :=
  { State.reset with
    now := 36000000, portH := { armed := true }, portY := { armed := true }, portP := { armed := true },
    zone := { State.reset.zone with grace := false } }

theorem base_settled : Settled base := settled_of (by decide +kernel)

/-- A state with its supervisor changed. -/
def withSup (f : Supervisor → Supervisor) (s : State) : State := s.setSup (f s.sup)

/-- A state with its recovery unit changed. -/
def withRecov (f : Recovery → Recovery) (s : State) : State := s.setRecov (f s.recov)

/-- A node entry heard now, with a demand part of these flags. -/
def heardUnit (addr : Nat) (seg : Room) (calling frost : Bool) : NodeEntry :=
  { addr := addr, seg := seg, heard := 3600, storm := 1, holdOffSent := false
    part := some { temp := 190, setpoint := none, batteryLow := false, manual := false, calling := calling, frost := frost,
                   time := 3600 } }

/-- Zone 0 without a fresh unit, zone 1 unused, zone 2 in frost, zone 3 calling, zone 4 satisfied; 45 a service tool. -/
def rooms : State :=
  { base with
    relay := { base.relay with
      nodes := [some (heardUnit 42 .h true true), some (heardUnit 43 .y true false), some (heardUnit 44 .h false false)] ++
        List.replicate 21 none }
    zone := { base.zone with
      enrol := [some ⟨41, .roomUnit 0⟩, some ⟨42, .roomUnit 2⟩, some ⟨43, .roomUnit 3⟩, some ⟨44, .roomUnit 4⟩,
        some ⟨45, .service⟩] ++ List.replicate 11 none
      table := [factoryZone .essential, factoryZone .unused, factoryZone .essential, factoryZone .normal,
        factoryZone .low] ++ List.replicate 3 (factoryZone .unused) } }

/-- A valve record closed and reported closed. -/
def shut : ValveRecord :=
  { desired := .closed, since := 100, pending := false, reported := .closed, fault := false, travel := false }

/-- A poll-list entry that is due now. -/
def pollEntry (addr : Nat) (role : PollRole) : PollEntry :=
  { addr := addr, role := role, interval := 15, present := true, misses := 0, lastAnswer := 3590, due := 36000,
    start := some 35850, base := 35850 }

/-- A plant of a gauge at 90 and a valve at 91, with the P line idle. -/
def plant : State :=
  { rooms with sched := { rooms.sched with
      slots := [some (pollEntry 90 .gauge), some (pollEntry 91 (.valve shut))] ++ List.replicate 10 none } }

theorem rooms_settled : Settled rooms := settled_of (by decide +kernel)
theorem plant_settled : Settled plant := settled_of (by decide +kernel)

/-- A statement about the entry of every slot, by computation over the slots. -/
theorem every_slot {α : Type} {xs : List (Option α)} (p : Nat → α → Bool)
    (h : ((List.range xs.length).all fun i => (slotGet xs i).all (p i)) = true) {i : Nat} {a : α}
    (e : slotGet xs i = some a) : p i a = true := by
  rw [List.all_eq_true] at h
  have hi : i < xs.length := by
    by_contra hn
    simp [slotGet, List.getElem?_eq_none (Nat.le_of_not_lt hn)] at e
  have := h i (List.mem_range.mpr hi)
  simpa [e] using this

/-! ### Witnesses: the step and the resets -/

theorem witness_StepRunsTheFrontCommand :
    ({ base with pending := [.pollDue] } : State).pending = [.pollDue] ∧ base.pending = [] ∧
      ((base.setNow 42949672959998).now + 1) / 10000 = 4294967295 ∧
      4294967295 < ((base.setNow 42949672959999).now + 1) / 10000 := by decide +kernel

/-- A part whose store and safety record fail their checks. -/
def blank : State := { base with nv := { store := none, safety := none } }

/-- A part that waits to restart, its store being written. -/
def restarting : State :=
  { base with mgmt := { base.mgmt with restart := true, job := .writing .h 126 0 factoryImage } }

/-- A part whose safety record has its flag set, another being written. -/
def locked : State :=
  { base with nv :=
      { base.nv with
        safety := some { flag := true, episode := 7, cause := .noIgnition, history := [⟨50, .automatic, 7, .pending⟩] }
        writing := some factorySafety } }

/-- Every reset kind, with and without stores, and with a write to cut off. -/
theorem witness_resets :
    TakesReset .powerOn base ∧ TakesReset .pinReset blank ∧ TakesReset .restartTaken restarting ∧
      TakesReset .powerOn locked ∧ storeFound base = some factoryImage ∧ storeFound blank = none ∧
      safetyFound base = some factorySafety ∧ safetyFound blank = none ∧ storeWriting base = false ∧
      base.nv.writing = none ∧ restarting.mgmt.job = .writing .h 126 0 factoryImage ∧
      locked.nv.writing = some factorySafety :=
  ⟨.inl rfl, .inr (.inl rfl), .inr (.inr (by decide +kernel)), .inl rfl, by decide +kernel⟩

theorem witness_ResetRestoresTheBurnerUnits_flag :
    TakesReset .pinReset { locked with nv := { locked.nv with writing := none } } ∧
      (safetyFound { locked with nv := { locked.nv with writing := none } }).map (·.flag) = some true :=
  ⟨.inr (.inl rfl), by decide +kernel⟩

/-- The state after a command. -/
def after (c : Instr) (s : State) : State :=
  match exec c s with
  | .next t => t
  | _ => s

/-- The enabled set after a reset: empty with good stores, and not when the store failed its check. -/
theorem witness_ResetRestartsThePorts_notice :
    enabledSet (after .powerOn base) = 0 ∧ enabledSet (after .powerOn blank) ≠ 0 := by decide +kernel

/-! ### Witnesses: zones -/

theorem witness_EveryZoneIsEvaluated_boundary :
    rooms.sec % 3600 = 0 ∧ rooms.zone.grace = false ∧ rooms.zone.table.length = 8 ∧ 5 < rooms.zone.states.length ∧
      freshMembers rooms 0 = [] ∧ (factoryZone .unused).cls = .unused ∧
      rooms.zone.table[1]? = some (factoryZone .unused) ∧ rooms.zone.table[0]? = some (factoryZone .essential) ∧
      governing rooms (factoryZone .essential) 2 = [heardUnit 42 .h true true] ∧
      governing rooms (factoryZone .normal) 3 = [heardUnit 43 .y true false] ∧
      governing rooms (factoryZone .low) 4 = [heardUnit 44 .h false false] := by decide +kernel

theorem witness_EveryZoneIsEvaluated_grace :
    ({ rooms with now := 1200000, zone := { rooms.zone with grace := true } } : State).sec = 120 ∧
      (rooms.setZone { rooms.zone with grace := true }).sec % 3600 = 0 ∧
      freshMembers (rooms.setZone { rooms.zone with grace := true }) 0 = [] := by decide +kernel

/-- A claim about every node entry, by computation over the table. -/
theorem every_node {nodes : List (Option NodeEntry)} (p : NodeEntry → Bool)
    (h : (nodes.all fun o => o.all p) = true) {n : NodeEntry} (m : some n ∈ nodes) : p n = true := by
  simpa using List.all_eq_true.mp h _ m

/-- The fresh members of zones 2, 3 and 4, and none of zone 0. -/
theorem witness_EveryZoneIsEvaluated_members :
    (some (heardUnit 42 .h true true) ∈ rooms.relay.nodes ∧ unitZone rooms 42 = some 2) ∧
      (some (heardUnit 43 .y true false) ∈ rooms.relay.nodes ∧ unitZone rooms 43 = some 3) ∧
      (some (heardUnit 44 .h false false) ∈ rooms.relay.nodes ∧ unitZone rooms 44 = some 4) ∧
      ∀ n, some n ∈ rooms.relay.nodes → unitZone rooms n.addr ≠ some 0 :=
  ⟨by decide +kernel, by decide +kernel, by decide +kernel, fun _ m =>
    of_decide_eq_true (every_node (fun n => decide (unitZone rooms n.addr ≠ some 0)) (by decide +kernel) m)⟩

/-- The end of a duty portion of 15 minutes, to the second. -/
theorem witness_DutyPortionEndStopsTheZone :
    (rooms.setNow 45000000).zone.table[0]? = some (factoryZone .essential) ∧ 0 < rooms.zone.states.length ∧
      (factoryZone .essential).duty = 15 ∧ rooms.zone.grace = false ∧ rooms.acct.tank ≠ .reserve ∧
      15 * 60 = (rooms.setNow 45000000).sec % 3600 := by decide +kernel

/-- A telegram with CHECK computed. -/
def sealed (dest src kind : Byte) (payload : List Byte) : Telegram :=
  let t : Telegram := { dest := dest, src := src, kind := kind, payload := payload, check := 0 }
  { t with check := checkOf t.body }

/-- A DEMAND of 14.5 °C from unit 43. -/
def demand43 : Telegram := sealed 0 43 0x11 [0x00, 0x91, 0x00]

/-- Port `port` holds a telegram in assembly. -/
def hearing (port : Port) (s : State) : State :=
  s.setPort port { s.port port with asm := some { hasBuffer := true, start := s.now }, line := .busy s.now }

/-- In RESERVE the NORMAL zone 3 of 18.0 °C is set back to 15.0 °C: 14.5 °C is the differential below it. -/
theorem witness_DemandIsStored :
    ((hearing .y rooms).port (roomPort .y)).asm = some { hasBuffer := true, start := 36000000 } ∧
      ((hearing .y rooms).port (roomPort .y)).phase ≠ .sending ∧ demand43.src.toNat = 43 ∧ demand43.dest = 0 ∧
      demand43.kind = 0x11 ∧ demand43.payload = beSigned 2 145 ++ [0] ++ [] ∧
      nodeOf (hearing .y rooms) 43 = some (heardUnit 43 .y true false) ∧
      (heardUnit 43 .y true false).storm < rooms.relay.set.nodeCap ∧ unitZone (hearing .y rooms) 43 = some 3 ∧
      rooms.zone.table[3]? = some (factoryZone .normal) ∧
      max (min 180 (factoryZone .normal).ceiling - rooms.zone.setback) (factoryZone .normal).frost = 150 ∧
      (145 : Int) ≤ 150 - (factoryZone .normal).diff ∧ 3 < rooms.zone.states.length ∧
      ((hearing .y rooms).port (roomPort .y)).queue.length < 5 ∧ rooms.pool.held = false ∧ 13 ≤ rooms.pool.free := by
  decide +kernel

/-- Another source: unknown, with a slot empty, or known on the other segment, with a setpoint in its DEMAND. -/
theorem witness_DemandIsStored_sources :
    (nodeOf (hearing .h rooms) 41 = none ∧ (hearing .h rooms).relay.nodes[3]? = some none ∧
        unitZone (hearing .h rooms) 41 = some 0) ∧
      (nodeOf (hearing .h rooms) 43).map (·.seg) = some .y ∧
      (sealed 0 43 0x11 [0x00, 0x91, 0x03, 0x00, 0xC8]).payload = beSigned 2 145 ++ [3] ++ beSigned 2 200 ∧
      (-32768 : Int) ≤ 200 ∧ (200 : Int) < 32768 := by decide +kernel

/-- A DEMAND of 4 payload bytes, and one from an address that is no room unit. -/
theorem witness_DemandIsStored_refused :
    (sealed 0 43 0x11 [0, 1, 0, 1]).payload.length ≠ 3 ∧ (sealed 0 43 0x11 [0, 1, 0, 1]).payload.length ≠ 5 ∧
      unitZone (hearing .y rooms) 45 = none ∧ (sealed 0 45 0x11 [0, 1, 0]).src.toNat = 45 ∧
      nodeOf (hearing .y rooms) 45 = none ∧ (hearing .y rooms).relay.nodes[3]? = some none := by decide +kernel

/-- The plant states of R17 that the clauses name. -/
theorem witness_DemandIsStored_plant :
    blocking rooms = false ∧ rooms.sup.state ≠ .locked ∧ rooms.sup.state ≠ .inhibited ∧
      (withSup (fun u => { u with state := .inhibited }) rooms).sup.state = .inhibited ∧
      (withSup (fun u => { u with state := .locked }) rooms).sup.state = .locked ∧
      (withRecov (fun r => { r with state := .hardLock }) rooms).recov.state = .hardLock := by decide +kernel

theorem hearing_rooms_settled : Settled (hearing .y rooms) := settled_of (by decide +kernel)

theorem witness_demand_is_well_sent : WellSent demand43 :=
  ⟨by decide +kernel, by decide +kernel, by decide +kernel, by decide +kernel⟩

/-! ### Witnesses: the supervisor -/

theorem witness_SenseChangesMoveTheDebounce :
    Settled base ∧ base.sup.run.raw ≠ true ∧ base.sup.lockout.raw ≠ true := ⟨base_settled, by decide +kernel⟩

/-- A call in CALLING. -/
def calling : State :=
  withSup (fun u => { u with state := .calling, pump := true, minOn := some 35000, startWindow := some 34800 }) base

/-- The RUN input has been active for exactly 0.5 s. -/
def rising (s : State) : State := withSup (fun u => { u with run := { raw := true, value := false, timer := some 35995 } }) s

/-- The RUN input has been inactive for exactly 0.5 s after a burn. -/
def falling (s : State) : State :=
  withSup (fun u => { u with
    state := .firing, run := { raw := false, value := true, timer := some 35995 }
    rr := { u.rr with active := true, rise := 30000, start := 33000, seen := true } }) s

/-- An episode in PROVING. -/
def proving : State :=
  withRecov (fun r => { r with
    state := .proving, counter := 3, episode := some { number := 3, k := 2, cause := .flameLoss } }) base

theorem witness_RunRiseStartsTheRun :
    Settled (rising base) ∧ Settled (rising calling) ∧ Settled (rising proving) ∧
      (rising base).sup.run = { raw := true, value := false, timer := some 35995 } ∧ 35995 + 5 = base.tenths ∧
      callAsserted (rising base) = false ∧ (rising calling).sup.state = .calling ∧
      (rising proving).recov.state = .proving :=
  ⟨settled_of (by decide +kernel), settled_of (by decide +kernel), settled_of (by decide +kernel), by decide +kernel⟩

theorem witness_RunFallCreditsTheBurn :
    Settled (falling calling) ∧ (falling calling).sup.run = { raw := false, value := true, timer := some 35995 } ∧
      35995 + 5 = (falling calling).tenths ∧ (falling calling).sup.state = .firing ∧
      (36000 - 33000) * (falling calling).acct.set.nozzleRate / 3600000 = 1 :=
  ⟨settled_of (by decide +kernel), by decide +kernel⟩

/-- The LOCKOUT input has been active for exactly 2.0 s. -/
def tripped (s : State) : State :=
  withSup (fun u => { u with lockout := { raw := true, value := false, timer := some 35980 } }) s

/-- An episode in FUEL_WAIT. -/
def fuelWaiting : State :=
  withSup (fun u => { u with state := .locked })
    (withRecov (fun r => { r with
      state := .fuelWait, counter := 3, episode := some { number := 3, k := 1, cause := .fuelEmpty } }) base)

theorem witness_LockoutTakenOpensAnEpisode :
    (tripped calling).sup.lockout = { raw := true, value := false, timer := some 35980 } ∧
      35980 + 20 = (tripped calling).tenths ∧ (tripped calling).recov.state = .closed ∧ callAsserted (tripped calling) = true ∧
      (tripped proving).recov.state = .proving ∧ (tripped fuelWaiting).recov.state = .fuelWait ∧
      (tripped calling).sup.set.pumpOverrun ≠ 0 ∧
      (withSup (fun u => { u with set := { u.set with pumpOverrun := 0 } }) (tripped calling)).sup.set.pumpOverrun = 0 := by
  decide +kernel

/-- The LOCKOUT input has been inactive for exactly 2.0 s. -/
def released (s : State) : State :=
  withSup (fun u => { u with state := .locked, lockout := { raw := false, value := true, timer := some 35980 } }) s

/-- The episode of the states below. -/
def episode3 : Episode := { number := 3, k := 2, cause := .flameLoss, ref := some 24000 }

/-- An episode that waits for its second automatic attempt, due at this tenth. -/
def waiting : State :=
  withSup (fun u => { u with state := .locked, lockout := { raw := true, value := true, timer := none } })
    (withRecov (fun r => { r with
      state := .waitRetry, counter := 3, episode := some { episode3 with ref := some 33600 }
      safe := { r.safe with history := [⟨1000, .automatic, 3, .notCleared⟩] } }) base)

/-- The attempt in hand of the states below. -/
def attempt3 : Attempt := { automatic := true, pos := 0, carried := true }

/-- The episode of `waiting` with an attempt in hand, in the state `st`. -/
def attempting (st : RecState) : State :=
  withRecov (fun r => { r with
    state := st, episode := some { episode3 with attempt := some attempt3 }
    pulseEnd := if st = .pulsing then some 36000 else none, confirmFrom := if st = .confirming then some 35900 else none })
    waiting

theorem witness_LockoutReleaseEndsTheWait :
    Settled (released waiting) ∧ Settled (released (attempting .confirming)) ∧ Settled (released fuelWaiting) ∧
      Settled (released base) ∧ (released base).recov.state = .closed ∧
      (released waiting).sup.lockout = { raw := false, value := true, timer := some 35980 } ∧
      35980 + 20 = (released waiting).tenths ∧ (released waiting).recov.state = .waitRetry ∧
      (released waiting).recov.episode.isSome ∧ (released waiting).sup.state = .locked ∧
      0 < (released waiting).sup.set.minOff ∧ (released (attempting .confirming)).recov.state = .confirming ∧
      (released (attempting .pulsing)).recov.state = .pulsing :=
  ⟨settled_of (by decide +kernel), settled_of (by decide +kernel), settled_of (by decide +kernel),
    settled_of (by decide +kernel), by decide +kernel⟩

/-- Zone 3 is served and min-off, from the tenth 34200, ends at this tenth. -/
def wantingCall (st : SupState) : State :=
  withSup (fun u => { u with state := st, wanting := [3], served := [3], minOffRef := 34200 }) rooms

theorem witness_MinOffElapsedStartsTheCall :
    Settled (wantingCall .idle) ∧ Settled (wantingCall .waitOff) ∧ (wantingCall .idle).sup.rr.active = false ∧
      34200 + (wantingCall .idle).sup.set.minOff * 10 = (wantingCall .idle).tenths ∧ (wantingCall .idle).sup.state = .idle ∧
      (wantingCall .waitOff).sup.state = .waitOff ∧ (wantingCall .idle).sup.served ≠ [] :=
  ⟨settled_of (by decide +kernel), settled_of (by decide +kernel), by decide +kernel⟩

/-- A call that nothing wants, its min-on ending at this tenth. -/
def holdingOn (overrun : Nat) : State :=
  withSup (fun u => { u with
    state := .holding, minOn := some 33600, heldSet := [3], pump := true, set := { u.set with pumpOverrun := overrun } })
    rooms

theorem witness_MinOnExpiryEndsTheCall :
    Settled (holdingOn 120) ∧ Settled (holdingOn 0) ∧ callAsserted (holdingOn 0) = true ∧ (holdingOn 0).sup.served = [] ∧
      (holdingOn 0).sup.minOn = some 33600 ∧ 33600 + (holdingOn 0).sup.set.minOn * 10 = (holdingOn 0).tenths ∧
      callAsserted (holdingOn 120) = true ∧ (holdingOn 120).sup.served = [] ∧
      (holdingOn 120).sup.set.pumpOverrun ≠ 0 ∧ (holdingOn 0).sup.set.pumpOverrun = 0 :=
  ⟨settled_of (by decide +kernel), settled_of (by decide +kernel), by decide +kernel⟩

theorem witness_StartWindowRaisesStartOverdue :
    calling.sup.state = .calling ∧ calling.sup.startWindow = some 34800 ∧ 34800 + 1200 = calling.tenths := by decide +kernel

theorem witness_OverrunEndStopsThePump :
    (withSup (fun u => { u with overrun := some 34800, pump := true, heldSet := [3] }) plant).sup.overrun = some 34800 ∧
      34800 + plant.sup.set.pumpOverrun * 10 = plant.tenths := by decide +kernel

/-- The hold extension, and a SERVICE hold, end now. -/
def heldOn : State :=
  { withSup (fun u => { u with holdExt := some 35700 }) base with
    level := { base.level with burnerStart := true, serviceFrom := some 0 } }

theorem witness_HoldTimersLeaveTheirCauses :
    Settled heldOn ∧ heldOn.sup.holdExt = some 35700 ∧ 35700 + heldOn.sup.set.holdExtend * 10 = heldOn.tenths ∧
      heldOn.level.serviceFrom = some 0 ∧ 0 + 3600 = heldOn.sec := ⟨settled_of (by decide +kernel), by decide +kernel⟩

/-! ### Witnesses: lockout recovery -/

/-- A state with the tank EMPTY, and the NOTICE line asserted for it. -/
def emptied (s : State) : State :=
  { s with acct := { s.acct with tank := .empty }, mgmt := { s.mgmt with line := true, repeatFrom := some s.now } }

/-- `waiting` with the tank EMPTY. -/
def waitingEmpty : State := emptied waiting

theorem witness_DueTimeDecidesTheAttempt :
    Settled waiting ∧ Settled waitingEmpty ∧ waiting.recov.state = .waitRetry ∧
      waiting.recov.episode = some { episode3 with ref := some 33600 } ∧
      33600 + min (waiting.recov.set.retryBase * 2 ^ (2 - 1)) (max waiting.recov.set.cap waiting.recov.set.retryBase) * 10 =
        waiting.tenths ∧
      autoCount waiting.recov.safe.history < waiting.recov.set.budget ∧ waiting.acct.tank ≠ .empty ∧
      waitingEmpty.acct.tank = .empty :=
  ⟨settled_of (by decide +kernel), settled_of (by decide +kernel), by decide +kernel⟩

/-- `waiting` with as many AUTOMATIC entries as BUDGET allows. -/
def spent : State :=
  withRecov (fun r => { r with safe := { r.safe with history := List.replicate 3 ⟨1000, .automatic, 3, .notCleared⟩ } }) waiting

theorem witness_DueTimeDecidesTheAttempt_budget :
    Settled spent ∧ spent.recov.set.budget = autoCount spent.recov.safe.history ∧ spent.acct.tank ≠ .empty ∧
      (spent.recov.safe.history.all fun h => decide (spent.sec < h.time + spent.recov.set.window)) = true :=
  ⟨settled_of (by decide +kernel), by decide +kernel⟩

/-- `attempting` with a safety write in progress. -/
def writing (s : State) : State := s.setNv { s.nv with writing := some factorySafety }

/-- `attempting` with the tank EMPTY and a safety write in progress. -/
def writingEmpty : State :=
  writing (emptied (attempting .waitRetry))

theorem witness_SafetyWritesComeBeforeThePulse :
    Settled (base.setNv { base.nv with waiting := true }) ∧ memoryIdle (base.setNv { base.nv with waiting := true }) = true ∧
      Settled (writing (attempting .waitRetry)) ∧ (writing (attempting .waitRetry)).nv.writing = some factorySafety ∧
      (writing (attempting .waitRetry)).recov.state = .waitRetry ∧
      (writing (attempting .waitRetry)).recov.episode = some { episode3 with attempt := some attempt3 } ∧
      (writing (attempting .waitRetry)).sup.lockout.value = true ∧ (attempting .waitRetry).acct.tank ≠ .empty ∧
      Settled writingEmpty ∧ writingEmpty.acct.tank = .empty ∧ Settled (writing base) ∧
      attemptInHand (writing base) = none :=
  ⟨settled_of (by decide +kernel), by decide +kernel, settled_of (by decide +kernel), by decide +kernel,
    by decide +kernel, by decide +kernel, by decide +kernel, by decide +kernel, settled_of (by decide +kernel),
    by decide +kernel, settled_of (by decide +kernel), by decide +kernel⟩

theorem witness_PulseConfirmationAndProving :
    Settled (attempting .pulsing) ∧ (attempting .pulsing).recov.pulseEnd = some 36000 ∧
      (attempting .pulsing).sup.lockout.value = true ∧
      (withSup (fun u => { u with lockout := {} }) (attempting .pulsing)).sup.lockout.value = false ∧
      Settled (attempting .confirming) ∧ (attempting .confirming).recov.confirmFrom = some 35900 ∧
      35900 + 100 = (attempting .confirming).tenths ∧
      (attempting .confirming).recov.episode = some { episode3 with attempt := some attempt3 } :=
  ⟨settled_of (by decide +kernel), by decide +kernel, by decide +kernel, by decide +kernel,
    settled_of (by decide +kernel), by decide +kernel⟩

/-- A service pulse in CONFIRMING, entered from `ret`. -/
def serviceEnds (ret : ReturnState) (s : State) : State :=
  withRecov (fun r => { r with
    episode := some { episode3 with
      ref := some 33600, ret := some ret, attempt := some { attempt3 with automatic := false } } }) s

/-- The ends of a service pulse: the due time of WAIT_RETRY has passed, or is to come, or FUEL_WAIT with and without oil. -/
theorem witness_PulseConfirmationAndProving_service :
    Settled (serviceEnds .waitRetry (attempting .confirming)) ∧
      Settled (serviceEnds .fuelWait (emptied (attempting .confirming))) ∧
      (serviceEnds .fuelWait (emptied (attempting .confirming))).acct.tank = .empty ∧
      (serviceEnds .fuelWait (attempting .confirming)).acct.tank ≠ .empty ∧
      (serviceEnds .waitRetry (attempting .confirming)).recov.state = .confirming ∧
      (serviceEnds .waitRetry (attempting .confirming)).recov.confirmFrom = some 35900 ∧
      (serviceEnds .fuelWait (emptied (attempting .confirming))).recov.confirmFrom = some 35900 :=
  ⟨settled_of (by decide +kernel), settled_of (by decide +kernel), by decide +kernel⟩

/-- The burner has run for exactly 120 s in PROVING. -/
def proved : State :=
  withSup (fun u => { u with rr := { u.rr with active := true } })
    (withRecov (fun r => { r with episode := some { episode3 with proving := some 34800 } }) proving)

theorem witness_PulseConfirmationAndProving_proved :
    Settled proved ∧ proved.recov.state = .proving ∧ proved.sup.rr.active = true ∧
      proved.recov.episode = some { episode3 with proving := some 34800 } ∧ 34800 + 1200 = proved.tenths :=
  ⟨settled_of (by decide +kernel), by decide +kernel⟩

/-! ### Witnesses: the oil -/

/-- An open delivery record an hour old. -/
def openDelivery : DeliveryRecord :=
  { start := 0, startV15 := 900, openTime := 0, settle := 0, stop := none, endV15 := none, delivered := none, reason := none }

/-- The state of that record. -/
def delivering : State :=
  base.setAcct { base.acct with deliveries := [openDelivery], lastH0 := some ⟨2100, 3500⟩ }

theorem witness_DeliveryTimeoutClosesTheRecord :
    Settled delivering ∧ delivering.acct.deliveries = [] ++ [openDelivery] ∧ openDelivery.reason = none ∧
      openDelivery.openTime + 3600 = delivering.sec ∧ delivering.acct.lastH0 = some ⟨2100, 3500⟩ :=
  ⟨settled_of (by decide +kernel), by decide +kernel⟩

theorem witness_SilentGaugeGoesStale :
    (plant.setLevel { plant.level with staleFrom := some 3000 }).level.staleFrom = some 3000 ∧ 3000 + 600 = plant.sec := by
  decide +kernel

/-- The points of the worked table, from depth 100 on. -/
def workedPoints : List Point := [⟨100, 40⟩, ⟨3000, 4200⟩, ⟨6000, 11800⟩, ⟨9000, 19600⟩, ⟨12000, 25000⟩]

theorem witness_VolumeFollowsTableAndTemperature :
    workedPoints.head? = some ⟨100, 40⟩ ∧ workedPoints.getLast? = some ⟨12000, 25000⟩ ∧ 2 ≤ workedPoints.length ∧
      workedPoints.Pairwise (fun a b => a.depth < b.depth ∧ a.vol ≤ b.vol) ∧ workedPoints[3]? = some ⟨9000, 19600⟩ ∧
      workedPoints[3 + 1]? = some ⟨12000, 25000⟩ ∧ factoryImage.coef ≤ 2000 := by decide +kernel

theorem witness_TankStateMovesWithHysteresis :
    base.acct.tank = .unknown ∧ (evaluateTank 800 base).acct.tank = .empty ∧ (emptied fuelWaiting).acct.tank = .empty ∧
      (evaluateTank 1300 (emptied fuelWaiting)).acct.tank ≠ .empty ∧ fuelWaiting.recov.state = .fuelWait ∧
      (base.setAcct { base.acct with tank := .reserve }).acct.tank = .reserve ∧
      (evaluateTank 3000 rooms).acct.tank ≠ rooms.acct.tank ∧ 3 < rooms.zone.table.length ∧
      (evaluateTank 3000 (evaluateTank 3000 rooms)).acct.tank = (evaluateTank 3000 rooms).acct.tank := by decide +kernel

/-- A period open from 0. -/
def openPeriod (delivery : Bool) : Period := { start := 0, startV15 := 2000, burn := 1000, delivery := delivery }

/-- The tolerance is 450 dL; a drop of 1451, 1450, 550 and 549 dL lies just beyond or just within it. -/
theorem witness_PeriodOutcomesAreDecided :
    0 + 2 * base.acct.set.period * 3600 = 43200 ∧
      base.acct.set.tolFixed + 1000 * base.acct.set.tolPct / 100 = 450 ∧
      (closePeriod base.acct.set (openPeriod false) 43201 549).outcome = .skipped ∧
      (closePeriod base.acct.set (openPeriod true) 43200 549).outcome = .delivery ∧
      (closePeriod base.acct.set (openPeriod false) 43200 549).outcome = .overdraw ∧
      (closePeriod base.acct.set (openPeriod false) 43200 550).outcome = .balanced ∧
      (closePeriod base.acct.set (openPeriod false) 43200 1450).outcome = .balanced ∧
      (closePeriod base.acct.set (openPeriod false) 43200 1451).outcome = .underdraw := by decide +kernel

/-- `base` with an open period, the burner running or not. -/
def accounting (active : Bool) : State :=
  withSup (fun u => { u with rr := { u.rr with active := active, start := 35000 } })
    (base.setAcct { base.acct with period := some (openPeriod false) })

/-- A publication before the end of a period of 6 h, and at it; a burn of 100 s hands over 1,000 tenths. -/
theorem witness_PeriodOutcomesAreDecided_publication :
    base.acct.period = none ∧ (accounting true).acct.period = some (openPeriod false) ∧
      21599 < 0 + (accounting true).acct.set.period * 3600 ∧ 0 + (accounting true).acct.set.period * 3600 = 21600 ∧
      (accounting true).tenths - (accounting true).sup.rr.start = 1000 :=
  by decide +kernel

/-- What the partial burn credits, with the burner running and not. -/
theorem witness_PeriodOutcomesAreDecided_credit :
    partialCredit (accounting true)
        ((1000 * base.acct.set.nozzleRate + base.acct.residue) / 3600000)
        ((1000 * base.acct.set.nozzleRate + base.acct.residue) % 3600000) ∧
      partialCredit (accounting false) 0 base.acct.residue :=
  ⟨⟨fun h => absurd h (by decide +kernel), fun _ => ⟨1000 * base.acct.set.nozzleRate + base.acct.residue, by decide +kernel⟩⟩,
    fun _ => by decide +kernel, fun h => absurd h (by decide +kernel)⟩

/-- A rise at the least that opens a record, and one below it; a record that ended after H3. -/
theorem witness_ChainRiseOpensADelivery :
    deliveryOpen base = false ∧ base.acct.deliveries.getLast? = none ∧ (2000 : Int) - 1000 = base.acct.set.delivMin ∧
      (1999 : Int) - 1000 < base.acct.set.delivMin ∧ base.recov.state ≠ .hardLock ∧
      deliveryOpen (base.setAcct { base.acct with deliveries := [{ openDelivery with stop := some 50, reason := some .settled }] }) =
        false := by decide +kernel

/-- A rise just below 50 dL and one of 50 dL, with a settle count of 0 and of 1. -/
theorem witness_ChainRiseOpensADelivery_settling :
    delivering.acct.deliveries = [] ++ [openDelivery] ∧ openDelivery.reason = none ∧ (2149 : Int) - 2100 < 50 ∧
      ¬ (2150 : Int) - 2100 < 50 ∧ openDelivery.settle + 1 < 2 ∧
      (delivering.setAcct { delivering.acct with deliveries := [{ openDelivery with settle := 1 }] }).acct.deliveries =
        [] ++ [{ openDelivery with settle := 1 }] ∧ ¬ ({ openDelivery with settle := 1 } : DeliveryRecord).settle + 1 < 2 := by
  decide +kernel

/-- Seven samples of a box of eight, with the filter's order 1. -/
def boxed (hold : Bool) : State :=
  base.setLevel { base.level with
    set := { base.level.set with order := 1 }, box := { depthSum := 7000, tempSum := 70, count := 7, mark := false }
    burnerStart := hold }

theorem witness_CompletedBoxIsPublished :
    (boxed true).level.box.count + 1 = (boxed true).level.set.windowN ∧ base.level.box.count + 1 < base.level.set.windowN ∧
      (boxed true).level.set.order = 1 ∧ holdStands (boxed true).level = true ∧ holdStands (boxed false).level = false ∧
      base.level.set.order ≠ 1 ∧ base.level.prev = none ∧
      (base.setLevel { base.level with prev := some ⟨1000, some 10⟩ }).level.prev = some ⟨1000, some 10⟩ := by
  decide +kernel

/-! ### Witnesses: ports, telegrams and the pool -/

theorem witness_TelegramsDecodeAsTheyWereSent :
    (sealed 0 43 0x11 (List.replicate 16 7)).payload.length = 16 ∧ demand43.check = checkOf demand43.body ∧
      ({ demand43 with check := 0 } : Telegram).check ≠ checkOf ({ demand43 with check := 0 } : Telegram).body := by
  decide +kernel

theorem witness_CheckIsComputedByByte :
    demand43.payload.length ≤ 16 ∧ (errorsOf true (received demand43)).isEmpty = true := by decide +kernel

/-- A state with this many free buffers, HELD or not. -/
def pooled (free : Nat) (held : Bool) (s : State) : State := s.setPool { s.pool with free := free, held := held }

theorem base_listens (port : Port) : MayListen (base.port port) base.now := by
  cases port <;> exact ⟨by decide +kernel, by decide +kernel, by decide +kernel, .inl (by decide +kernel)⟩

/-- H in this mode after a transmission: not armed, its line idle since this tick. -/
def quieted (mode : PortMode) (since : Nat) : State :=
  base.setPortH { base.portH with mode := mode, armed := false, line := .idle since }

/-- 8 ms of idle line after a transmission, and one tick less. -/
theorem witness_FirstCharacterAsksForABuffer_idle :
    Settled (quieted .active 35999920) ∧ MayListen ((quieted .active 35999920).port .h) (quieted .active 35999920).now ∧
      ((quieted .active 35999921).port .h).armed = false ∧
      (∀ since, ((quieted .active 35999921).port .h).line = .idle since → (quieted .active 35999921).now < since + 80) ∧
      ((quieted .broken 0).port .h).mode = .broken ∧
      ((base.modPort .h fun q => { q with line := .busy 35999990 }).port .h).line = .busy 35999990 := by
  refine ⟨settled_of (by decide +kernel), ⟨by decide +kernel, by decide +kernel, by decide +kernel,
    .inr ⟨35999920, by decide +kernel⟩⟩, by decide +kernel, fun since h => ?_, by decide +kernel⟩
  have : since = 35999921 := (Line.idle.inj h).symm
  subst this
  decide +kernel

theorem witness_FirstCharacterAsksForABuffer :
    Settled (pooled 3 true base) ∧ Settled (pooled 8 false base) ∧ Settled (pooled 0 true base) ∧
      MayListen ((pooled 3 true base).port .h) (pooled 3 true base).now ∧
      MayListen ((pooled 8 false base).port .p) (pooled 8 false base).now ∧ 2 < (pooled 3 true base).pool.free ∧
      (pooled 3 true base).pool.held = true ∧ 7 < (pooled 8 false base).pool.free ∧
      ¬ 2 < (pooled 2 true base).pool.free ∧ ¬ 0 < (pooled 0 true base).pool.free ∧
      (base.port .h).line = .idle 0 ∧
      ((base.modPort .h fun q => { q with line := .active 35999990 }).port .h).armed = true :=
  ⟨settled_of (by decide +kernel), settled_of (by decide +kernel), settled_of (by decide +kernel), base_listens .h,
    base_listens .p, by decide +kernel⟩

/-- A grant that puts the pool in HELD. -/
theorem witness_FirstCharacterAsksForABuffer_held :
    Settled (pooled 7 false base) ∧ MayListen ((pooled 7 false base).port .h) (pooled 7 false base).now ∧
      2 < (pooled 7 false base).pool.free ∧ (pooled 7 false base).pool.free ≤ 7 ∧ (pooled 7 false base).pool.held = false :=
  ⟨settled_of (by decide +kernel), base_listens .h, by decide +kernel⟩

/-- A POLL with a parity error in its third character. -/
def damaged : List RxChar :=
  (received (composeTel 0x14 0x20 [])).modify 2 fun c => { c with parity := !c.parity }

theorem witness_ErroneousTelegramIsOnlyCounted :
    Settled (hearing .h base) ∧ ((hearing .h base).port .h).asm = some { hasBuffer := true, start := base.now } ∧
      ((hearing .h base).port .h).phase ≠ .sending ∧ damaged.any (fun c => c.parity != parityOf c.data) = true ∧
      (received (composeTel 0x14 0x20 [])).any (fun c => !c.stop) = false ∧
      badLength ((received (composeTel 0x14 0x20 [])).take 5) = true ∧
      badCheck (received { composeTel 0x14 0x20 [] with check := 0 }) = true ∧ (hearing .h base).pool.held = false ∧
      ((base.setPortP { base.portP with asm := some { hasBuffer := false, start := 5 } }).port .p).asm =
        some { hasBuffer := false, start := 5 } :=
  ⟨settled_of (by decide +kernel), by decide +kernel⟩

/-- The sources 0, 127 and 128, and the destination 128. -/
theorem witness_ErroneousTelegramIsOnlyCounted_address :
    (sealed 0 0 0x52 [1]).src.toNat = 0 ∧ 127 ≤ (sealed 0 127 0x52 [1]).src.toNat ∧ 127 ≤ (sealed 0 128 0x52 [1]).src.toNat ∧
      127 < (sealed 128 5 0x52 [1]).dest.toNat ∧ (sealed 0 0 0x52 [1]).payload.length ≤ 16 ∧
      (sealed 0 0 0x52 [1]).check = checkOf (sealed 0 0 0x52 [1]).body ∧
      (sealed 128 5 0x52 [1]).check = checkOf (sealed 128 5 0x52 [1]).body := by decide +kernel

/-- The line of a port in a state, and its mode. -/
def lined (port : Port) (mode : PortMode) (line : Line) (s : State) : State :=
  s.setPort port { s.port port with mode := mode, line := line }

theorem witness_BreakFlushesThePort :
    ((lined .h .active (.active 35999000) plant).port .h).mode = .active ∧
      ((lined .h .active (.active 35999000) plant).port .h).line = .active 35999000 ∧
      ((lined .p .active (.active 35999000) plant).port .p).mode = .active ∧
      ((lined .p .active (.active 35999000) plant).port .p).line = .active 35999000 ∧
      35999000 + 1000 = plant.now ∧ plant.now < 35999001 + 1000 ∧
      ((lined .h .active (.busy 35999000) plant).port .h).line = .busy 35999000 := by decide +kernel

/-- `plant` with the NOTICE line asserted for an EMPTY tank, its H line busy for 100 ms. -/
theorem witness_BreakFlushesThePort_counted :
    Settled (emptied (lined .h .active (.busy 35999000) plant)) ∧
      (emptied (lined .h .active (.busy 35999000) plant)).mgmt.line = true ∧
      (emptied (lined .h .active (.busy 35999000) plant)).pool.held = false :=
  ⟨settled_of (by decide +kernel), by decide +kernel⟩

theorem witness_IdleLineEndsTheBreak :
    ((lined .y .broken (.idle 35990000) plant).port .y).mode = .broken ∧
      ((lined .y .broken (.idle 35990000) plant).port .y).line = .idle 35990000 ∧
      ((lined .p .broken (.idle 35990000) plant).port .p).mode = .broken ∧
      ((lined .p .broken (.idle 35990000) plant).port .p).line = .idle 35990000 ∧ 35990000 + 10000 = plant.now := by
  decide +kernel

/-- A telegram of the BX40's own, queued. -/
def queued : QItem := { tel := composeTel 127 0x30 [0], mark := .plain }

/-- A port with a head, in a transmit phase. -/
def heading (port : Port) (phase : TxPhase) (s : State) : State :=
  s.setPort port { s.port port with queue := [queued], phase := phase, line := .idle 35999900 }

theorem witness_LineEventsMoveTheHead :
    Settled (heading .h .wait base) ∧ ((heading .h .wait base).port .h).mode = .active ∧
      ((heading .h .wait base).port .h).queue ≠ [] ∧ ((heading .h .wait base).port .h).phase = .wait ∧
      ((heading .h .wait base).port .h).asm = none ∧ ((heading .h .wait base).port .h).line = .idle 35999900 ∧
      35999900 + 100 = base.now ∧ ((heading .y (.backoff 36000000) base).port (roomPort .y)).phase = .backoff base.now ∧
      (heading .p (.pause 36000000) base).portP.phase = .pause base.now ∧
      ((lined .h .active (.active 35999990) base).port .h).line = .active 35999990 ∧
      ((lined .h .active (.active 35999990) base).port .h).phase ≠ .sending :=
  ⟨settled_of (by decide +kernel), by decide +kernel⟩

theorem witness_LineEventsMoveTheHead_settled :
    Settled (heading .y (.backoff 36000000) base) ∧ Settled (heading .p (.pause 36000000) base) ∧
      Settled (lined .h .active (.active 35999990) base) ∧ ∀ m, (Line.active 35999990) ≠ .idle m :=
  ⟨settled_of (by decide +kernel), settled_of (by decide +kernel), settled_of (by decide +kernel), nofun⟩

/-- A port that sends its head after `k` collisions or mismatches. -/
def sending (port : Port) (k : Nat) (it : QItem) (s : State) : State :=
  s.setPort port { s.port port with queue := [it], phase := .sending, attempts := k, line := .busy s.now }

theorem witness_CollisionsBackOffOrDrop :
    Settled (sending .h 6 queued base) ∧ Settled (sending .h 7 queued base) ∧
      ((sending .h 6 queued base).port (roomPort .h)).phase = .sending ∧
      ((sending .h 6 queued base).port (roomPort .h)).attempts + 1 = 7 ∧
      ((sending .h 7 queued base).port (roomPort .h)).attempts + 1 = 8 ∧
      ((sending .h 7 queued base).port (roomPort .h)).queue ≠ [] :=
  ⟨settled_of (by decide +kernel), settled_of (by decide +kernel), by decide +kernel⟩

/-- The request of a poll of slot 0, outstanding since `start`. -/
def polling (attempt : Nat) (window : Option Nat) (s : State) : State :=
  s.setSched { s.sched with
    exch := some { kind := .poll 0, node := 90, start := 35900, attempt := attempt, window := window } }

/-- The request telegram of `polling`. -/
def pollItem : QItem := { tel := composeTel 90 0x20 [], mark := .request }

theorem witness_PlantMismatchRetriesOnce :
    Settled (sending .p 0 pollItem (polling 1 none plant)) ∧ Settled (sending .p 1 pollItem (polling 1 none plant)) ∧
      Settled (sending .p 1 queued plant) ∧ (sending .p 0 pollItem plant).portP.phase = .sending ∧
      (sending .p 0 pollItem plant).portP.attempts = 0 ∧ (sending .p 1 pollItem plant).portP.attempts ≠ 0 ∧
      (sending .p 1 pollItem plant).portP.queue ≠ [] ∧ headIsRequest (sending .p 1 pollItem plant).portP = true ∧
      headIsRequest (sending .p 1 queued plant).portP = false :=
  ⟨settled_of (by decide +kernel), settled_of (by decide +kernel), settled_of (by decide +kernel), by decide +kernel⟩

theorem witness_SentTelegramLeavesTheQueue :
    Settled (sending .p 0 pollItem (polling 1 none plant)) ∧
      ((sending .p 0 pollItem (polling 1 none plant)).port .p).phase = .sending ∧
      ((sending .p 0 pollItem (polling 1 none plant)).port .p).queue ≠ [] ∧
      headIsRequest ((sending .p 0 pollItem (polling 1 none plant)).port .p) = true ∧ Settled (sending .h 0 queued base) ∧
      headIsRequest ((sending .h 0 queued base).port .h) = false ∧ (sending .h 0 queued base).pool.held = false :=
  ⟨settled_of (by decide +kernel), by decide +kernel, by decide +kernel, by decide +kernel,
    settled_of (by decide +kernel), by decide +kernel⟩

theorem witness_PoolHoldsOffTheRooms :
    base.portH.mode = .active ∧ base.portH.queue.length < queueCap ∧ base.portY.mode = .active ∧
      base.portY.queue.length < queueCap ∧ (pooled 7 false base).pool.held = false ∧ (pooled 7 false base).pool.free = 7 ∧
      (pooled 13 true base).pool.held = true ∧ (pooled 13 true base).pool.free = 13 ∧
      ((pooled 2 true base).setPool { (pooled 2 true base).pool with repeatFrom := some 35800000 }).pool.free = 2 ∧
      35800000 + 200000 = base.now := by decide +kernel

theorem witness_PoolHoldsOffTheRooms_settled :
    Settled ((pooled 2 true base).setPool { (pooled 2 true base).pool with repeatFrom := some 35800000 }) :=
  settled_of (by decide +kernel)

/-! ### Witnesses: the relay unit -/

/-- A telegram of a kind that only the BX40 sends. -/
def foreign (src : Byte) : Telegram := sealed 0 src 0x31 [0, 0, 0, 0]

theorem foreign_is_well_sent : WellSent (foreign 60) :=
  ⟨by decide +kernel, by decide +kernel, by decide +kernel, by decide +kernel⟩

/-- A source known on the segment, one known on the other, and an unknown one. -/
theorem witness_LearningComesFirst :
    Settled (hearing .y rooms) ∧
      ((hearing .y rooms).port (roomPort .y)).asm = some { hasBuffer := true, start := rooms.now } ∧
      ((hearing .y rooms).port (roomPort .y)).phase ≠ .sending ∧ (foreign 60).kind = 0x31 ∧ 0 < rooms.relay.set.nodeCap ∧
      (foreign 60).src.toNat = 60 ∧ nodeOf (hearing .y rooms) 60 = none ∧ (hearing .y rooms).relay.nodes[3]? = some none ∧
      nodeOf (hearing .y rooms) 43 = some (heardUnit 43 .y true false) ∧
      nodeOf (hearing .y rooms) 42 = some (heardUnit 42 .h true true) ∧
      (heardUnit 43 .y true false).storm < rooms.relay.set.nodeCap :=
  ⟨settled_of (by decide +kernel), by decide +kernel⟩

theorem witness_LearningComesFirst_sources : WellSent (foreign 43) ∧ WellSent (foreign 42) :=
  ⟨⟨by decide +kernel, by decide +kernel, by decide +kernel, by decide +kernel⟩,
    by decide +kernel, by decide +kernel, by decide +kernel, by decide +kernel⟩

/-- A MGMT_RSP for the BX40, which is UNKNOWN_KIND. -/
theorem witness_LearningComesFirst_unknownKind :
    WellSent (sealed 0 43 0x41 [0]) ∧ (sealed 0 43 0x41 [0]).dest = 0 ∧
      (sealed 0 43 0x41 [0]).kind ∉ ([0x12, 0x20, 0x22, 0x30, 0x31, 0x11, 0x40] : List Byte) ∧
      (hearing .y rooms).pool.held = false :=
  ⟨⟨by decide +kernel, by decide +kernel, by decide +kernel, by decide +kernel⟩, by decide +kernel⟩

/-- A full table: 42 on H and 43 on Y with demand parts, and the addresses 80 to 101, the first of which was heard longest
ago. -/
def crowded : State :=
  rooms.setRelay { rooms.relay with
    nodes := [some (heardUnit 42 .h true true), some (heardUnit 43 .y true false)] ++
      (List.range 22).map fun i => some
        { addr := 80 + i, seg := .h, heard := 3000 + i, storm := 0, holdOffSent := false, part := none } }

/-- The entry that a full table gives up, and no empty slot. -/
theorem witness_LearningComesFirst_full :
    Settled (hearing .y crowded) ∧ nodeOf (hearing .y crowded) 60 = none ∧
      (∀ j : Nat, (hearing .y crowded).relay.nodes[j]? ≠ some none) ∧
      (slotGet (hearing .y crowded).relay.nodes 2).map (fun n => (n.addr, n.part)) = some (80, none) ∧
      ∀ j n, j ≠ 2 → slotGet (hearing .y crowded).relay.nodes j = some n → n.addr ≠ 80 ∧
        (n.part = none → 3000 < n.heard ∨ (3000 = n.heard ∧ 80 < n.addr)) := by
  refine ⟨settled_of (by decide +kernel), by decide +kernel, fun j h => ?_, by decide +kernel, fun j n hj he => ?_⟩
  · exact absurd (List.mem_of_getElem? h) (by decide +kernel)
  · have h := every_slot (xs := (hearing .y crowded).relay.nodes)
      (fun j n => decide (j = 2) || decide (n.addr ≠ 80 ∧ (n.part = none → 3000 < n.heard ∨ (3000 = n.heard ∧ 80 < n.addr))))
      (by decide +kernel) he
    exact of_decide_eq_true (((Bool.or_eq_true _ _).mp h).resolve_left (by simpa using hj))

/-- 43 at its storm limit on Y, its HOLD_OFF of this interval sent or not. -/
def storming (sent : Bool) : State :=
  rooms.setRelay { rooms.relay with
    nodes := some { heardUnit 43 .y true false with storm := 12, holdOffSent := sent } :: List.replicate 23 none }

theorem witness_LearningComesFirst_storm :
    Settled (hearing .y (storming true)) ∧ Settled (hearing .y (storming false)) ∧
      Settled (hearing .h (storming false)) ∧
      nodeOf (hearing .y (storming false)) 43 = some { heardUnit 43 .y true false with storm := 12 } ∧
      isService (storming false) 43 = false ∧ (storming false).relay.set.nodeCap < bump8 12 ∧
      (hearing .y (storming false)).pool.held = false ∧ CanQueue (hearing .y (storming false)) .y :=
  ⟨settled_of (by decide +kernel), settled_of (by decide +kernel), settled_of (by decide +kernel), by decide +kernel,
    by decide +kernel, by decide +kernel, by decide +kernel, by decide +kernel, by decide +kernel, by decide +kernel,
    by decide +kernel⟩

/-- A relay list and a broadcast count at their limits, and Y with a full queue. -/
def full : State :=
  { plant with
    sched := { plant.sched with relayList := List.replicate 4 (demand43, Room.h) }
    relay := { plant.relay with bcastY := 20 }
    portY := { plant.portY with queue := List.replicate 8 queued } }

theorem witness_RelayMovesByAddress :
    (sealed 42 45 0x52 []).dest ≠ 127 ∧ nodeOf plant 42 = some (heardUnit 42 .h true true) ∧
      nodeOf plant 43 = some (heardUnit 43 .y true false) ∧ nodeOf plant 60 = none ∧ inPollList plant 60 = false ∧
      nodeOf plant 91 = none ∧ inPollList plant 91 = true ∧ isService plant 45 = true ∧ isService plant 43 = false ∧
      plant.portP.mode = .active ∧ (plant.port .y).mode = .active ∧ (plant.port .y).queue.length < 8 ∧
      8 ≤ (full.port .y).queue.length ∧ plant.sched.relayList.length < 4 ∧ 4 ≤ full.sched.relayList.length ∧
      full.relay.set.bcastCap ≤ bcastCount full .y ∧ bcastCount plant .y < plant.relay.set.bcastCap ∧
      ((lined .y .broken (.idle 0) plant).port .y).mode = .broken := by decide +kernel

/-- P in BREAK, and Y in BREAK or full, with the broadcast cap not reached. -/
theorem witness_RelayMovesByAddress_down :
    (lined .p .broken (.idle 0) plant).portP.mode = .broken ∧
      isService (lined .p .broken (.idle 0) plant) 45 = true ∧
      nodeOf (lined .p .broken (.idle 0) plant) 91 = none ∧ inPollList (lined .p .broken (.idle 0) plant) 91 = true ∧
      (sealed 127 43 0x52 []).dest = 127 ∧
      bcastCount (full.setRelay { full.relay with bcastY := 19 }) .y < full.relay.set.bcastCap ∧
      (full.port .y).mode = .active := by decide +kernel

/-- Unit 43 is known on Y within its limit: any telegram it sends well arrives from it. -/
theorem unit43_arrives (t : Telegram) (h : WellSent t) (src : t.src = 43) :
    ArrivesFrom .y t (heardUnit 43 .y true false) (hearing .y plant) :=
  { settled := settled_of (by decide +kernel)
    stored := ⟨36000000, by decide +kernel⟩
    silent := by decide +kernel
    sent := h
    known := by rw [src]; decide +kernel
    here := rfl
    within := .inl (by decide +kernel) }

theorem witness_RelayMovesByAddress_arrives :
    ArrivesFrom .y (sealed 60 43 0x52 []) (heardUnit 43 .y true false) (hearing .y plant) ∧
      (sealed 60 43 0x52 []).dest ≠ 0 ∧
      (sealed 60 43 0x52 []).kind ∉ ([0x12, 0x20, 0x22, 0x30, 0x31] : List Byte) :=
  ⟨unit43_arrives _ ⟨by decide +kernel, by decide +kernel, by decide +kernel, by decide +kernel⟩ rfl, by decide +kernel⟩

theorem witness_AgingAndIntervals :
    rooms.relay.ctr.aged ≤ 65535 ∧ Settled rooms ∧ rooms.sec % 60 = 0 ∧ rooms.sec % 10 = 0 ∧
      rooms.relay.set.ageLimit < (rooms.setNow 42010000).sec - (heardUnit 42 .h true true).heard ∧
      unitZone rooms 42 = some 2 ∧ 2 < rooms.zone.states.length :=
  ⟨by decide +kernel, rooms_settled, by decide +kernel⟩

/-! ### Witnesses: the poll scheduler -/

/-- The plant with a command pending for the valve. -/
def commanded : State :=
  plant.setSched { plant.sched with
    slots := [some (pollEntry 90 .gauge), some (pollEntry 91 (.valve { shut with pending := true }))] ++
      List.replicate 10 none }

theorem witness_PollDueBeginsAnExchange :
    Settled plant ∧ Settled commanded ∧ plant.sched.exch = none ∧ plant.portP.mode = .active ∧
      plant.portP.queue.length < 8 ∧ slotGet plant.sched.slots 0 = some (pollEntry 90 .gauge) ∧
      (pollEntry 90 .gauge).due = plant.tenths ∧ plant.pool.free ≠ 0 ∧ 7 < plant.pool.free ∧ commanded.sched.exch = none ∧
      slotGet commanded.sched.slots 1 = some (pollEntry 91 (.valve { shut with pending := true })) ∧
      (pollEntry 91 (.valve { shut with pending := true })).present = true ∧ plant.sched.relayList = [] ∧
      0 < plant.sched.slots.length ∧ (plant.sched.rr + 1 + 0) % plant.sched.slots.length = 0 ∧
      (full.setPortY plant.portY).sched.relayList =
        (demand43, Room.h) :: List.replicate 3 (demand43, Room.h) :=
  ⟨plant_settled, settled_of (by decide +kernel), by decide +kernel⟩

/-- No other valve has a command pending, and in `plant` none has. -/
theorem witness_PollDueBeginsAnExchange_pending :
    (∀ slot' e' r', slot' ≠ 1 → slotGet commanded.sched.slots slot' = some e' → e'.role = .valve r' → r'.pending = true →
      e'.present = true → shut.since < r'.since ∨ (shut.since = r'.since ∧ 1 < slot')) ∧
    ∀ slot e r, slotGet plant.sched.slots slot = some e → e.role = .valve r → r.pending = true → e.present = false := by
  constructor
  · intro i e r hi he hr hp _
    have h := every_slot (xs := commanded.sched.slots)
      (fun i e => decide (i = 1) || !(e.valve?.any (·.pending))) (by decide +kernel) he
    simp [hi, PollEntry.valve?, hr, hp] at h
  · intro i e r he hr hp
    have h := every_slot (xs := plant.sched.slots) (fun _ e => !(e.valve?.any (·.pending))) (by decide +kernel) he
    simp [PollEntry.valve?, hr, hp] at h

/-- In the second place of the round: slot 0 is not due, slot 1 is. -/
def secondDue : State :=
  plant.setSched { plant.sched with
    slots := [some { pollEntry 90 .gauge with due := 36001 }, some (pollEntry 91 (.valve shut))] ++ List.replicate 10 none }

theorem witness_PollDueBeginsAnExchange_round :
    Settled secondDue ∧ 1 < secondDue.sched.slots.length ∧ (secondDue.sched.rr + 1 + 1) % secondDue.sched.slots.length = 1 ∧
      (slotGet secondDue.sched.slots 1).map (·.due) = some secondDue.tenths ∧
      ∀ i e', i < 1 → slotGet secondDue.sched.slots ((secondDue.sched.rr + 1 + i) % secondDue.sched.slots.length) = some e' →
        secondDue.tenths < e'.due := by
  refine ⟨settled_of (by decide +kernel), by decide +kernel, by decide +kernel, by decide +kernel, fun i e' hi he => ?_⟩
  have h0 : i = 0 := by omega
  subst h0
  exact of_decide_eq_true (every_slot (xs := secondDue.sched.slots)
    (fun i e => decide (i = 0 → secondDue.tenths < e.due)) (by decide +kernel) he) (by decide +kernel)

/-- An exchange of the plant, its window just closed. -/
def silent (kind : ExKind) (attempt : Nat) : State :=
  plant.setSched { plant.sched with
    exch := some { kind := kind, node := 90, start := 35900, attempt := attempt, window := some 35996000 } }

theorem witness_SilentWindowRetriesThenMisses :
    Settled (silent (.poll 0) 1) ∧ Settled (silent (.valve 1 .opened) 1) ∧ Settled (silent (.poll 0) 2) ∧
      Settled (silent (.relay .y) 1) ∧ 35996000 + 4000 = plant.now ∧ plant.portP.asm = none ∧
      CanQueue (silent (.poll 0) 1) .p ∧ CanQueue (silent (.valve 1 .opened) 1) .p ∧
      slotGet (silent (.poll 0) 2).sched.slots 0 = some (pollEntry 90 .gauge) ∧ (ExKind.poll 0).slot? = some 0 :=
  ⟨settled_of (by decide +kernel), settled_of (by decide +kernel), settled_of (by decide +kernel),
    settled_of (by decide +kernel), by decide +kernel, by decide +kernel,
    ⟨by decide +kernel, by decide +kernel, by decide +kernel, by decide +kernel⟩,
    ⟨by decide +kernel, by decide +kernel, by decide +kernel, by decide +kernel⟩, by decide +kernel⟩

/-- The plant with this exchange outstanding, a telegram of its node arriving. -/
def answering (kind : ExKind) (node : Byte) (s : State) : State :=
  hearing .p (s.setSched { s.sched with
    exch := some { kind := kind, node := node, start := 35990, attempt := 1, window := some 35999000 } })

/-- A SAMPLE of the gauge at 90: quality, raw level 30000, 4.2 °C. -/
def sample90 (quality : Byte) : Telegram := sealed 0 90 0x21 ([quality] ++ beBytes 2 30000 ++ beSigned 2 42)

/-- A VALVE_REPORT of the valve at 91. -/
def report91 (payload : List Byte) : Telegram := sealed 0 91 0x23 payload

theorem answers_are_well_sent : WellSent (sample90 1) ∧ WellSent (report91 [1]) ∧ WellSent (report91 [4]) :=
  ⟨⟨by decide +kernel, by decide +kernel, by decide +kernel, by decide +kernel⟩,
    ⟨by decide +kernel, by decide +kernel, by decide +kernel, by decide +kernel⟩,
    by decide +kernel, by decide +kernel, by decide +kernel, by decide +kernel⟩

/-- A telegram on P with no exchange, from another node, of another kind than the poll expects; and a reply to a relay. -/
theorem witness_SilentWindowRetriesThenMisses_heard :
    Settled (hearing .p plant) ∧ (hearing .p plant).sched.exch = none ∧
      Settled (answering (.poll 0) 90 plant) ∧ (report91 [1]).src ≠ 90 ∧ (sealed 0 90 0x23 [1]).src = 90 ∧
      (sealed 0 90 0x23 [1]).kind ≠ 0x21 ∧ (pollEntry 90 .gauge).role = .gauge ∧
      Settled (answering (.relay .y) 91 plant) ∧ (report91 [1]).src = 91 ∧
      ((answering (.relay .y) 91 plant).port (roomPort .y)).mode = .active ∧
      ((answering (.relay .y) 91 plant).port (roomPort .y)).queue.length < 8 :=
  ⟨settled_of (by decide +kernel), by decide +kernel, settled_of (by decide +kernel), by decide +kernel, by decide +kernel,
    by decide +kernel, by decide +kernel, settled_of (by decide +kernel), by decide +kernel⟩

theorem witness_CompletedBoxIsPublished_sample :
    (answering (.poll 0) 90 plant).portP.asm = some { hasBuffer := true, start := 36000000 } ∧
      (answering (.poll 0) 90 plant).portP.phase ≠ .sending ∧ (sample90 1).dest = 0 ∧ (sample90 1).kind = 0x21 ∧
      (ExKind.poll 0).slot? = some 0 ∧ (sample90 1).src = 90 ∧
      slotGet (answering (.poll 0) 90 plant).sched.slots 0 = some (pollEntry 90 .gauge) ∧
      (sample90 1).payload = [1] ++ beBytes 2 30000 ++ beSigned 2 42 ∧ (3 : Byte).toNat = 3 ∧
      (sealed 0 90 0x21 [0]).payload.length ≠ 3 ∧ (sealed 0 90 0x21 [0]).payload.length ≠ 5 ∧
      plant.level.faultRun < 5 ∧ plant.level.ref = none ∧ plant.level.spikeRun < 7 ∧ 1 < plant.level.set.windowN := by
  decide +kernel

/-- The same exchange, with the gauge's answer to complete a box of order 1 that no hold cause withholds. -/
def completing : State :=
  answering (.poll 0) 90 (plant.setLevel { plant.level with
    set := { plant.level.set with order := 1 }, box := { depthSum := 7000, tempSum := 70, count := 7, mark := false } })

theorem witness_CompletedBoxIsPublished_publication :
    completing.level.set.windowN = completing.level.box.count + 1 ∧ completing.level.set.order = 1 ∧
      holdStands completing.level = false ∧ completing.level.ref = none ∧
      completing.portP.asm = some { hasBuffer := true, start := 36000000 } ∧ completing.portP.phase ≠ .sending ∧
      slotGet completing.sched.slots 0 = some (pollEntry 90 .gauge) := by decide +kernel

/-- A level filter one step from FAULT, or one step from a step restart: raw 30000 lies far from the reference 0. -/
theorem witness_CompletedBoxIsPublished_runs :
    (plant.setLevel { plant.level with faultRun := 5 }).level.faultRun = 5 ∧
      (plant.setLevel { plant.level with ref := some 0, spikeRun := 7 }).level.ref ≠ none ∧ plant.level.set.slew ≠ 0 ∧
      plant.level.set.sense = .head ∧
      plant.level.set.slew < min ((30000 - plant.level.set.zero) * plant.level.set.gain / 4096) 65535 := by decide +kernel

/-- A valve told to open 90 s ago. -/
def travelling (fault : Bool) : ValveRecord :=
  { desired := .opened, since := 35100, pending := false, reported := .moving, fault := fault, travel := true }

/-- The plant with that valve. -/
def moving (fault : Bool) : State :=
  plant.setSched { plant.sched with
    slots := [some (pollEntry 90 .gauge), some (pollEntry 91 (.valve (travelling fault)))] ++ List.replicate 10 none }

theorem witness_TravelExpiryFlagsTheValve :
    recordOf (moving false) 1 = some (travelling false) ∧ recordOf (moving true) 1 = some (travelling true) ∧
      (travelling false).travel = true ∧ (travelling false).since + 900 = (moving false).tenths := by decide +kernel

/-- The valve at 91 answers its command; it is desired OPEN, its fault flag set or not. -/
theorem witness_TravelExpiryFlagsTheValve_report (fault : Bool) :
    recordOf (moving fault) 1 = some (travelling fault) ∧
      (answering (.valve 1 .opened) 91 (moving fault)).portP.asm = some { hasBuffer := true, start := 36000000 } ∧
      (answering (.valve 1 .opened) 91 (moving fault)).portP.phase ≠ .sending ∧
      slotGet (answering (.valve 1 .opened) 91 (moving fault)).sched.slots 1 =
        some (pollEntry 91 (.valve (travelling fault))) ∧
      (ExKind.valve 1 .opened).slot? = some 1 ∧ (report91 [1]).dest = 0 ∧ (report91 [1]).kind = 0x23 ∧
      (report91 [1]).src = 91 ∧ (report91 [1]).payload = [Reported.opened.code] ∧ (travelling fault).desired = .opened ∧
      (travelling fault).since < (moving fault).tenths := by
  cases fault <;> decide +kernel

/-- Code 4 is no position of a report. -/
theorem witness_TravelExpiryFlagsTheValve_badReport (rep : Reported) (h : rep ≠ .unknown) :
    (report91 [4]).payload ≠ [rep.code] := by
  cases rep <;> first | exact absurd rfl h | decide +kernel

/-! ### Witnesses: requests and notices -/

/-- DELIVERY is pending, and its NOTICE was composed 30 s ago. -/
def noticing : State :=
  base.setMgmt { base.mgmt with events := 0x0002, line := true, repeatFrom := some 35700000 }

theorem witness_NoticeIsRepeated :
    Settled noticing ∧ enabledSet noticing ≠ 0 ∧ noticing.mgmt.repeatFrom = some 35700000 ∧
      35700000 + 300000 = noticing.now ∧ 8 < noticing.pool.free ∧ noticing.portH.mode = .active ∧
      noticing.portH.queue.length < 8 ∧ noticing.portY.mode = .active ∧ noticing.portY.queue.length < 8 :=
  ⟨settled_of (by decide +kernel), by decide +kernel⟩

/-- A request of an address that is no service source. -/
def guest (data : List Byte) : Req := { room := .y, src := 5, data := data }

theorem witness_RefusedRequestsChangeNothing :
    Settled base ∧ requestOf (.read 25 0 (guest [])) = some (.read, 25, 0, guest []) ∧
      answerOf .read 25 0 (guest []) base = .now .ok [0, 0] .plain ∧
      requestOf (.swapStrap 0 (guest [])) = some (.action, 1, 0, guest []) ∧
      answerOf .action 1 0 (guest []) base = .now .denied [] .plain ∧ Status.denied ≠ .ok ∧
      Status.denied ≠ .clamped := ⟨base_settled, by decide +kernel⟩

/-- A source that is no service source, a writable and a read-only index, the last index of an object and the next, and the
last of the objects and of the actions. -/
theorem witness_RefusedRequestsChangeNothing_checks :
    isService rooms (guest []).src.toNat = false ∧ isService rooms (tool []).src.toNat = true ∧ isService rooms 45 = true ∧
      some ⟨45, .service⟩ ∈ rooms.zone.enrol ∧ (¬ 25 < (25 : Byte).toNat ∧ 25 < (26 : Byte).toNat) ∧
      (¬ 8 < (8 : Byte).toNat ∧ 8 < (9 : Byte).toNat) ∧ objectRanges[(24 : Byte).toNat - 1]? = some 22 ∧
      22 < (23 : Byte).toNat ∧ (22 : Byte).toNat ≤ 22 ∧ objectRanges.length = 25 ∧ (4 : Byte) ≠ 1 ∧
      (tool [0]).data.length ≠ 2 ∧ rooms.mgmt.job = .none := by decide +kernel

/-- The last index of object 24 open to WRITE, and its read-only one. -/
theorem witness_RefusedRequestsChangeNothing_open : OpenToWrite 24 21 ∧ ¬ OpenToWrite 24 22 := by
  simp only [OpenToWrite]; decide

/-- A STORE in progress, a RESTART that waits, and the recovery states that refuse a RESET-BURNER or are busy with one. -/
theorem witness_RefusedRequestsChangeNothing_busy :
    (base.setMgmt { base.mgmt with job := .waiting .h 126 0 }).mgmt.job ≠ .none ∧
      (base.setMgmt { base.mgmt with restart := true }).mgmt.restart = true ∧ base.recov.state = .closed ∧
      (withRecov (fun r => { r with state := .pulsing }) base).recov.state = .pulsing ∧ waiting.recov.state = .waitRetry ∧
      ((withRecov (fun r => { r with episode := r.episode.map fun e => { e with attempt := some attempt3 } })
        waiting).recov.episode.map (·.attempt)) = some (some attempt3) := by decide +kernel

/-- H with eight telegrams queued. -/
def fullH : State := base.setPortH { base.portH with queue := List.replicate 8 queued }

theorem witness_ResponsesJoinTheQueue :
    requestOf (.store 0 (tool [])) = some (.action, 2, 0, tool []) ∧ (pooled 0 true base).pool.free = 0 ∧
      base.pool.held = false ∧ 7 < (pooled 8 false base).pool.free ∧
      ((lined .h .broken (.idle 0) base).port (roomPort .h)).mode = .broken ∧
      8 ≤ (fullH.port (roomPort .h)).queue.length ∧ (fullH.port (roomPort .h)).mode = .active ∧ (tool []).data = [] ∧
      base.recov.log = [] := by decide +kernel

/-- A MGMT_REQ of 2 payload bytes, and one that reads the pending set. -/
theorem witness_ResponsesJoinTheQueue_telegram :
    ArrivesFrom .y (sealed 0 43 0x40 [1, 25]) (heardUnit 43 .y true false) (hearing .y plant) ∧
      ArrivesFrom .y (sealed 0 43 0x40 [1, 25, 0]) (heardUnit 43 .y true false) (hearing .y plant) ∧
      (sealed 0 43 0x40 [1, 25]).payload.length < 3 ∧ (sealed 0 43 0x40 [1, 25, 0]).payload = [1, 25, 0] ++ [] ∧
      (sealed 0 43 0x40 [1, 25]).dest = 0 ∧ (sealed 0 43 0x40 [1, 25]).kind = 0x40 :=
  ⟨unit43_arrives _ ⟨by decide +kernel, by decide +kernel, by decide +kernel, by decide +kernel⟩ rfl,
    unit43_arrives _ ⟨by decide +kernel, by decide +kernel, by decide +kernel, by decide +kernel⟩ rfl, by decide +kernel⟩

theorem witness_ResponsesJoinTheQueue_room : CanQueue base .h ∧ CanQueue (pooled 8 false base) .y :=
  ⟨⟨by decide +kernel, by decide +kernel, by decide +kernel, by decide +kernel⟩,
    by decide +kernel, by decide +kernel, by decide +kernel, by decide +kernel⟩

/-- The service tool may write, with any data. -/
theorem tool_may_write (data : List Byte) : MayWrite base (tool data) :=
  ⟨show isService base (126 : Byte).toNat = true by decide +kernel, by decide +kernel⟩

theorem witness_PlainWritesAreTaken :
    Settled base ∧ MayWrite base (tool (beBytes 2 65535)) ∧ (tool (beBytes 2 65535)).data = beBytes 2 65535 ∧
      (tool (beBytes 1 255)).data = beBytes 1 255 ∧ (tool (beBytes 4 4294967295)).data = beBytes 4 4294967295 ∧
      base.acct.set.emptyLevel = 800 ∧ base.acct.set.reserveLevel = 3000 ∧ base.acct.set.emptyLevel < min 1000000 (max 1 801) ∧
      min 1000000 (max 1 800) ≤ base.acct.set.emptyLevel ∧ min 999999 2999 < base.acct.set.reserveLevel ∧
      base.acct.set.reserveLevel ≤ min 999999 3000 ∧ (31 : Byte).toNat < 32 ∧
      (tool (beBytes 2 65535 ++ beBytes 4 1000001)).data = beBytes 2 65535 ++ beBytes 4 1000001 ∧
      (tool (beSigned 2 (-32768))).data = beSigned 2 (-32768) ∧ (tool [0]).data = [0] :=
  ⟨base_settled, tool_may_write _, by decide +kernel⟩

/-- A call in HOLDING that nothing wants, 60 s old. -/
def oldCall : State := withSup (fun u => { u with state := .holding, minOn := some 35400 }) rooms

/-- Zone 3 is wanted, with min-off at its least from the tenth 35400, and an overrun and a hold extension of 0 s. -/
def timers : State :=
  withSup (fun u => { u with
    state := .waitOff, wanting := [3], served := [3], minOffRef := 35400, overrun := some 36000, holdExt := some 36000 })
    rooms

theorem witness_BurnerAndRecoverySettings :
    Settled oldCall ∧ MayWrite oldCall (tool (beBytes 2 60)) ∧ callAsserted oldCall = true ∧ oldCall.sup.served = [] ∧
      oldCall.sup.minOn = some 35400 ∧ 35400 + min 900 (max 60 60) * 10 = oldCall.tenths :=
  ⟨settled_of (by decide +kernel), ⟨by decide +kernel, by decide +kernel⟩, by decide +kernel⟩

theorem witness_BurnerAndRecoverySettings_timers :
    Settled timers ∧ MayWrite timers (tool (beBytes 2 60)) ∧ timers.sup.state = .waitOff ∧ timers.sup.served ≠ [] ∧
      timers.sup.rr.active = false ∧ timers.sup.minOffRef + min 1800 (max 60 60) * 10 = timers.tenths ∧
      timers.tenths < timers.sup.minOffRef + min 1800 (max 60 61) * 10 ∧ timers.sup.overrun = some 36000 ∧
      36000 + min 600 0 * 10 = timers.tenths ∧ timers.tenths < 36000 + min 600 1 * 10 ∧ timers.sup.holdExt = some 36000 ∧
      36000 + min 300 0 * 10 = timers.tenths :=
  ⟨settled_of (by decide +kernel), ⟨by decide +kernel, by decide +kernel⟩, by decide +kernel⟩

theorem witness_BurnerAndRecoverySettings_call :
    Settled (withSup (fun u => { u with state := .firing, served := [3] }) rooms) ∧
      pathExists (withSup (fun u => { u with state := .firing, served := [3] }) rooms) = true ∧
      callAsserted (withSup (fun u => { u with state := .firing, served := [3] }) rooms) = true :=
  ⟨settled_of (by decide +kernel), by decide +kernel⟩

theorem witness_BurnerAndRecoverySettings_due :
    Settled waiting ∧ MayWrite waiting (tool (beBytes 2 120)) ∧ MayWrite waitingEmpty (tool (beBytes 2 120)) ∧
      waiting.recov.set.retryBase ≤ 14400 ∧
      attemptDue (withRecov (fun r => { r with set := { r.set with retryBase := 120 } }) waiting) = true ∧
      attemptDue (withRecov (fun r => { r with set := { r.set with retryBase := 121 } }) waiting) = false ∧
      waiting.acct.tank ≠ .empty ∧ waitingEmpty.acct.tank = .empty :=
  ⟨settled_of (by decide +kernel), ⟨by decide +kernel, by decide +kernel⟩, ⟨by decide +kernel, by decide +kernel⟩,
    by decide +kernel⟩

/-- Three AUTOMATIC entries under a BUDGET written to 1. -/
theorem witness_BurnerAndRecoverySettings_budget :
    Settled spent ∧ MayWrite spent (tool (beBytes 1 0)) ∧ (tool (beBytes 1 0)).data = beBytes 1 0 ∧
      min 5 (max 1 0) < autoCount spent.recov.safe.history :=
  ⟨settled_of (by decide +kernel), ⟨by decide +kernel, by decide +kernel⟩, by decide +kernel⟩

theorem witness_ZoneMaskAndLevelSettings :
    Settled rooms ∧ MayWrite rooms (tool (beBytes 1 101)) ∧ rooms.zone.table.length = 8 ∧ rooms.zone.states.length = 8 ∧
      (tool (beBytes 2 (0xFFFF : Word16).toNat)).data = beBytes 2 (0xFFFF : Word16).toNat ∧
      { rooms.level.set with gain := max 1 0 } ≠ rooms.level.set ∧
      { rooms.level.set with sense := if (0 : Nat) = 0 then .head else .ullage } = rooms.level.set ∧
      { rooms.level.set with windowN := 32 } ≠ rooms.level.set ∧ { rooms.level.set with windowN := 8 } = rooms.level.set ∧
      (tool (beBytes 1 15)).data = beBytes 1 15 :=
  ⟨rooms_settled, ⟨by decide +kernel, by decide +kernel⟩, by decide +kernel⟩

/-- A scaling change with a delivery and a period open, and a last H0. -/
def accounts : State :=
  (accounting true).setAcct { (accounting true).acct with deliveries := [openDelivery], lastH0 := some ⟨2100, 3500⟩ }

theorem witness_ZoneMaskAndLevelSettings_scaling :
    Settled accounts ∧ MayWrite accounts (tool (beBytes 2 1)) ∧ { accounts.level.set with zero := 1 } ≠ accounts.level.set ∧
      accounts.acct.deliveries = [] ++ [openDelivery] ∧ openDelivery.reason = none ∧
      accounts.acct.period = some (openPeriod false) ∧ accounts.sup.rr.active = true ∧ deliveryOpen rooms = false ∧
      rooms.acct.period = none :=
  ⟨settled_of (by decide +kernel), ⟨by decide +kernel, by decide +kernel⟩, by decide +kernel⟩

/-- The plant with the valve 91 named by zone 3. -/
def piped : State :=
  plant.setZone { plant.zone with table := plant.zone.table.set 3 { factoryZone .normal with valve := some 91 } }

theorem witness_TableWritesAreTaken :
    Settled piped ∧ MayWrite piped (tool []) ∧ (15 : Byte).toNat < 16 ∧ (tool []).data = [] ∧
      (tool [1, 46, 0, 7]).data = [1, 46, 0, 7] ∧ slotGet piped.zone.enrol 0 = some ⟨41, .roomUnit 0⟩ ∧
      inPollList piped 91 = true ∧ inPollList piped 46 = false ∧ slotGet piped.zone.enrol 15 = none ∧
      15 < piped.zone.enrol.length ∧ 7 < piped.zone.states.length ∧ (7 : Byte).toNat < 8 ∧
      piped.zone.table[7]? = some (factoryZone .unused) ∧ valveAt piped 91 ≠ none ∧ valveAt piped 90 = none ∧
      piped.zone.table[3]? = some { factoryZone .normal with valve := some 91 } :=
  ⟨settled_of (by decide +kernel), ⟨by decide +kernel, by decide +kernel⟩, by decide +kernel⟩

/-- The room unit 43 of zone 3, in slot 2, may move to zone 2, and has a demand part. -/
theorem witness_TableWritesAreTaken_move :
    slotGet piped.zone.enrol 2 = some ⟨43, .roomUnit 3⟩ ∧ (tool [1, 43, 0, 2]).data = [1, 43, 0, 2] ∧
      2 < piped.zone.enrol.length ∧ piped.zone.table[2]? = some (factoryZone .essential) ∧
      nodeOf piped 43 = some (heardUnit 43 .y true false) ∧ (heardUnit 43 .y true false).part ≠ none ∧
      inPollList piped 43 = false ∧ MayWrite piped (tool [1, 43, 0, 2]) ∧
      ∀ i e, i ≠ 2 → slotGet piped.zone.enrol i = some e → e.addr ≠ 43 := by
  refine ⟨by decide +kernel, by decide +kernel, by decide +kernel, by decide +kernel, by decide +kernel, by decide +kernel,
    by decide +kernel, ⟨by decide +kernel, by decide +kernel⟩, fun i e hi he => ?_⟩
  have h := every_slot (xs := piped.zone.enrol) (fun i e => decide (i = 2) || decide (e.addr ≠ 43)) (by decide +kernel) he
  simpa [hi] using h

/-- The addresses and the gauge that a new entry may not repeat, and the valve that may not be removed. -/
theorem witness_TableWritesAreTaken_slots :
    (11 : Byte).toNat < 12 ∧ 11 < piped.sched.slots.length ∧ slotGet piped.sched.slots 11 = none ∧
      slotGet piped.sched.slots 0 = some (pollEntry 90 .gauge) ∧ (pollEntry 90 .gauge).isGauge = true ∧
      slotGet piped.sched.slots 1 = some (pollEntry 91 (.valve shut)) ∧ (pollEntry 91 (.valve shut)).isGauge = false ∧
      (∃ z ∈ piped.zone.table, z.valve = some 91) ∧ enrolOf piped 41 ≠ none ∧ enrolOf piped 92 = none ∧
      (∀ z ∈ plant.zone.table, z.valve ≠ some 91) := by decide +kernel

/-- A free address: enrolled nowhere else, and in no other slot of the poll list; and no zone but zone 3 names valve 91. -/
theorem witness_TableWritesAreTaken_free :
    (∀ i e, i ≠ 15 → slotGet piped.zone.enrol i = some e → e.addr ≠ 46) ∧
      (∀ i e, i ≠ 11 → slotGet piped.sched.slots i = some e → e.addr ≠ 92 ∧ ¬((1 : Nat) = 0 ∧ e.isGauge = true)) ∧
      ∀ y ze, y ≠ 3 → piped.zone.table[y]? = some ze → ze.valve ≠ some 91 := by
  refine ⟨fun i e _ he => ?_, fun i e _ he => ⟨?_, by omega⟩, fun y ze hy he hv => ?_⟩
  · exact of_decide_eq_true (every_slot (xs := piped.zone.enrol) (fun _ e => decide (e.addr ≠ 46)) (by decide +kernel) he)
  · exact of_decide_eq_true (every_slot (xs := piped.sched.slots) (fun _ e => decide (e.addr ≠ 92)) (by decide +kernel) he)
  · have h := every_slot (xs := piped.zone.table.map some) (fun i z => decide (i = 3 ∨ z.valve ≠ some 91))
      (by decide +kernel) (i := y) (a := ze) (by simp [slotGet, List.getElem?_map, he])
    simp [hy, hv] at h

/-- In an occupied slot: the gauge's interval kept or changed, its due time then past or not, and a valve that a zone names. -/
theorem witness_TableWritesAreTaken_occupied :
    Settled plant ∧ MayWrite plant (tool [90, 0, 0, 20]) ∧ (tool [90, 0, 0, 20]).data = [90, 0] ++ beBytes 2 20 ∧
      slotGet plant.sched.slots 0 = some (pollEntry 90 .gauge) ∧ enrolOf plant 90 = none ∧ enrolOf plant 92 = none ∧
      (pollEntry 90 .gauge).start = some 35850 ∧ 35850 + selectedInterval (pollEntry 90 .gauge) 20 = 36050 ∧
      (pollEntry 90 .gauge).due ≤ plant.tenths ∧ plant.sched.exch = none ∧ plant.portP.mode = .active ∧
      plant.portP.queue = [] ∧ 8 < plant.pool.free ∧ (∀ z ∈ plant.zone.table, z.valve ≠ some 90) ∧
      slotGet piped.sched.slots 1 = some (pollEntry 91 (.valve shut)) ∧ (∃ z ∈ piped.zone.table, z.valve = some 91) ∧
      ¬ ((92 : Nat) = 91 ∧ ((1 : Nat) = 0 ↔ (pollEntry 91 (.valve shut)).isGauge = true)) ∧
      ((91 : Nat) = 91 ∧ ((1 : Nat) = 0 ↔ (pollEntry 91 (.valve shut)).isGauge = true)) ∧
      selectedInterval (pollEntry 91 (.valve shut)) 20 = 200 :=
  ⟨plant_settled, ⟨by decide +kernel, by decide +kernel⟩, by decide +kernel⟩

theorem witness_TableWritesAreTaken_occupied_free :
    ∀ i e, i ≠ 0 → slotGet plant.sched.slots i = some e → e.addr ≠ 90 ∧ e.addr ≠ 92 ∧ ¬(0 = 0 ∧ e.isGauge = true) := by
  intro i e hi he
  have h := every_slot (xs := plant.sched.slots)
    (fun i e => decide (i = 0) || decide (e.addr ≠ 90 ∧ e.addr ≠ 92 ∧ e.isGauge = false)) (by decide +kernel) he
  simpa [hi] using h

theorem witness_StoreRunsItsCourse :
    Settled base ∧ isService base 126 = true ∧ (tool []).data = [] ∧ base.mgmt.job = .none ∧ base.mgmt.restart = false ∧
      base.nv.writing = none ∧ base.nv.waiting = false ∧
      (base.setMgmt { base.mgmt with job := .waiting .h 126 0 }).mgmt.job = .waiting .h 126 0 ∧
      (base.setMgmt { base.mgmt with job := .writing .h 126 0 factoryImage }).mgmt.job =
        .writing .h 126 0 factoryImage := ⟨base_settled, by decide +kernel⟩

theorem witness_StoreRunsItsCourse_settled :
    Settled (base.setMgmt { base.mgmt with job := .waiting .h 126 0 }) ∧
      Settled (base.setMgmt { base.mgmt with job := .writing .h 126 0 factoryImage }) :=
  ⟨settled_of (by decide +kernel), settled_of (by decide +kernel)⟩

/-- A STAGED bank of one point, and one that passes. -/
theorem witness_ActionsTakeEffect :
    Settled base ∧ isService base 126 = true ∧ storeInProgress base = false ∧ (tool []).data = [] ∧
      (stagedBank (setStaged { stagedBank base.vol with n := 1 } base.vol)).n < 2 ∧
      strapFault (stagedBank base.vol) = none ∧ base.level.depth = none ∧
      (base.setLevel { base.level with depth := some 6000 }).level.depth = some 6000 ∧
      (tool (beBytes 2 (0x0003 : Word16).toNat)).data = beBytes 2 (0x0003 : Word16).toNat ∧
      waiting.recov.state = .waitRetry ∧ (waiting.recov.episode.map (·.attempt)) = some none ∧
      fuelWaiting.recov.state = .fuelWait ∧ isService waiting 126 = true ∧ isService fuelWaiting 126 = true :=
  ⟨base_settled, by decide +kernel⟩

/-- A hard lock, with the lockout in force or released. -/
def hardLocked (lockout : Bool) : State :=
  { withSup (fun u => { u with state := .locked, lockout := { raw := lockout, value := lockout, timer := none } })
      (withRecov (fun r => { r with
        state := .hardLock, counter := 3, episode := some { episode3 with ref := none }
        safe := { r.safe with flag := true, episode := 3, cause := .flameLoss } }) base) with
    mgmt := { base.mgmt with line := true, repeatFrom := some base.now } }

theorem witness_ActionsTakeEffect_lock :
    Settled (hardLocked true) ∧ Settled (hardLocked false) ∧ (hardLocked true).recov.state = .hardLock ∧
      (hardLocked true).recov.episode = some { episode3 with ref := none } ∧ (hardLocked true).sup.lockout.value = true ∧
      (hardLocked false).sup.lockout.value = false ∧ memoryIdle (hardLocked true) = true ∧
      (hardLocked true).nv.waiting = false ∧ memoryIdle (writing (hardLocked true)) = false ∧
      isService (hardLocked true) 126 = true :=
  ⟨settled_of (by decide +kernel), settled_of (by decide +kernel), by decide +kernel⟩

/-- A lockout record of the open episode that shows RESERVE. -/
def reserveRecord : LockoutRecord :=
  { episode := 3, time := 3000, cause := .flameLoss, sup := .firing, seen := true, tank := .reserve, v15 := none,
    temp := none }

/-- A hard lock whose episode saw RESERVE, and one that did not. -/
theorem witness_ChainRiseOpensADelivery_lock (lockout : Bool) :
    deliveryOpen (hardLocked lockout) = false ∧ (hardLocked lockout).recov.state = .hardLock ∧
      (withRecov (fun r => { r with log := [reserveRecord] }) (hardLocked lockout)).recov.log = [reserveRecord] ∧
      ((hardLocked lockout).recov.episode.map (·.number)).getD 0 = reserveRecord.episode ∧
      (hardLocked lockout).recov.log = [] := by
  cases lockout <;> decide +kernel

/-! ### Witnesses: what every step keeps -/

/-- Zone 3 is heated, the burner is firing, and a command waits. -/
def firing : State :=
  { withSup (fun u => { u with state := .firing, pump := true, wanting := [3], served := [3], heldSet := [] }) rooms with
    zone := { rooms.zone with wanting := [3] }, pending := [.resetHistoryLapse] }

theorem witness_StepKeepsCallSafe : SupervisorSound firing ∧ callAsserted firing = true ∧ Completes (step firing) :=
  ⟨⟨by decide +kernel, by decide +kernel, by decide +kernel, by decide +kernel, by decide +kernel, by decide +kernel⟩,
    by decide +kernel, _, rfl⟩

theorem witness_StepKeepsTheBuffers :
    BuffersSound (pooled 30 false (hearing .h (heading .y .wait base))) :=
  ⟨by simp only [BuffersKept]; decide +kernel, by simp only [QueuesFit]; decide +kernel, by decide +kernel,
    by simp only [SendsItsHead]; decide +kernel, by simp only [SendsItsHead]; decide +kernel,
    by simp only [SendsItsHead]; decide +kernel⟩

theorem witness_StepKeepsTheRecords :
    Settled spent ∧ BudgetKept spent ∧ EpisodeSound spent ∧ DeliveriesSound delivering ∧ ResidueSound base :=
  ⟨settled_of (by decide +kernel), by simp only [BudgetKept]; decide +kernel, by simp only [EpisodeSound]; decide +kernel,
    by simp only [DeliveriesSound]; decide +kernel, by simp only [ResidueSound]; decide +kernel⟩

/-- A flag that CLEAR-HARD-LOCK of the service tool clears, with its safety write started. -/
theorem witness_StepKeepsTheRecords_lock :
    HardLockSound (hardLocked true) ∧ HardLockSound spent ∧ (hardLocked true).recov.safe.flag = true ∧
      Completes (exec (.clearHardLock 0 (tool [])) (hardLocked true)) ∧
      (after (.clearHardLock 0 (tool [])) (hardLocked true)).recov.safe.flag = false ∧
      (after (.clearHardLock 0 (tool [])) (hardLocked true)).nv.writing.isSome = true ∧
      (after .lockoutReleased (hardLocked true)).recov.safe.flag = true :=
  ⟨by simp only [HardLockSound]; decide +kernel, by simp only [HardLockSound]; decide +kernel, by decide +kernel, ⟨_, rfl⟩,
    by decide +kernel⟩

/-- A STORE waits for a safety write in progress, and a safety write for a STORE. -/
def storeWaits : State := writing (base.setMgmt { base.mgmt with job := .waiting .h 126 0 })

/-- A safety write waits for the STORE that is writing. -/
def safetyWaits : State :=
  { base with nv := { base.nv with waiting := true }, mgmt := { base.mgmt with job := .writing .h 126 0 factoryImage } }

theorem witness_StepKeepsTheRecords_memory :
    memoryIdle base = true ∧ base.nv.waiting = false ∧ base.mgmt.job = .none ∧ memoryIdle storeWaits = false ∧
      memoryIdle safetyWaits = false ∧ Settled storeWaits ∧ Settled safetyWaits ∧ attemptInHand storeWaits = none ∧
      safetyWaits.nv.writing = none :=
  ⟨by decide +kernel, by decide +kernel, by decide +kernel, by decide +kernel, by decide +kernel, settled_of (by decide +kernel),
    settled_of (by decide +kernel), by decide +kernel⟩

/-! ### Single steps -/

/-- The safety write ends and the STORE that waited is writing; the STORE ends and the safety write that waited is in progress
(R65, R175). -/
theorem test_next_write_starts :
    storeWriting (after .safetyWriteComplete storeWaits) = true ∧
      (after (.storeComplete true) safetyWaits).nv.writing = some safetyWaits.recov.safe ∧
      (after (.storeComplete true) safetyWaits).nv.waiting = false := by decide +kernel

/-- A burn of 500 s of the worked period of chapter 6: 197,128,000 is 54 dL and a residue of 2,728,000 (R108). -/
theorem test_burn_credit : 197128000 / creditUnit = 54 ∧ 197128000 % creditUnit = 2728000 := by decide +kernel

/-- An empty queue: one tick passes. -/
theorem test_idle_tick : step base = .next (base.setNow 36000001) := rfl

/-- RESTART_TAKEN without a RESTART changes nothing. -/
theorem test_restartTaken_alone : (after .restartTaken base).now = 36000000 := by decide +kernel

/-- H with its pool HELD at 13 free buffers, a telegram in assembly, and a full queue, its line active for 100 ms; a NOTICE
stands already. -/
def breaking : State :=
  pooled 13 true ((lined .h .active (.busy 35999000) (emptied base)).modPort .h fun q =>
    { q with asm := some { hasBuffer := true, start := 35999000 }, queue := List.replicate 8 queued })

/-- The assembly's buffer returns while the port is ACTIVE: the HOLD_OFF that opens the pool finds the queue full, and only the
eight telegrams of the queue are flushed (R129). -/
theorem test_break_returns_the_assembly_first :
    ((after (.breakEntry .h) breaking).portH.ctr.queueFull, (after (.breakEntry .h) breaking).portH.ctr.flushed) =
      (1, 8) := by decide +kernel

/-- A NODE item has one width, with a demand part or without: 1 presence byte, 8 bytes, and 12 for the part (R142, R171). -/
theorem test_node_item_width :
    (showItem rooms .node 0).length = 21 ∧ (showItem crowded .node 2).length = 21 ∧
      (showItem crowded .node 2).drop 9 = List.replicate 12 0 := by decide +kernel

/-- A READ of IDENT by any address is answered OK with its four echo bytes first (R124, R170). -/
theorem test_read_is_answered :
    (after (.read 17 0 (guest [])) base).portY.queue.map (fun it => it.tel.payload) = [[0, 1, 17, 0, 0, 240]] := by
  decide +kernel

/-- A WRITE by an address that is no service source is answered DENIED (R170). -/
theorem test_write_denied :
    (after (.reserveSetbackWrite (guest [10])) base).portY.queue.map (fun it => it.tel.payload.take 1) =
      [[Status.denied.code]] := by decide +kernel

end Sys2Proof.Tests
end

section
/-! SUPPORT. The slots of a table: what a look-up, a change of a slot and the numbered list of the slots give. -/

namespace Sys2Proof.Machine

variable {α β : Type}

theorem slotGet_eq_some {xs : List (Option α)} {i : Nat} {a : α} : slotGet xs i = some a ↔ xs[i]? = some (some a) := by
  simp [slotGet, Option.join_eq_some_iff]

theorem slotGet_map (g : α → β) (xs : List (Option α)) (i : Nat) :
    slotGet (xs.map (Option.map g)) i = (slotGet xs i).map g := by
  simp only [slotGet, List.getElem?_map]
  cases xs[i]? with
  | none => rfl
  | some o => cases o <;> rfl

theorem slotGet_set (xs : List (Option α)) (i j : Nat) (o : Option α) :
    slotGet (xs.set i o) j = if i = j then (if i < xs.length then o else none) else slotGet xs j := by
  simp only [slotGet, List.getElem?_set]
  split
  · split <;> simp
  · rfl

/-- Tables that agree after a map of their entries agree so slot by slot. -/
theorem slotGet_map_congr {xs ys : List (Option α)} {g : α → β}
    (h : ys.map (Option.map g) = xs.map (Option.map g)) (i : Nat) : (slotGet ys i).map g = (slotGet xs i).map g := by
  rw [← slotGet_map, ← slotGet_map, h]

theorem slotGet_lt {xs : List (Option α)} {i : Nat} {a : α} (h : slotGet xs i = some a) : i < xs.length :=
  (List.getElem?_eq_some_iff.mp (slotGet_eq_some.mp h)).1

theorem getElem?_numbered (xs : List α) (i : Nat) : (numbered xs)[i]? = xs[i]?.map fun x => (i, x) := by
  by_cases h : i < xs.length <;> simp [numbered, h]

theorem mem_numbered {xs : List α} {i : Nat} {x : α} : (i, x) ∈ numbered xs ↔ xs[i]? = some x := by
  simp only [List.mem_iff_getElem?, getElem?_numbered, Option.map_eq_some_iff, Prod.mk.injEq]
  constructor
  · rintro ⟨_, _, h, rfl, rfl⟩; exact h
  · intro h; exact ⟨i, x, h, rfl, rfl⟩

theorem otherSlot_iff {f : α → Bool} {xs : List (Option α)} {idx : Nat} :
    otherSlot f xs idx = true ↔ ∃ i a, i ≠ idx ∧ slotGet xs i = some a ∧ f a = true := by
  simp only [otherSlot, List.any_eq_true, Bool.and_eq_true, decide_eq_true_eq, Prod.exists, mem_numbered, slotGet_eq_some]
  constructor
  · rintro ⟨i, _ | a, h, hi, hf⟩
    · exact absurd hf (by simp)
    · exact ⟨i, a, hi, h, hf⟩
  · rintro ⟨i, a, hi, h, hf⟩
    exact ⟨i, some a, h, hi, hf⟩

/-- The first entry that satisfies `f`, looked up by its slot. -/
theorem findSlot_bind_slotGet (f : α → Bool) (xs : List (Option α)) :
    (findSlot f xs).bind (slotGet xs) = xs.findSome? (Option.filter f) := by
  induction xs with
  | nil => rfl
  | cons o xs ih =>
    have shift : ((findSlot f xs).map (· + 1)).bind (slotGet (o :: xs)) = xs.findSome? (Option.filter f) := by
      rw [← ih]; cases findSlot f xs <;> rfl
    cases o with
    | none => simpa [findSlot] using shift
    | some a =>
      cases hf : f a with
      | false => simpa [findSlot, hf, Option.filter] using shift
      | true => simp [findSlot, hf, Option.filter, slotGet]

theorem findSlot_isSome {f : α → Bool} {xs : List (Option α)} {i : Nat} (h : findSlot f xs = some i) :
    ∃ a, slotGet xs i = some a ∧ f a = true := by
  induction xs generalizing i with
  | nil => cases h
  | cons o xs ih =>
    have shift (h : (findSlot f xs).map (· + 1) = some i) : ∃ a, slotGet (o :: xs) i = some a ∧ f a = true := by
      obtain ⟨j, hj, rfl⟩ := Option.map_eq_some_iff.mp h
      exact ih hj
    cases o with
    | none => exact shift h
    | some a =>
      simp only [findSlot] at h
      split at h
      · cases h; exact ⟨a, rfl, ‹_›⟩
      · exact shift h

/-- A change that keeps what `f` asks is a change of the entry found. -/
theorem findSome?_filter_map {f : α → Bool} {g : α → α} (h : ∀ a, f (g a) = f a) (xs : List (Option α)) :
    (xs.map (Option.map g)).findSome? (Option.filter f) = (xs.findSome? (Option.filter f)).map g := by
  induction xs with
  | nil => rfl
  | cons o xs ih =>
    cases o with
    | none => simpa using ih
    | some a => cases hf : f a <;> simp [Option.filter, h, hf, ih]

/-- An entry put in an empty slot is found after those before it. -/
theorem findSome?_filter_set {f : α → Bool} {a : α} {xs : List (Option α)} {i : Nat} (h : xs[i]? = some none)
    (hn : f a = true → xs.findSome? (Option.filter f) = none) :
    (xs.set i (some a)).findSome? (Option.filter f) = if f a then some a else xs.findSome? (Option.filter f) := by
  induction xs generalizing i with
  | nil => simp at h
  | cons o xs ih =>
    cases i with
    | zero =>
      obtain rfl : o = none := by simpa using h
      cases hf : f a <;> simp [Option.filter, hf]
    | succ i =>
      have hi : xs[i]? = some none := by simpa using h
      have hx : f a = true → xs.findSome? (Option.filter f) = none := fun hf => by
        have hc := hn hf
        rw [List.findSome?_cons] at hc
        split at hc
        · cases hc
        · exact hc
      cases ho : Option.filter f o with
      | none => simp [ho, ih hi hx]
      | some b =>
        have : f a = false := by
          cases hf : f a with
          | false => rfl
          | true => simpa [ho] using hn hf
        simp [ho, this]

theorem emptySlot_spec {xs : List (Option α)} {i : Nat} (h : emptySlot xs = some i) : xs[i]? = some none := by
  induction xs generalizing i with
  | nil => cases h
  | cons o xs ih =>
    cases o with
    | none => cases h; rfl
    | some a =>
      obtain ⟨j, hj, rfl⟩ := Option.map_eq_some_iff.mp h
      exact ih hj

theorem emptySlot_isSome {xs : List (Option α)} {i : Nat} (h : xs[i]? = some none) : ∃ j, emptySlot xs = some j := by
  induction xs generalizing i with
  | nil => simp at h
  | cons o xs ih =>
    cases o with
    | none => exact ⟨0, rfl⟩
    | some a =>
      cases i with
      | zero => simp at h
      | succ i =>
        obtain ⟨j, hj⟩ := ih (by simpa using h)
        exact ⟨j + 1, by simp [emptySlot, hj]⟩

/-- Slot by slot one table is the other with a function applied to each entry. -/
theorem map_option_congr {g g' : α → β} {xs : List (Option α)} (h : ∀ a, some a ∈ xs → g a = g' a) :
    xs.map (Option.map g) = xs.map (Option.map g') :=
  List.map_congr_left fun o ho => by
    cases o with
    | none => rfl
    | some a => simp [h a ho]

theorem map_modifySlot {g : α → β} {f : α → α} (h : ∀ a, g (f a) = g a) (xs : List (Option α)) (i : Nat) :
    (modifySlot xs i f).map (Option.map g) = xs.map (Option.map g) := by
  apply List.ext_getElem?
  intro j
  simp only [modifySlot, List.getElem?_map, List.getElem?_modify]
  cases xs[j]? with
  | none => rfl
  | some o => by_cases hi : i = j <;> cases o <;> simp [hi, h]

end Sys2Proof.Machine
end

section
/-! SUPPORT. What the supervisor can do when it takes a wanting-heat set or a valve, said once (`Steers`), what a hand-over of
zones can do (`DispatchFrame`), and what a write of a table can do (`Writes`). -/

namespace Sys2Proof.Machine

/-! ### What the condition kinds see of the poll list -/

theorem KeepsNodes.refl (s : State) : KeepsNodes s s := rfl

theorem KeepsNodes.trans {a b c : State} (h : KeepsNodes a b) (k : KeepsNodes b c) : KeepsNodes a c :=
  Eq.trans k h

theorem Finishes.keepsNodes {s t : State} (h : Finishes s t) : KeepsNodes s t := by
  have hm := congrArg (List.map (Option.map nodeSeen)) h.slots
  have hf : nodeSeen ∘ forgetStart = nodeSeen := rfl
  rw [List.map_map, List.map_map, Option.map_comp_map, hf] at hm
  exact hm

/-- Whether some entry of the poll list satisfies what can be told from what it knows of its node. -/
theorem KeepsNodes.any_congr {s t : State} (h : KeepsNodes s t) {f : PollEntry → Bool}
    (g : Nat × Nat × Bool × Nat × Nat × Option (Reported × Bool) → Bool) (hg : ∀ e, f e = g (nodeSeen e)) :
    (t.sched.slots.any fun o => o.any f) = s.sched.slots.any fun o => o.any f := by
  have hf : (fun o : Option PollEntry => o.any f) = (fun o => o.any g) ∘ Option.map nodeSeen := by
    funext o; cases o <;> simp [hg]
  rw [hf, ← List.any_map, ← List.any_map]
  exact congrArg (List.any · _) h

theorem KeepsNodes.nodeAbsentCond {s t : State} (h : KeepsNodes s t) : nodeAbsentCond t = nodeAbsentCond s :=
  h.any_congr (fun n => !n.2.2.1) fun _ => rfl

theorem KeepsNodes.valveFaultCond {s t : State} (h : KeepsNodes s t) : valveFaultCond t = valveFaultCond s :=
  h.any_congr (fun n => n.2.2.2.2.2.any (·.2)) fun e => by
    cases hr : e.role <;> simp [entryFault, nodeSeen, PollEntry.valve?, hr]

theorem KeepsNodes.inPollList {s t : State} (h : KeepsNodes s t) (addr : Nat) : inPollList t addr = inPollList s addr :=
  h.any_congr (fun n => decide (n.1 = addr)) fun _ => rfl

theorem KeepsNodes.slot {s t : State} (h : KeepsNodes s t) (i : Nat) :
    (slotGet t.sched.slots i).map nodeSeen = (slotGet s.sched.slots i).map nodeSeen :=
  slotGet_map_congr h i

/-- The enabled set follows the blocks that own its kinds, and of those only what the kinds ask. -/
theorem enabledSet_congr {s t : State} (hH : t.portH.mode = s.portH.mode) (hY : t.portY.mode = s.portY.mode)
    (hP : t.portP.mode = s.portP.mode) (hz : t.zone.states = s.zone.states) (hr : t.recov.state = s.recov.state)
    (ha : t.acct.tank = s.acct.tank) (hl : t.level.status = s.level.status) (hn : KeepsNodes s t)
    (he : t.mgmt.events = s.mgmt.events) (hm : t.mgmt.mask = s.mgmt.mask) : enabledSet t = enabledSet s := by
  simp only [enabledSet, pendingSet, conditionSet, hardLockCond, reserveCond, emptyCond, levelStaleCond, segmentBreakCond,
    zoneBlindCond, frostCond, hH, hY, hP, hz, hr, ha, hl, he, hm, hn.nodeAbsentCond, hn.valveFaultCond]

theorem Finishes.enabledSet {s t : State} (h : Finishes s t) : enabledSet t = enabledSet s := by
  obtain ⟨l, r, hm⟩ := h.mgmt
  exact enabledSet_congr h.portH.mode h.portY.mode h.portP.mode (by rw [h.zone]) (by rw [h.recov]) (by rw [h.acct])
    (by rw [h.level]) h.keepsNodes (by rw [hm]) (by rw [hm])

/-! ### What the supervisor can do -/

/-- The supervisor has steered: apart from its own block, only valve commands of the poll list, the arbitration they call for
and BURNER_START may have changed, and it has neither entered nor left LOCKED and INHIBITED. -/
structure Steers (s t : State) : Prop where
  frame : t = { s with sup := t.sup, sched := t.sched, level := t.level }
  sched : t.sched = { s.sched with slots := t.sched.slots, wake := t.sched.wake }
  level : t.level = { s.level with burnerStart := t.level.burnerStart }
  nodes : KeepsNodes s t
  locked : t.sup.state = .locked ↔ s.sup.state = .locked
  inhibited : t.sup.state = .inhibited ↔ s.sup.state = .inhibited

theorem Steers.refl (s : State) : Steers s s := ⟨rfl, rfl, rfl, rfl, .rfl, .rfl⟩

theorem Steers.trans {a b c : State} (h : Steers a b) (k : Steers b c) : Steers a c where
  frame := k.frame.trans (by rw [h.frame])
  sched := k.sched.trans (by rw [h.sched])
  level := k.level.trans (by rw [h.level])
  nodes := h.nodes.trans k.nodes
  locked := k.locked.trans h.locked
  inhibited := k.inhibited.trans h.inhibited

section
variable {s t : State}

theorem Steers.now (h : Steers s t) : t.now = s.now := (congrArg State.now h.frame :)
theorem Steers.portH (h : Steers s t) : t.portH = s.portH := (congrArg State.portH h.frame :)
theorem Steers.portY (h : Steers s t) : t.portY = s.portY := (congrArg State.portY h.frame :)
theorem Steers.portP (h : Steers s t) : t.portP = s.portP := (congrArg State.portP h.frame :)
theorem Steers.pool (h : Steers s t) : t.pool = s.pool := (congrArg State.pool h.frame :)
theorem Steers.relay (h : Steers s t) : t.relay = s.relay := (congrArg State.relay h.frame :)
theorem Steers.zone (h : Steers s t) : t.zone = s.zone := (congrArg State.zone h.frame :)
theorem Steers.recov (h : Steers s t) : t.recov = s.recov := (congrArg State.recov h.frame :)
theorem Steers.vol (h : Steers s t) : t.vol = s.vol := (congrArg State.vol h.frame :)
theorem Steers.acct (h : Steers s t) : t.acct = s.acct := (congrArg State.acct h.frame :)
theorem Steers.mgmt (h : Steers s t) : t.mgmt = s.mgmt := (congrArg State.mgmt h.frame :)
theorem Steers.nv (h : Steers s t) : t.nv = s.nv := (congrArg State.nv h.frame :)
theorem Steers.freeIdx (h : Steers s t) : t.freeIdx = s.freeIdx := (congrArg State.freeIdx h.frame :)
theorem Steers.pending (h : Steers s t) : t.pending = s.pending := (congrArg State.pending h.frame :)

theorem Steers.enabledSet (h : Steers s t) : enabledSet t = enabledSet s :=
  enabledSet_congr (by rw [h.portH]) (by rw [h.portY]) (by rw [h.portP]) (by rw [h.zone]) (by rw [h.recov])
    (by rw [h.acct]) (by rw [h.level]) h.nodes (by rw [h.mgmt]) (by rw [h.mgmt])

end

/-- A change of the supervisor's block that crosses neither LOCKED nor INHIBITED. -/
theorem setSup_steers (s : State) {v : Supervisor} (hl : v.state = .locked ↔ s.sup.state = .locked)
    (hi : v.state = .inhibited ↔ s.sup.state = .inhibited) : Steers s (s.setSup v) :=
  ⟨rfl, rfl, rfl, rfl, hl, hi⟩

/-- A change of the supervisor's block that keeps its state. -/
theorem setSup_steers_same (s : State) {v : Supervisor} (h : v.state = s.sup.state) : Steers s (s.setSup v) :=
  setSup_steers s (by rw [h]) (by rw [h])

theorem setBurnerStart_steers (b : Bool) (s : State) : Steers s (setBurnerStart b s) :=
  ⟨rfl, rfl, rfl, rfl, .rfl, .rfl⟩

theorem wakeSched_steers (s : State) : Steers s (wakeSched s) := ⟨rfl, rfl, rfl, rfl, .rfl, .rfl⟩

theorem modEntry_steers (slot : Nat) {f : PollEntry → PollEntry} (h : ∀ e, nodeSeen (f e) = nodeSeen e) (s : State) :
    Steers s (modEntry slot f s) :=
  ⟨rfl, rfl, rfl, map_modifySlot h _ _, .rfl, .rfl⟩

theorem redecide_steers (slot : Nat) (s : State) : Steers s (redecide slot s) := by
  have h : Steers s (modEntry slot decideDue s) := modEntry_steers slot (f := decideDue) (fun _ => rfl) s
  unfold redecide
  dsimp only
  split
  · exact h.trans (wakeSched_steers _)
  · exact h

theorem nodeSeen_changeDesired (pos : ValvePos) (now : Nat) (e : PollEntry) :
    nodeSeen (e.modValve (changeDesired pos now)) = nodeSeen e := by
  obtain ⟨_, _ | r⟩ := e
  · rfl
  · by_cases h : matchesDesired r.reported pos <;>
      simp [nodeSeen, PollEntry.modValve, PollEntry.valve?, changeDesired, stopTravelIfThere, h]

theorem writeDesired_steers (addr : Nat) (pos : ValvePos) (s : State) : Steers s (writeDesired addr pos s) := by
  unfold writeDesired
  split
  · exact .refl s
  · split
    · exact .refl s
    · split
      · exact .refl s
      · exact ((modEntry_steers _ (nodeSeen_changeDesired pos _) s).trans (redecide_steers _ _)).trans
          (wakeSched_steers _)

theorem writeZoneValve_steers (pos : ValvePos) (z : Nat) (s : State) : Steers s (writeZoneValve pos z s) := by
  unfold writeZoneValve
  split
  · exact .refl s
  · exact writeDesired_steers _ _ s

theorem openWanting_steers (z : Nat) (s : State) : Steers s (openWanting z s) := by
  unfold openWanting
  split
  · exact .refl s
  · split
    · exact .refl s
    · exact writeDesired_steers _ _ s

theorem forEach_steers {α : Type} {f : α → State → State} (h : ∀ x s, Steers s (f x s)) (xs : List α) (s : State) :
    Steers s (forEach xs f s) := by
  induction xs generalizing s with
  | nil => exact .refl s
  | cons x xs ih => exact (h x s).trans (ih _)

theorem releaseHeld_steers (s : State) : Steers s (releaseHeld s) :=
  (forEach_steers (writeZoneValve_steers .closed) _ s).trans (setSup_steers_same _ (by rfl))

theorem dropPump_steers (s : State) : Steers s (dropPump s) :=
  (setSup_steers_same s (by rfl)).trans (releaseHeld_steers _)

theorem zoneLeaves_steers (rest : Bool) (z : Nat) (s : State) : Steers s (zoneLeaves rest z s) := by
  unfold zoneLeaves
  split
  · exact .refl s
  · split
    · exact writeZoneValve_steers _ z s
    · exact setSup_steers_same s (by rfl)

theorem startHoldExtension_steers (s : State) : Steers s (startHoldExtension s) := by
  unfold startHoldExtension
  split
  · exact (setSup_steers_same s (by rfl)).trans (setBurnerStart_steers _ _)
  · exact setSup_steers_same s (by rfl)

/-- CALL drops to IDLE from a state that is neither LOCKED nor INHIBITED. -/
theorem dropCall_idle_steers {s : State} (hl : s.sup.state ≠ .locked) (hi : s.sup.state ≠ .inhibited) :
    Steers s (dropCall .idle s) := by
  unfold dropCall
  extract_lets _ s1 _ s2
  have h1 : Steers s s1 := setSup_steers s (by simp [hl]) (by simp [hi])
  have h2 : Steers s s2 := by
    simp only [s2]
    split
    · exact h1.trans (dropPump_steers s1)
    · exact h1.trans (setSup_steers_same s1 (by rfl))
  split
  · exact h2
  · exact (h2.trans (setSup_steers_same _ (by rfl))).trans (startHoldExtension_steers _)

/-- CALL rises from a state that is neither LOCKED nor INHIBITED. -/
theorem enterCalling_steers {s : State} (hl : s.sup.state ≠ .locked) (hi : s.sup.state ≠ .inhibited) :
    Steers s (enterCalling s) := by
  unfold enterCalling
  dsimp only
  have h1 := (setSup_steers s (v := { s.sup with
    state := .calling, pump := true, overrun := none, rr := { s.sup.rr with seen := false }, minOn := some s.tenths,
    startWindow := some s.tenths, holdExt := none }) (by simp [hl]) (by simp [hi])).trans (setBurnerStart_steers true _)
  split
  · exact (h1.trans (setSup_steers _ (by simp [setBurnerStart]) (by simp [setBurnerStart]))).trans
      (startHoldExtension_steers _)
  · exact h1

/-- Everything the transitions of the supervisor can do (R32, R35). -/
theorem testSupervisor_steers (s : State) : Steers s (testSupervisor s) := by
  have drop (hl : s.sup.state ≠ .locked) (hi : s.sup.state ≠ .inhibited) :
      Steers s (if !pathExists s then dropCall .idle s
        else if s.sup.served.isEmpty && minOnPassed s then dropCall .idle s else s) := by
    split
    · exact dropCall_idle_steers hl hi
    · split
      · exact dropCall_idle_steers hl hi
      · exact .refl s
  unfold testSupervisor
  cases hs : s.sup.state with
  | idle =>
    dsimp only
    split
    · exact .refl s
    · split
      · exact enterCalling_steers (by simp [hs]) (by simp [hs])
      · exact setSup_steers s (by simp [hs]) (by simp [hs])
  | waitOff =>
    dsimp only
    split
    · exact setSup_steers s (by simp [hs]) (by simp [hs])
    · split
      · exact enterCalling_steers (by simp [hs]) (by simp [hs])
      · exact .refl s
  | calling => exact drop (by simp [hs]) (by simp [hs])
  | firing => exact drop (by simp [hs]) (by simp [hs])
  | holding => exact drop (by simp [hs]) (by simp [hs])
  | locked => exact .refl s
  | inhibited => exact .refl s

theorem recompute_steers (s : State) : Steers s (recompute s) := by
  unfold recompute
  extract_lets _ s1 s2
  have h1 : Steers s s1 := setSup_steers_same s (by rfl)
  have h2 : Steers s s2 := by
    simp only [s2]
    split
    · exact h1
    · exact h1.trans (releaseHeld_steers s1)
  exact (h2.trans (forEach_steers openWanting_steers _ _)).trans (testSupervisor_steers _)

/-- Everything a new wanting-heat set can do at the supervisor (R16, R27, R29). -/
theorem takeWanting_steers (wanting : List Nat) (s : State) : Steers s (takeWanting wanting s) := by
  unfold takeWanting
  extract_lets left _ s1
  have h1 : Steers s s1 := setSup_steers_same s (by rfl)
  exact (h1.trans (forEach_steers (zoneLeaves_steers _) _ _)).trans (recompute_steers _)

/-- Everything a changed valve node can do at the supervisor (R30). -/
theorem takeValveNode_steers (z : Nat) (old : Option Nat) (wanting : List Nat) (s : State) :
    Steers s (takeValveNode z old wanting s) := by
  unfold takeValveNode
  extract_lets s1 _ s2
  have h1 : Steers s s1 := by
    cases old with
    | none => exact .refl s
    | some a => exact writeDesired_steers a .closed s
  have h2 : Steers s s2 := h1.trans (setSup_steers_same s1 (by rfl))
  split
  · exact h2.trans (openWanting_steers _ _)
  · exact h2.trans (writeZoneValve_steers _ _ _)

theorem handOver_steers (old : List Nat) (s : State) : Steers s (handOver old s) := by
  unfold handOver
  split
  · exact .refl s
  · exact takeWanting_steers _ s

/-! ### What a hand-over of zones can do -/

theorem KeepsStores.refl (s : State) : KeepsStores s s := ⟨rfl, _, _, rfl⟩

theorem KeepsStores.trans {a b c : State} (h : KeepsStores a b) (k : KeepsStores b c) : KeepsStores a c := by
  obtain ⟨hn, l, r, hm⟩ := h
  obtain ⟨kn, l', r', km⟩ := k
  exact ⟨kn.trans hn, l', r', by rw [km, hm]⟩

theorem PortsOffered.refl (s : State) : PortsOffered s s := ⟨.refl _, .refl _, .refl _⟩

theorem PortsOffered.trans {a b c : State} (h : PortsOffered a b) (k : PortsOffered b c) : PortsOffered a c :=
  ⟨h.1.trans k.1, h.2.1.trans k.2.1, h.2.2.trans k.2.2⟩

theorem portsOffered_of_eq {s t : State} (hH : t.portH = s.portH) (hY : t.portY = s.portY) (hP : t.portP = s.portP) :
    PortsOffered s t := by
  rw [PortsOffered, hH, hY, hP]; exact ⟨.refl _, .refl _, .refl _⟩

theorem PortsOffered.port {s t : State} (h : PortsOffered s t) (port : Port) : PortOffered (s.port port) (t.port port) := by
  cases port
  · exact h.1
  · exact h.2.1
  · exact h.2.2

theorem KeepsClock.refl (s : State) : KeepsClock s s := ⟨rfl, rfl, rfl⟩

theorem KeepsClock.trans {a b c : State} (h : KeepsClock a b) (k : KeepsClock b c) : KeepsClock a c :=
  ⟨k.1.trans h.1, k.2.1.trans h.2.1, k.2.2.trans h.2.2⟩

theorem KeepsClock.sec {s t : State} (h : KeepsClock s t) : t.sec = s.sec := congrArg (· / ticksPerSecond) h.1

theorem KeepsClock.tenths {s t : State} (h : KeepsClock s t) : t.tenths = s.tenths := congrArg (· / ticksPerTenth) h.1

theorem DispatchFrame.refl (s : State) : DispatchFrame s s :=
  ⟨.refl s, rfl, rfl, rfl, rfl, rfl, .refl s, .refl s, .refl s⟩

theorem DispatchFrame.trans {a b c : State} (h : DispatchFrame a b) (k : DispatchFrame b c) : DispatchFrame a c where
  clock := h.clock.trans k.clock
  relay := k.relay.trans h.relay
  recov := k.recov.trans h.recov
  level := k.level.trans (by rw [h.level])
  vol := k.vol.trans h.vol
  acct := k.acct.trans h.acct
  stores := h.stores.trans k.stores
  nodes := h.nodes.trans k.nodes
  ports := h.ports.trans k.ports

theorem Finishes.dispatch {s t : State} (h : Finishes s t) : DispatchFrame s t :=
  ⟨⟨h.now, h.pending, h.freeIdx⟩, h.relay, h.recov, by rw [h.level], h.vol, h.acct, ⟨h.nv, h.mgmt⟩, h.keepsNodes,
    ⟨h.portH, h.portY, h.portP⟩⟩

theorem Steers.dispatch {s t : State} (h : Steers s t) : DispatchFrame s t :=
  ⟨⟨h.now, h.pending, h.freeIdx⟩, h.relay, h.recov, h.level, h.vol, h.acct, ⟨h.nv, _, _, h.mgmt⟩, h.nodes,
    portsOffered_of_eq h.portH h.portY h.portP⟩

theorem setZone_dispatch (s : State) (v : ZoneUnit) : DispatchFrame s (s.setZone v) :=
  ⟨.refl s, rfl, rfl, rfl, rfl, rfl, .refl s, .refl s, .refl s⟩

theorem handOver_dispatch (old : List Nat) (s : State) : DispatchFrame s (handOver old s) := (handOver_steers old s).dispatch

/-- Everything an evaluation of zones can do outside the zone unit (R12, R16, R18). -/
theorem evaluateZones_dispatch (zs : List Nat) (s : State) : DispatchFrame s (evaluateZones zs s) :=
  ((setZone_dispatch s _).trans (settleNotices_reports _).finishes.dispatch).trans (handOver_dispatch _ _)

/-- The zone unit after an evaluation of zones: their states and the wanting-heat set (R12). -/
theorem evaluateZones_zone (zs : List Nat) (s : State) : (evaluateZones zs s).zone = (evaluated zs s).zone :=
  (handOver_steers _ _).zone.trans (settleNotices_reports _).zone

/-! ### What a write of a table can do -/

/-- A write of a table, with its effects on demand parts, zones and supervisor: the frame of `TableFrame`, and the ports and the
poll list's nodes as they were but for offers. -/
structure Writes (s t : State) : Prop where
  table : TableFrame s t
  nodes : KeepsNodes s t
  ports : PortsOffered s t

theorem TableFrame.refl (s : State) : TableFrame s s := ⟨.refl s, rfl, rfl, rfl, rfl, .refl s, rfl, rfl⟩

theorem TableFrame.trans {a b c : State} (h : TableFrame a b) (k : TableFrame b c) : TableFrame a c where
  clock := h.clock.trans k.clock
  recov := k.recov.trans h.recov
  level := k.level.trans (by rw [h.level])
  vol := k.vol.trans h.vol
  acct := k.acct.trans h.acct
  stores := h.stores.trans k.stores
  relay := k.relay.trans (by rw [h.relay])
  nodes := k.nodes.trans h.nodes

theorem Writes.refl (s : State) : Writes s s := ⟨.refl s, .refl s, .refl s⟩

theorem Writes.trans {a b c : State} (h : Writes a b) (k : Writes b c) : Writes a c :=
  ⟨h.table.trans k.table, h.nodes.trans k.nodes, h.ports.trans k.ports⟩

theorem DispatchFrame.writes {s t : State} (h : DispatchFrame s t) : Writes s t :=
  ⟨⟨h.clock, h.recov, by rw [h.level], h.vol, h.acct, h.stores, by rw [h.relay], by rw [h.relay]⟩, h.nodes, h.ports⟩

theorem Finishes.writes {s t : State} (h : Finishes s t) : Writes s t := h.dispatch.writes

/-- A change of demand parts alone. -/
theorem mapNodes_writes {f : NodeEntry → NodeEntry} (h : ∀ n, { f n with part := none } = { n with part := none })
    (s : State) : Writes s (mapNodes f s) := by
  refine ⟨⟨.refl s, rfl, rfl, rfl, rfl, .refl s, rfl, ?_⟩, rfl, .refl s⟩
  simp only [mapNodes, setNodes, State.setRelay_relay, List.map_map, Option.map_comp_map]
  exact map_option_congr fun n _ => h n

end Sys2Proof.Machine
end

section
/-! SUPPORT. The evaluation of zones: members, the rows of R11, the standing of R14, and the zones that an evaluation leaves as
they are. -/

namespace Sys2Proof.Machine

/-! ### Members (R3, R10) -/

theorem mem_freshMembers {s : State} {z : Nat} {n : NodeEntry} :
    n ∈ freshMembers s z ↔ some n ∈ s.relay.nodes ∧ unitZone s n.addr = some z := by
  simp only [freshMembers, List.mem_filterMap, Option.filter_eq_some_iff, decide_eq_true_eq]
  constructor
  · rintro ⟨_, hm, rfl, hu⟩; exact ⟨hm, hu⟩
  · rintro ⟨hm, hu⟩; exact ⟨_, hm, rfl, hu⟩

theorem mem_governing {s : State} {ze : ZoneEntry} {z : Nat} {n : NodeEntry} :
    n ∈ governing s ze z ↔ n ∈ freshMembers s z ∧
      (ze.mode = .select → (∃ m ∈ freshMembers s z, ze.lead = some m.addr) → ze.lead = some n.addr) := by
  unfold governing
  cases hm : ze.mode with
  | group => simp
  | select =>
    dsimp only
    split
    · next h =>
      have none_leads : ∀ m ∈ freshMembers s z, ze.lead ≠ some m.addr := by simpa using h
      exact ⟨fun hn => ⟨hn, fun _ ⟨m, hf, hl⟩ => absurd hl (none_leads m hf)⟩, And.left⟩
    · next h =>
      obtain ⟨m, hf⟩ := List.exists_mem_of_ne_nil _ h
      simp only [List.mem_filter, decide_eq_true_eq] at hf ⊢
      exact ⟨fun ⟨hn, hl⟩ => ⟨hn, fun _ _ => hl⟩, fun ⟨hn, hl⟩ => ⟨hn, hl trivial ⟨m, hf⟩⟩⟩

/-! ### The rows of R11 -/

section
variable {s : State} {z : Nat} {ze : ZoneEntry}

theorem zoneStateOf_unused (hz : s.zone.table[z]? = some ze) (hc : ze.cls = .unused) : zoneStateOf s z = .unused := by
  simp [zoneStateOf, hz, hc]

theorem zoneStateOf_unheard (hz : s.zone.table[z]? = some ze) (hc : ze.cls ≠ .unused)
    (hf : ∀ n, n ∉ freshMembers s z) : zoneStateOf s z = if s.zone.grace then .waiting else .blind := by
  simp [zoneStateOf, hz, hc, List.eq_nil_iff_forall_not_mem.mpr hf]

theorem zoneStateOf_heard (hz : s.zone.table[z]? = some ze) (hc : ze.cls ≠ .unused) {n : NodeEntry}
    (hn : n ∈ freshMembers s z) :
    zoneStateOf s z = if ∃ n ∈ governing s ze z, ∃ d, n.part = some d ∧ d.frost = true then .frost
      else if ∃ n ∈ governing s ze z, ∃ d, n.part = some d ∧ d.calling = true then .calling else .satisfied := by
  have he : (freshMembers s z).isEmpty = false := by
    rw [List.isEmpty_eq_false_iff]; exact List.ne_nil_of_mem hn
  have any_iff (f : DemandPart → Bool) : ((governing s ze z).any fun n => n.part.any f) = true ↔
      ∃ n ∈ governing s ze z, ∃ d, n.part = some d ∧ f d = true := by
    simp [Option.any_eq_true]
  simp [zoneStateOf, hz, hc, he, any_iff]

end

theorem unitZone_congr {s t : State} (he : t.zone.enrol = s.zone.enrol) (addr : Nat) : unitZone t addr = unitZone s addr := by
  rw [unitZone, unitZone, enrolOf, enrolOf, he]

theorem freshMembers_congr {s t : State} (hn : t.relay.nodes = s.relay.nodes) (he : t.zone.enrol = s.zone.enrol) (z : Nat) :
    freshMembers t z = freshMembers s z := by
  simp only [freshMembers, hn, unitZone_congr he]

theorem governing_congr {s t : State} (hn : t.relay.nodes = s.relay.nodes) (he : t.zone.enrol = s.zone.enrol)
    (ze : ZoneEntry) (z : Nat) : governing t ze z = governing s ze z := by
  unfold governing
  rw [freshMembers_congr hn he]

/-- The state of a zone follows the node table, the enrolment map, the zone table and the grace. -/
theorem zoneStateOf_congr {s t : State} (hn : t.relay.nodes = s.relay.nodes) (he : t.zone.enrol = s.zone.enrol)
    (ht : t.zone.table = s.zone.table) (hg : t.zone.grace = s.zone.grace) (z : Nat) : zoneStateOf t z = zoneStateOf s z := by
  unfold zoneStateOf
  simp only [governing_congr hn he, freshMembers_congr hn he, ht, hg]

/-! ### Wanting heat (R14, R15) -/

theorem adjustedDuty_eq (tank : TankState) (ze : ZoneEntry) :
    adjustedDuty tank ze = if tank = .reserve ∧ ze.cls = .normal then ze.duty / 2
      else if tank = .reserve ∧ ze.cls = .low then 0 else ze.duty := by
  cases hc : ze.cls <;> by_cases ht : tank = .reserve <;> simp [adjustedDuty, hc, ht]

/-- Which zone states want heat, and when (R14). -/
theorem wantsHeat_iff {s : State} {z : Nat} {ze : ZoneEntry} (hz : s.zone.table[z]? = some ze) (st : ZoneState) :
    wantsHeat s z st = true ↔ s.acct.tank ≠ .empty ∧
      (st = .frost ∨ (st = .calling ∧ ¬(ze.cls = .low ∧ s.acct.tank = .reserve)) ∨
        (st = .blind ∧ s.sec % 3600 < adjustedDuty s.acct.tank ze * 60)) := by
  by_cases ht : s.acct.tank = .empty
  · simp [wantsHeat, hz, ht]
  · cases st
    case blind =>
      simp only [wantsHeat, hz, ht, if_false, decide_eq_true_eq, reduceCtorEq, false_and, false_or, true_and, ne_eq,
        not_false_iff]
      exact Iff.rfl
    all_goals simp [wantsHeat, hz, ht, imp_iff_not_or]

/-! ### What an evaluation does to the zones (R12) -/

section
variable {zs : List Nat} {s : State} {z : Nat}

theorem evaluated_state (hz : z ∈ zs) (hl : z < s.zone.states.length) :
    (evaluated zs s).zone.states[z]? = some (zoneStateOf s z) := by
  simp [evaluated, getElem?_numbered, hz, hl]

theorem evaluated_state_other (hz : z ∉ zs) : (evaluated zs s).zone.states[z]? = s.zone.states[z]? := by
  cases h : s.zone.states[z]? <;> simp [evaluated, getElem?_numbered, hz, h]

theorem mem_evaluated_wanting (hz : z ∈ zs) : z ∈ (evaluated zs s).zone.wanting ↔
    z < s.zone.table.length ∧ wantsHeat s z (zoneStateOf s z) = true := by
  simp [evaluated, allZones, hz]

theorem mem_evaluated_wanting_other (hz : z ∉ zs) : z ∈ (evaluated zs s).zone.wanting ↔
    z < s.zone.table.length ∧ z ∈ s.zone.wanting := by
  simp [evaluated, allZones, hz]

end

/-- A command that evaluates zones: it answers a next state in the frame of R12, whose zone unit is the one evaluated. -/
theorem finish_evaluateZones (zs : List Nat) (s : State) :
    ZoneFrame s (finish (evaluateZones zs s)) ∧ (finish (evaluateZones zs s)).zone = (evaluated zs s).zone := by
  have hz : (finish (evaluateZones zs s)).zone = (evaluated zs s).zone :=
    (finish_finishes _).zone.trans (evaluateZones_zone zs s)
  exact ⟨⟨(evaluateZones_dispatch zs s).trans (finish_finishes _).dispatch, by rw [hz]; rfl⟩, hz⟩

/-! ### The timers of the zones -/

/-- Settles O7: the rows of R11 exclude each other, and each names the state and the standing of its zone. -/
theorem everyZoneIsEvaluated : Obligations.EveryZoneIsEvaluated := by
  intro c s hc
  have start : ∃ s', exec c s = .next (finish (evaluateAll s')) ∧
      s' = s.setZone { s.zone with grace := if c = .startupGraceExpiry then false else s.zone.grace } := by
    rcases hc with ⟨rfl, hg, h120⟩ | ⟨rfl, hp⟩
    · refine ⟨_, ?_, rfl⟩
      simp [exec, execStartupGraceExpiry, act, hg, startupGrace, h120]
    · refine ⟨_, ?_, rfl⟩
      simp [exec, execHourWindowBoundary, act, hourPosition, hp, State.setZone]
  obtain ⟨s', hexec, hs'⟩ := start
  obtain ⟨⟨hframe, hzone⟩, hzu⟩ := finish_evaluateZones (allZones s') s'
  have hgrace : (finish (evaluateAll s')).zone.grace = s'.zone.grace := by
    rw [evaluateAll, hzu]; rfl
  refine ⟨_, hexec, ⟨?_, ?_⟩, ?_, ?_⟩
  · exact (hs' ▸ setZone_dispatch s _ : DispatchFrame s s').trans hframe
  · rw [evaluateAll, hzu, hs']; rfl
  · rw [hgrace, hs']; rfl
  intro z ze duty fresh governs hz hlen hduty hfresh hgoverns
  have hz' : s'.zone.table[z]? = some ze := by rw [hs']; exact hz
  have hmem : z ∈ allZones s' := List.mem_range.mpr (List.getElem?_eq_some_iff.mp hz').1
  have hlen' : z < s'.zone.states.length := by rw [hs']; exact hlen
  have hf (n : NodeEntry) : fresh n ↔ n ∈ freshMembers s' z := by
    rw [hfresh, mem_freshMembers, hs']; rfl
  have hg (n : NodeEntry) : governs n ↔ n ∈ governing s' ze z := by
    simp only [hgoverns, mem_governing, hf]
  have htank : s'.acct.tank = s.acct.tank := by rw [hs']; rfl
  have hsec : s'.sec = s.sec := by rw [hs']; rfl
  have hadj : adjustedDuty s.acct.tank ze = duty := by rw [adjustedDuty_eq, hduty]
  have hstate : (finish (evaluateAll s')).zone.states[z]? = some (zoneStateOf s' z) := by
    rw [evaluateAll, hzu]; exact evaluated_state hmem hlen'
  have hwant : z ∈ (finish (evaluateAll s')).zone.wanting ↔ s.acct.tank ≠ .empty ∧
      (zoneStateOf s' z = .frost ∨ (zoneStateOf s' z = .calling ∧ ¬(ze.cls = .low ∧ s.acct.tank = .reserve)) ∨
        (zoneStateOf s' z = .blind ∧ s.sec % 3600 < duty * 60)) := by
    rw [evaluateAll, hzu, mem_evaluated_wanting hmem, wantsHeat_iff hz', htank, hsec, hadj,
      and_iff_right (List.mem_range.mp hmem)]
  rw [hstate, hwant, hgrace]
  simp only [hf, hg]
  have heard {n : NodeEntry} (hn : n ∈ governing s' ze z) (hu : ze.cls ≠ .unused) :=
    zoneStateOf_heard hz' hu (mem_governing.mp hn).1
  refine ⟨fun hu => ?_, fun hu hn hg => ?_, fun hu hn hg => ?_, fun hu ⟨n, d, hn, hd⟩ => ?_,
    fun hu hno ⟨n, d, hn, hd⟩ => ?_, fun hu ⟨n, hn⟩ hno => ?_⟩
  · simp [zoneStateOf_unused hz' hu]
  · simp [zoneStateOf_unheard hz' hu hn, hg]
  · simp [zoneStateOf_unheard hz' hu hn, hg]
  · have hrow : ∃ n ∈ governing s' ze z, ∃ d, n.part = some d ∧ d.frost = true := ⟨n, hn, d, hd⟩
    simp [heard hn hu, hrow]
  · have hfrost : ¬ ∃ n ∈ governing s' ze z, ∃ d, n.part = some d ∧ d.frost = true := by
      rintro ⟨m, hm, e, he, hfr⟩
      simp [hno m e hm he] at hfr
    have hrow : ∃ n ∈ governing s' ze z, ∃ d, n.part = some d ∧ d.calling = true := ⟨n, hn, d, hd⟩
    simp [heard hn hu, hfrost, hrow]
  · have hnone : (¬ ∃ n ∈ governing s' ze z, ∃ d, n.part = some d ∧ d.frost = true) ∧
        ¬ ∃ n ∈ governing s' ze z, ∃ d, n.part = some d ∧ d.calling = true := by
      constructor <;> rintro ⟨m, hm, e, he, hfr⟩ <;> simp [hno m e hm he] at hfr
    simp [zoneStateOf_heard hz' hu hn, hnone]

/-- Settles O8: the zone is BLIND with its duty portion behind it, so it does not want heat; R12 evaluates no other zone. -/
theorem dutyPortionEndStopsTheZone : Obligations.DutyPortionEndStopsTheZone := by
  intro z duty ze s hz hlen hc hfresh hgrace hduty hpos
  have hadj : adjustedDuty s.acct.tank ze = duty := by rw [adjustedDuty_eq, hduty]
  have hexec : exec (.dutyPortionEnd z) s = .next (finish (evaluateZones [z] s)) := by
    simp [exec, execDutyPortionEnd, act, hz, hadj, hourPosition, hpos]
  have hblind : zoneStateOf s z = .blind := by
    have hnone : ∀ n, n ∉ freshMembers s z := fun n hn => by
      obtain ⟨hm, hu⟩ := mem_freshMembers.mp hn
      exact hfresh n hm hu
    rw [zoneStateOf_unheard hz hc hnone, hgrace]; rfl
  have hmem : z ∈ [z] := List.mem_singleton_self z
  obtain ⟨hframe, hzu⟩ := finish_evaluateZones [z] s
  refine ⟨_, hexec, hframe, by rw [hzu]; rfl, ?_, ?_, fun y hy => ?_⟩
  · rw [hzu, evaluated_state hmem hlen, hblind]
  · rw [hzu, mem_evaluated_wanting hmem, hblind, wantsHeat_iff hz, hadj]
    simp [Nat.not_lt.mpr hpos]
  · have hy' : y ∉ [z] := by simpa using hy
    rw [hzu, evaluated_state_other hy', mem_evaluated_wanting_other hy']
    exact ⟨rfl, fun hl => and_iff_right hl⟩

end Sys2Proof.Machine
end

section
/-! SUPPORT. Fields as bytes, and management requests that write: what is answered, and what the response and the end of the
command leave of the state that the write made. -/

namespace Sys2Proof.Machine

/-! ### Fields as bytes -/

@[simp] theorem length_beBytes (w v : Nat) : (beBytes w v).length = w := by
  induction w with
  | zero => rfl
  | succ w ih => simp [beBytes, ih]

theorem foldl_beBytes (w v acc : Nat) :
    (beBytes w v).foldl (fun acc b => acc * 256 + b.toNat) acc = acc * 256 ^ w + v % 256 ^ w := by
  induction w generalizing acc with
  | zero => simp [beBytes, Nat.mod_one]
  | succ w ih =>
    have hb : (BitVec.ofNat 8 (v / 256 ^ w)).toNat = v / 256 ^ w % 256 := BitVec.toNat_ofNat _ 8
    have hm : v % 256 ^ (w + 1) = 256 ^ w * (v / 256 ^ w % 256) + v % 256 ^ w := by
      rw [Nat.pow_succ, Nat.mod_mul, Nat.add_comm]
    rw [beBytes, List.foldl_cons, ih, hb, hm]
    ring

theorem ofBytes_beBytes {w v : Nat} (h : v < 256 ^ w) : ofBytes (beBytes w v) = v := by
  rw [ofBytes, foldl_beBytes, Nat.zero_mul, Nat.zero_add, Nat.mod_eq_of_lt h]

theorem clampNat_eq {lo hi : Nat} (h : lo ≤ hi) (v : Nat) : clampNat lo hi v = min hi (max lo v) := by
  unfold clampNat
  split
  · omega
  · split <;> omega

theorem clampInt_eq {lo hi : Int} (h : lo ≤ hi) (v : Int) : clampInt lo hi v = min hi (max lo v) := by
  unfold clampInt
  split
  · omega
  · split <;> omega

/-- A numeric field written in its width is clamped and taken. -/
theorem writeNum_beBytes {w v lo hi : Nat} (hv : v < 256 ^ w) (k : Nat → State) :
    writeNum w lo hi (beBytes w v) k = some (decide (clampNat lo hi v ≠ v), k (clampNat lo hi v)) := by
  simp [writeNum, ofBytes_beBytes hv]

/-- A field of one byte. -/
theorem beBytes_one (v : Nat) : beBytes 1 v = [BitVec.ofNat 8 v] := by simp [beBytes]

/-- A field of two bytes. -/
theorem beBytes_two (v : Nat) : beBytes 2 v = [BitVec.ofNat 8 (v / 256), BitVec.ofNat 8 v] := by simp [beBytes]

theorem toNat_ofNat_byte {v : Nat} (h : v < 256) : (BitVec.ofNat 8 v).toNat = v := by
  rw [BitVec.toNat_ofNat]; exact Nat.mod_eq_of_lt h

/-! ### The response -/

/-- The status of a write that was taken: CLAMPED if a field was clamped. -/
def writeReply (clamped : Bool) : Reply := .bare (if clamped then .clamped else .ok)

theorem writeReply_decide (taken written : Nat) : writeReply (decide (taken ≠ written)) = takenAs written taken := by
  by_cases h : taken = written <;> simp [writeReply, takenAs, h]

theorem respond_offers (room : Room) (src op obj idx : Byte) (r : Reply) (s : State) :
    Offers s (respond room src op obj idx r s) := by
  cases r with
  | later => exact .refl s
  | now st data mark => exact generate_offers _ _ _ s

theorem Settled.congr {s t : State} (h : Settled s) (hw : t.sched.wake = s.sched.wake)
    (he : enabledSet t = enabledSet s) (hl : t.mgmt.line = s.mgmt.line)
    (hr : t.mgmt.repeatFrom = s.mgmt.repeatFrom) : Settled t :=
  ⟨hw.trans h.quiet, by rw [NoticeSettled, hl, he]; exact h.notices, by rw [he, hr]; exact h.timer⟩

theorem Offers.settled {s t : State} (h : Offers s t) (hs : Settled s) : Settled t :=
  hs.congr (by rw [h.sched]) h.finishes.enabledSet (by rw [h.mgmt]) (by rw [h.mgmt])

theorem reports_of_quiet {s : State} (h : s.sched.wake = false) : Reports s (finish s) := by
  rw [finish_quiet h]; exact settleNotices_reports s

/-! ### The checks of R170 -/

section
variable {s s' : State} {q : Req} {obj idx : Byte} {o : Obj} {clamped : Bool}

theorem handle_write (hm : MayWrite s q) (ho : objOf obj = some o) (hi : idx.toNat ≤ o.lastIndex)
    (hw : (o.isCounter idx.toNat || o.isSetting idx.toNat) = true) (r : WriteResult)
    (h : writeItem o idx.toNat q.data s = r) :
    handle Op.write.code obj idx q.room q.src q.data s =
      (((r.map (·.2)).getD s), (r.map fun x => writeReply x.1).getD (.bare .badValue)) := by
  obtain ⟨hsrc, hstore⟩ := hm
  have hwrite : handle Op.write.code obj idx q.room q.src q.data s = handleWrite obj idx q.src q.data s := rfl
  rw [hwrite]
  unfold handleWrite
  simp only [ho, Nat.not_lt.mpr hi, hsrc, hw, hstore, h, if_false, Bool.not_true, Bool.false_eq_true]
  cases r <;> rfl

/-- A write that its owner refuses is answered BAD_VALUE. -/
theorem write_refused (hm : MayWrite s q) (ho : objOf obj = some o) (hi : idx.toNat ≤ o.lastIndex)
    (hw : (o.isCounter idx.toNat || o.isSetting idx.toNat) = true) (h : writeItem o idx.toNat q.data s = none) :
    answerOf .write obj idx q s = .bare .badValue := by
  rw [answerOf, handle_write hm ho hi hw none h]; rfl

/-- A write that its owner takes is answered, and the command ends on the state that the owner made. -/
theorem write_taken (hm : MayWrite s q) (ho : objOf obj = some o) (hi : idx.toNat ≤ o.lastIndex)
    (hw : (o.isCounter idx.toNat || o.isSetting idx.toNat) = true)
    (h : writeItem o idx.toNat q.data s = some (clamped, s')) :
    answerOf .write obj idx q s = writeReply clamped ∧
      requested .write obj idx q s =
        .next (finish (respond q.room q.src 2 obj idx (writeReply clamped) s')) := by
  have hh := handle_write hm ho hi hw _ h
  refine ⟨by rw [answerOf, hh]; rfl, ?_⟩
  have hr : request .write obj idx q s = respond q.room q.src 2 obj idx (writeReply clamped) s' := by
    rw [request, hh]; rfl
  exact congrArg (fun t => Host.Outcome.next (finish t)) hr

/-- A write that makes a settled state does nothing more than to answer. -/
theorem write_answers {c : Instr} (hm : MayWrite s q) (ho : objOf obj = some o) (hi : idx.toNat ≤ o.lastIndex)
    (hw : (o.isCounter idx.toNat || o.isSetting idx.toNat) = true) (hc : exec c s = requested .write obj idx q s)
    (h : writeItem o idx.toNat q.data s = some (clamped, s')) (hs : Settled s') :
    Answers c 2 obj idx q (writeReply clamped) s s' := by
  rw [Answers, hc, (write_taken hm ho hi hw h).2, finish_of_settled ((respond_offers ..).settled hs)]

end

end Sys2Proof.Machine
end

section
/-! SUPPORT. Demand parts evaluated again (R6, R7, R9), the parts that a truncated delivery and a skipped period change (R112,
R118), and the writes of RESERVE_SETBACK, the notice mask, the scaling and the filter shape. -/

namespace Sys2Proof.Machine

/-! ### Demand parts (R6, R7, R9) -/

theorem effectiveSetpoint_eq (tank : TankState) (setback : Nat) (ze : ZoneEntry) (setpoint : Nat) :
    effectiveSetpoint tank setback ze setpoint =
      if tank = .reserve ∧ ze.cls = .normal then
        (if min setpoint ze.ceiling ≤ ze.frost then min setpoint ze.ceiling
          else max (min setpoint ze.ceiling - setback) ze.frost)
      else if tank = .reserve ∧ ze.cls = .low then ze.frost else min setpoint ze.ceiling := by
  cases hc : ze.cls <;> by_cases ht : tank = .reserve <;> simp [effectiveSetpoint, hc, ht]

theorem rerunPart_rerun (tank : TankState) (setback : Nat) (ze : ZoneEntry) (p : DemandPart) :
    Rerun tank setback ze p (rerunPart tank setback ze p) :=
  ⟨_, _, rfl, effectiveSetpoint_eq tank setback ze (p.setpoint.getD ze.setpoint), rfl⟩

theorem rerunNode_eq {s : State} {n : NodeEntry} {z : Nat} {ze : ZoneEntry} (hu : unitZone s n.addr = some z)
    (hz : s.zone.table[z]? = some ze) :
    rerunNode s n = { n with part := n.part.map (rerunPart s.acct.tank s.zone.setback ze) } := by
  simp [rerunNode, hu, hz]

/-- Evaluating a node entry's part again changes nothing else of it, and makes no part. -/
theorem rerunNode_frame (s : State) (n : NodeEntry) :
    rerunNode s n = { n with part := (rerunNode s n).part } ∧ (rerunNode s n).part.isSome = n.part.isSome := by
  unfold rerunNode
  split
  · exact ⟨rfl, rfl⟩
  · exact ⟨rfl, by simp⟩

theorem rerunNode_keeps (s : State) (n : NodeEntry) : { rerunNode s n with part := none } = { n with part := none } :=
  congrArg (fun m : NodeEntry => { m with part := none }) (rerunNode_frame s n).1

theorem rerunNode_addr (s : State) (n : NodeEntry) : (rerunNode s n).addr = n.addr :=
  (congrArg NodeEntry.addr (rerunNode_keeps s n) :)

theorem rerunParts_writes (which : Nat → Bool) (s : State) : Writes s (rerunParts which s) :=
  mapNodes_writes (fun n => by split; exacts [rerunNode_keeps s n, rfl]) s

/-- The parts that a re-run of some zones' parts evaluates again, and those it leaves (R9). -/
theorem partsRerun_of {P : Nat → Prop} {which : Nat → Bool} (hP : ∀ z, P z ↔ which z = true) {s s' t : State}
    (hn : s'.relay.nodes = s.relay.nodes) (he : s'.zone.enrol = s.zone.enrol)
    (ht : t.relay.nodes = (rerunParts which s').relay.nodes) (htab : t.zone.table = s'.zone.table)
    (hsb : t.zone.setback = s'.zone.setback) (htank : t.acct.tank = s'.acct.tank) : PartsRerun P s t := by
  have hmap : t.relay.nodes = s.relay.nodes.map (Option.map fun n =>
      if (unitZone s n.addr).any which then rerunNode s' n else n) := by
    simp only [ht, rerunParts, mapNodes, setNodes, State.setRelay_relay, hn, unitZone_congr he]
  refine ⟨by simp [hmap], fun slot => ⟨fun h => by rw [hmap, slotGet_map, h]; rfl, fun n hslot => ?_⟩⟩
  obtain ⟨n', hn'⟩ : ∃ n', n' = if (unitZone s n.addr).any which then rerunNode s' n else n := ⟨_, rfl⟩
  refine ⟨n', by rw [hmap, slotGet_map, hslot, hn']; rfl, ?_⟩
  by_cases hw : (unitZone s n.addr).any which = true
  · obtain ⟨z, hz, hwz⟩ := (Option.any_eq_true _ _).mp hw
    obtain rfl : n' = rerunNode s' n := hn'.trans (if_pos hw)
    refine ⟨(rerunNode_frame s' n).1, (rerunNode_frame s' n).2, fun p q hp hq => ⟨fun y ze hy _ hze => ?_, fun h => ?_⟩⟩
    · rw [rerunNode_eq ((unitZone_congr he _).trans hy) (htab ▸ hze), hp] at hq
      obtain rfl : rerunPart _ _ ze p = q := Option.some.inj hq
      rw [htank, hsb]
      exact rerunPart_rerun _ _ ze p
    · exact absurd ((hP z).mpr hwz) (h z hz)
  · obtain rfl : n' = n := hn'.trans (if_neg hw)
    refine ⟨rfl, rfl, fun p q hp hq => ⟨fun z ze hz hPz _ => ?_, fun _ => Option.some.inj (hq.symm.trans hp)⟩⟩
    exact absurd ((Option.any_eq_true _ _).mpr ⟨z, hz, (hP z).mp hPz⟩) hw

/-- The state of a zone that a command has evaluated is the one that R11 gives of the state the command ends on. -/
theorem state_of_evaluated {s t : State} {zs : List Nat} {z : Nat} (hzone : t.zone = (evaluated zs s).zone)
    (hrelay : t.relay = s.relay) (hz : z ∈ zs) (hl : z < s.zone.states.length) :
    t.zone.states[z]? = some (zoneStateOf t z) := by
  rw [hzone, evaluated_state hz hl]
  exact congrArg some (zoneStateOf_congr (by rw [hrelay]) (by rw [hzone]; rfl) (by rw [hzone]; rfl)
    (by rw [hzone]; rfl) z).symm

/-! ### Burn credit, periods and deliveries (R25, R108, R112, R118) -/

/-- What a partial burn leaves: the run is split now, and its burn credited (R25, R108). -/
theorem takePartialBurn_eq {s : State} {credit residue : Nat} (h : partialCredit s credit residue) :
    takePartialBurn s =
      (s.setSup { s.sup with rr := { s.sup.rr with
          start := if s.sup.rr.active then s.tenths else s.sup.rr.start } }).setAcct
        { s.acct with
          residue := residue, accum := s.acct.accum + credit
          period := s.acct.period.map fun p => { p with burn := p.burn + credit } } := by
  obtain ⟨hidle, hburn⟩ := h
  have hsplit : splitBurn s = if s.sup.rr.active then
      some (s.tenths - s.sup.rr.start, s.setSup { s.sup with rr := { s.sup.rr with start := s.tenths } }) else none := rfl
  rw [takePartialBurn, hsplit]
  by_cases ha : s.sup.rr.active = true
  · obtain ⟨x, rfl, rfl, rfl⟩ := hburn ha
    rw [if_pos ha, if_pos ha]
    rfl
  · obtain ⟨rfl, rfl⟩ := hidle (by simpa using ha)
    have hp : (s.acct.period.map fun p => { p with burn := p.burn + 0 }) = s.acct.period := by
      cases s.acct.period <;> rfl
    rw [if_neg ha, if_neg ha, hp]
    rfl

theorem exists_partialCredit (s : State) : ∃ credit residue, partialCredit s credit residue := by
  cases ha : s.sup.rr.active with
  | false => exact ⟨0, s.acct.residue, by simp [partialCredit, ha]⟩
  | true => exact ⟨_, _, by simp [ha], fun _ => ⟨_, rfl, rfl, rfl⟩⟩

/-- A period that ends without a publication is logged as SKIPPED, with the burn up to now (R112, R114). -/
theorem skipPeriod_eq {s : State} {reason : SkipReason} {p : Period} {credit residue : Nat} (hp : s.acct.period = some p)
    (h : partialCredit s credit residue) :
    skipPeriod reason s =
      (s.setSup { s.sup with rr := { s.sup.rr with
          start := if s.sup.rr.active then s.tenths else s.sup.rr.start } }).setAcct
        { s.acct with
          residue := residue, accum := s.acct.accum + credit, period := none
          periods := logAppend 4 s.acct.periods
            { start := p.start, stop := s.sec, startV15 := p.startV15, endV15 := none, burn := p.burn + credit,
              drop := none, discrepancy := none, outcome := .skipped, skip := some reason } } := by
  unfold skipPeriod
  simp only [hp, takePartialBurn_eq h, State.setAcct_acct, Option.map_some]
  rfl

theorem skipPeriod_none {s : State} {reason : SkipReason} (hp : s.acct.period = none) : skipPeriod reason s = s := by
  simp [skipPeriod, hp]

theorem endDelivery_frame (reason : CloseReason) (s : State) :
    endDelivery reason s = s.setAcct { s.acct with deliveries := (endDelivery reason s).acct.deliveries } := by
  unfold endDelivery
  split <;> rfl

theorem endDelivery_closed {s : State} (reason : CloseReason) (h : deliveryOpen s = false) : endDelivery reason s = s := by
  simp [endDelivery, h]

theorem endDelivery_open {s : State} {older : List DeliveryRecord} {d : DeliveryRecord} (reason : CloseReason)
    (hd : s.acct.deliveries = older ++ [d]) (hr : d.reason = none) :
    (endDelivery reason s).acct.deliveries = older ++ [closeDelivery reason s.acct.lastH0 d] := by
  have hopen : deliveryOpen s = true := by simp [deliveryOpen, hd, hr]
  have hlast : (older ++ [d]).length - 1 = older.length := by simp
  simp only [endDelivery, hopen, if_true, modDelivery, State.setAcct_acct, hd, hlast]
  simp [List.modify_eq_take_drop]

/-- After its end no delivery record is open. -/
theorem deliveryOpen_endDelivery (reason : CloseReason) (s : State) : deliveryOpen (endDelivery reason s) = false := by
  cases h : deliveryOpen s with
  | false => rw [endDelivery_closed reason h, h]
  | true =>
    obtain ⟨d, hd, hr⟩ : ∃ d, s.acct.deliveries.getLast? = some d ∧ d.reason = none := by
      simpa [deliveryOpen, Option.any_eq_true] using h
    obtain ⟨older, hl⟩ := List.getLast?_eq_some_iff.mp hd
    simp [deliveryOpen, endDelivery_open reason hl hr, closeDelivery]

end Sys2Proof.Machine
end

section
/-! The writes of RESERVE_SETBACK, the notice mask, the scaling and the filter shape (R9, R72, R76, R176). -/

namespace Sys2Proof.Machine

/-! ### RESERVE_SETBACK (R9) -/

/-- What a write of RESERVE_SETBACK makes of a state, before it is answered. -/
def withSetback (taken : Nat) (s : State) : State :=
  evaluateAll (rerunParts (fun _ => true) (s.setZone { s.zone with setback := taken }))

theorem writeItem_setback {v : Nat} (hv : v < 256) (s : State) :
    writeItem .zone 8 (beBytes 1 v) s = some (decide (clampNat 0 100 v ≠ v), withSetback (clampNat 0 100 v) s) := by
  have hset : writeItem .zone 8 (beBytes 1 v) s = writeSetback (beBytes 1 v) s := rfl
  rw [hset, writeSetback, writeNum_beBytes (by simpa using hv)]
  rfl

theorem withSetback_writes (taken : Nat) (s : State) : Writes s (withSetback taken s) :=
  ((setZone_dispatch s _).writes.trans (rerunParts_writes _ _)).trans (evaluateZones_dispatch _ _).writes

theorem setback_taken {q : Req} {v taken : Nat} {s : State} (hm : MayWrite s q) (hv : v < 256)
    (hd : q.data = beBytes 1 v) (ht : taken = min 100 v) :
    answerOf .write 3 8 q s = takenAs v taken ∧ ∃ t, exec (.reserveSetbackWrite q) s = .next t ∧
      t.zone = { s.zone with setback := taken, states := t.zone.states, wanting := t.zone.wanting } ∧
      PartsRerun (fun _ => True) s t ∧
      (∀ z, z < s.zone.table.length → z < s.zone.states.length → t.zone.states[z]? = some (zoneStateOf t z)) ∧
      TableFrame s t ∧ KeepsNodes s t ∧ PortsOffered s t := by
  have hclamp : clampNat 0 100 v = taken := by rw [clampNat_eq (by omega), ht, Nat.zero_max]
  have hw : writeItem .zone (8 : Byte).toNat q.data s = some (decide (taken ≠ v), withSetback taken s) := by
    rw [hd, ← hclamp]; exact writeItem_setback hv s
  obtain ⟨hanswer, hexec⟩ := write_taken (o := .zone) (obj := 3) (idx := 8) hm rfl (by decide) rfl hw
  rw [writeReply_decide] at hanswer
  refine ⟨hanswer, _, hexec, ?_⟩
  set reran := rerunParts (fun _ => true) (s.setZone { s.zone with setback := taken }) with hreran
  set t := finish (respond q.room q.src 2 3 8 (writeReply (decide (taken ≠ v))) (withSetback taken s))
  have hfin : Finishes (withSetback taken s) t := (respond_offers ..).finishes.trans (finish_finishes _)
  have hall := (withSetback_writes taken s).trans hfin.writes
  have hzone : t.zone = (evaluated (allZones reran) reran).zone := hfin.zone.trans (evaluateZones_zone _ _)
  have hrelay : t.relay = reran.relay := hfin.relay.trans (evaluateZones_dispatch _ _).relay
  refine ⟨by rw [hzone]; rfl, ?_, fun z hz hl => ?_, hall.table, hall.nodes, hall.ports⟩
  · exact partsRerun_of (s' := s.setZone { s.zone with setback := taken }) (which := fun _ => true) (fun _ => by simp) rfl
      rfl (by rw [hrelay]) (by rw [hzone]; rfl) (by rw [hzone]; rfl) (by rw [hall.table.acct]; rfl)
  · exact state_of_evaluated hzone hrelay (List.mem_range.mpr hz) hl

/-! ### The notice mask (R176) -/

theorem mask_taken {q : Req} {mask : Word16} {s : State} (hs : Settled s) (hm : MayWrite s q)
    (hd : q.data = beBytes 2 mask.toNat) :
    answerOf .write 25 1 q s = .bare (if mask.getLsbD 15 then .clamped else .ok) ∧
      ∃ t, exec (.noticeMaskWrite q) s = .next t ∧
      t.mgmt = { s.mgmt with mask := mask &&& 0x7FFF, line := t.mgmt.line, repeatFrom := t.mgmt.repeatFrom } ∧
      (t.mgmt.line = true ↔ pendingSet s &&& mask &&& 0x7FFF ≠ 0) ∧ KeepsClock s t ∧ KeepsHeat s t ∧ KeepsOil s t ∧
      t.sched = s.sched ∧ t.nv = s.nv ∧ PortsOffered s t := by
  set masked := s.setMgmt { s.mgmt with mask := mask &&& allKinds }
  have hval : BitVec.ofNat 16 (ofBytes q.data) = mask := by
    rw [hd, ofBytes_beBytes mask.isLt, BitVec.ofNat_toNat, BitVec.setWidth_eq]
  have hw : writeItem .notice (1 : Byte).toNat q.data s = some (mask.getLsbD 15, settleNotices masked) := by
    have hlen : q.data.length = 2 := by rw [hd, length_beBytes]
    have hnotice : writeItem .notice (1 : Byte).toNat q.data s = writeMask q.data s := rfl
    rw [hnotice, writeMask, if_pos hlen, hval]
  obtain ⟨hanswer, hexec⟩ := write_taken (o := .notice) (obj := 25) (idx := 1) hm rfl (by decide) rfl hw
  refine ⟨hanswer, _, hexec, ?_⟩
  set answered := respond q.room q.src 2 25 1 (writeReply (mask.getLsbD 15)) (settleNotices masked)
  have hsettle := settleNotices_reports masked
  have hoffer : Offers (settleNotices masked) answered := respond_offers ..
  have hquiet : answered.sched.wake = false := by rw [hoffer.sched, hsettle.sched]; exact hs.quiet
  have h : Reports masked (finish answered) := (hsettle.trans hoffer.reports).trans (reports_of_quiet hquiet)
  obtain ⟨line, timer, hmgmt⟩ := h.mgmt
  have henabled : enabledSet (finish answered) = pendingSet s &&& mask &&& 0x7FFF := by
    rw [h.enabledSet, BitVec.and_assoc]; rfl
  exact ⟨by rw [hmgmt]; rfl, henabled ▸ (finish_settled answered).notices, ⟨h.now, h.pending, h.freeIdx⟩,
    ⟨h.relay, h.zone, h.sup, h.recov⟩, ⟨h.level, h.vol, h.acct⟩, h.sched, h.nv, ⟨h.portH, h.portY, h.portP⟩⟩

/-! ### The scaling (R72, R99, R112, R118) -/

/-- With no period open a break of the accounts truncates the delivery and forgets the last H0 (R118). -/
theorem acctBreak_noPeriod {s : State} (reason : SkipReason) (hp : s.acct.period = none) :
    acctBreak reason s =
      s.setAcct { s.acct with deliveries := (endDelivery .truncated s).acct.deliveries, lastH0 := none } := by
  have hnone : (endDelivery .truncated s).acct.period = none := by rw [endDelivery_frame]; exact hp
  rw [acctBreak, skipPeriod_none hnone, endDelivery_frame]
  rfl

/-- With a period open it is logged as SKIPPED as well, its burn split (R112). -/
theorem acctBreak_period {s : State} {reason : SkipReason} {p : Period} {credit residue : Nat}
    (hp : s.acct.period = some p) (h : partialCredit s credit residue) :
    acctBreak reason s =
      (s.setSup { s.sup with rr := { s.sup.rr with
          start := if s.sup.rr.active then s.tenths else s.sup.rr.start } }).setAcct
        { s.acct with
          residue := residue, accum := s.acct.accum + credit, period := none
          periods := logAppend 4 s.acct.periods
            { start := p.start, stop := s.sec, startV15 := p.startV15, endV15 := none, burn := p.burn + credit,
              drop := none, discrepancy := none, outcome := .skipped, skip := some reason }
          deliveries := (endDelivery .truncated s).acct.deliveries, lastH0 := none } := by
  have hframe := endDelivery_frame .truncated s
  have hsome : (endDelivery .truncated s).acct.period = some p := by rw [hframe]; exact hp
  have hcredit : partialCredit (endDelivery .truncated s) credit residue := by rw [hframe]; exact h
  rw [acctBreak, skipPeriod_eq hsome hcredit, hframe]
  rfl

/-- The state that a scaling change hands to the accounting unit: the filter restarted, the chain cleared (R72, R99). -/
def rescaled (set : LevelSet) (s : State) : State :=
  (s.setLevel { s.level with set := set, box := {}, prev := none, ref := none, spikeRun := 0 }).setVol
    { s.vol with chain := [] }

theorem scalingChange_eq (set : LevelSet) (s : State) : scalingChange set s = acctBreak .scaling (rescaled set s) := rfl

theorem endDelivery_congr {s t : State} (h : t.acct = s.acct) (reason : CloseReason) :
    (endDelivery reason t).acct.deliveries = (endDelivery reason s).acct.deliveries := by
  have hopen : deliveryOpen t = deliveryOpen s := by rw [deliveryOpen, deliveryOpen, h]
  cases hd : deliveryOpen s <;> simp [endDelivery, modDelivery, hopen, hd, h]

/-- A scaling change, in whole: the blocks it changes, and the parts of them it keeps. -/
theorem scalingChange_frame (set : LevelSet) (s : State) :
    scalingChange set s =
        ((rescaled set s).setSup { s.sup with rr := (scalingChange set s).sup.rr }).setAcct (scalingChange set s).acct ∧
      (scalingChange set s).acct =
        { (scalingChange set s).acct with
          set := s.acct.set, tank := s.acct.tank, period := none, leak := s.acct.leak
          deliveries := (endDelivery .truncated s).acct.deliveries, lastH0 := none } := by
  have hdel : (endDelivery .truncated (rescaled set s)).acct.deliveries = (endDelivery .truncated s).acct.deliveries :=
    endDelivery_congr (s := s) (t := rescaled set s) rfl _
  rw [scalingChange_eq]
  cases hp : (rescaled set s).acct.period with
  | none =>
    rw [acctBreak_noPeriod _ hp, hdel]
    have hs : s.acct.period = none := hp
    exact ⟨rfl, by simp [hs, rescaled]⟩
  | some p =>
    obtain ⟨credit, residue, hc⟩ := exists_partialCredit (rescaled set s)
    rw [acctBreak_period hp hc, hdel]
    exact ⟨rfl, rfl⟩

/-- What a write of a scaling setting asks of its owner: the setting's own range and field (R72). -/
theorem writeItem_scaling {item : ScalingItem} {idx : Byte} {v taken : Nat} {set : LevelSet} {q : Req} {s : State}
    (h : (item = .sense ∧ idx = 0 ∧ v < 2 ∧ q.data = beBytes 1 v ∧ taken = v ∧
        set = { s.level.set with sense := if v = 0 then .head else .ullage }) ∨
      (item = .zero ∧ idx = 1 ∧ v < 65536 ∧ q.data = beBytes 2 v ∧ taken = v ∧
        set = { s.level.set with zero := taken }) ∨
      (item = .gain ∧ idx = 2 ∧ v < 65536 ∧ q.data = beBytes 2 v ∧ taken = max 1 v ∧
        set = { s.level.set with gain := taken }) ∨
      (item = .tankHeight ∧ idx = 3 ∧ v < 65536 ∧ q.data = beBytes 2 v ∧ taken = max 1 v ∧
        set = { s.level.set with tankHeight := taken })) :
    idx = scalingIndex item ∧
      writeItem .tankSet idx.toNat q.data s = some (decide (taken ≠ v), applyScaling set s) := by
  have clamped (i : Byte) (lo : Nat) (k : Nat → State) (hv : v < 65536) (hd : q.data = beBytes 2 v)
      (hi : writeItem .tankSet i.toNat q.data s = writeNum 2 lo 65535 q.data k) (hlo : lo ≤ 65535)
      (ht : taken = max lo v) : writeItem .tankSet i.toNat q.data s = some (decide (taken ≠ v), k taken) := by
    have hc : clampNat lo 65535 v = taken := by rw [clampNat_eq hlo, ht]; omega
    rw [hi, hd, writeNum_beBytes (by simpa using hv), hc]
  rcases h with ⟨rfl, rfl, hv, hd, rfl, rfl⟩ | ⟨rfl, rfl, hv, hd, ht, rfl⟩ | ⟨rfl, rfl, hv, hd, ht, rfl⟩ |
    ⟨rfl, rfl, hv, hd, ht, rfl⟩
  · refine ⟨rfl, ?_⟩
    obtain rfl | rfl : taken = 0 ∨ taken = 1 := by omega
    · rw [hd]; rfl
    · rw [hd]; rfl
  · exact ⟨rfl, clamped 1 0 (fun v => applyScaling { s.level.set with zero := v } s) hv hd rfl (by omega) (by omega)⟩
  · exact ⟨rfl, clamped 2 1 (fun v => applyScaling { s.level.set with gain := v } s) hv hd rfl (by omega) ht⟩
  · exact ⟨rfl, clamped 3 1 (fun v => applyScaling { s.level.set with tankHeight := v } s) hv hd rfl (by omega) ht⟩

/-- A write of a setting of the level filter does nothing more than to answer and to make the state it makes. -/
theorem tankSet_answers {c : Instr} {q : Req} {idx : Byte} {v taken : Nat} {s s' : State} (hm : MayWrite s q)
    (hi : idx.toNat ≤ 15) (hc : exec c s = requested .write 10 idx q s)
    (hw : writeItem .tankSet idx.toNat q.data s = some (decide (taken ≠ v), s')) (hs : Settled s') :
    answerOf .write 10 idx q s = takenAs v taken ∧ Answers c 2 10 idx q (takenAs v taken) s s' := by
  have hset : (Obj.isCounter .tankSet idx.toNat || Obj.isSetting .tankSet idx.toNat) = true := rfl
  rw [← writeReply_decide]
  exact ⟨(write_taken (o := .tankSet) hm rfl hi hset hw).1, write_answers (o := .tankSet) hm rfl hi hset hc hw hs⟩

/-- A scaling change owes no arbitration and moves no notice. -/
theorem scalingChange_settled {set : LevelSet} {s : State} (hs : Settled s) : Settled (scalingChange set s) := by
  obtain ⟨hframe, hacct⟩ := scalingChange_frame set s
  have htank : (scalingChange set s).acct.tank = s.acct.tank := (congrArg Accounting.tank hacct :)
  rw [hframe]
  exact hs.congr rfl (enabledSet_congr rfl rfl rfl rfl rfl htank rfl rfl rfl rfl) rfl rfl

theorem restartFilter_settled {set : LevelSet} {s : State} (hs : Settled s) :
    Settled { s with level := { s.level with set := set, box := {}, prev := none, ref := none, spikeRun := 0 } } :=
  hs.congr rfl (enabledSet_congr rfl rfl rfl rfl rfl rfl rfl rfl rfl rfl) rfl rfl

/-- A write of WINDOW_N or ORDER at its owner (R76). -/
theorem writeItem_shape {item : ShapeItem} {idx : Byte} {v taken : Nat} {set : LevelSet} {q : Req} {s : State}
    (hv : v < 256) (hd : q.data = beBytes 1 v)
    (h : (item = .windowN ∧ idx = 5 ∧ set = { s.level.set with windowN := taken } ∧
        taken = if 32 ≤ v then 32 else if 16 ≤ v then 16 else if 8 ≤ v then 8 else 4) ∨
      (item = .order ∧ idx = 6 ∧ set = { s.level.set with order := taken } ∧ taken = min 2 (max 1 v))) :
    idx = shapeIndex item ∧
      writeItem .tankSet idx.toNat q.data s = some (decide (taken ≠ v), applyShape set s) := by
  rcases h with ⟨rfl, rfl, rfl, ht⟩ | ⟨rfl, rfl, rfl, ht⟩
  · have hw : writeItem .tankSet (5 : Byte).toNat [BitVec.ofNat 8 v] s =
        some (decide (clampWindow (BitVec.ofNat 8 v).toNat ≠ (BitVec.ofNat 8 v).toNat),
          applyShape { s.level.set with windowN := clampWindow (BitVec.ofNat 8 v).toNat } s) := rfl
    have hc : clampWindow v = taken := by rw [ht, clampWindow]
    rw [hd, beBytes_one, hw, toNat_ofNat_byte hv, hc]
    exact ⟨rfl, rfl⟩
  · have hw : writeItem .tankSet (6 : Byte).toNat q.data s =
        writeNum 1 1 2 q.data fun v => applyShape { s.level.set with order := v } s := rfl
    have hc : clampNat 1 2 v = taken := by rw [clampNat_eq (by omega), ht]
    rw [hw, hd, writeNum_beBytes (by simpa using hv), hc]
    exact ⟨rfl, rfl⟩

/-- Settles O53: each write is what its owner makes of the state, answered; the scaling change by `scalingChange_frame`. -/
theorem zoneMaskAndLevelSettings : Obligations.ZoneMaskAndLevelSettings := by
  intro q v s hs hm
  refine ⟨fun taken hv hd ht => setback_taken hm hv hd ht, fun mask hd => mask_taken hs hm hd,
    fun item idx taken set h => ?_, fun item idx taken set hv hd h => ?_⟩
  · obtain ⟨hidx, hw⟩ := writeItem_scaling h
    have hc : exec (.scalingWrite item q) s = requested .write 10 idx q s := by rw [hidx]; rfl
    have hi : idx.toNat ≤ 15 := by rw [hidx]; cases item <;> decide
    constructor
    · intro hsame
      rw [applyScaling, if_pos hsame] at hw
      exact (tankSet_answers hm hi hc hw hs).2
    · intro hne
      rw [applyScaling, if_neg hne] at hw
      obtain ⟨hanswer, hexec⟩ := tankSet_answers hm hi hc hw (scalingChange_settled hs)
      refine ⟨hanswer, _, hexec, ?_⟩
      obtain ⟨hframe, hacct⟩ := scalingChange_frame set s
      set u := scalingChange set s
      have ho : Offers u (respond q.room q.src 2 10 idx (takenAs v taken) u) := respond_offers ..
      set t := respond q.room q.src 2 10 idx (takenAs v taken) u
      have hsup : t.sup = { s.sup with rr := t.sup.rr } := by rw [ho.sup]; exact (congrArg State.sup hframe :)
      have hdeliveries : t.acct.deliveries = (endDelivery .truncated s).acct.deliveries := by
        rw [ho.acct]; exact (congrArg Accounting.deliveries hacct :)
      refine ⟨?_, ?_, ?_, ?_, ?_, ?_, ?_, ?_, ?_, ?_, ?_, ?_, hsup, ?_, ?_, ?_, ?_, ?_, ?_, ?_, ?_⟩
      · rw [ho.level]; exact (congrArg State.level hframe :)
      · rw [ho.vol]; exact (congrArg State.vol hframe :)
      · rw [ho.acct]; exact (congrArg Accounting.period hacct :)
      · rw [ho.acct]; exact (congrArg Accounting.lastH0 hacct :)
      · rw [deliveryOpen, hdeliveries]; exact deliveryOpen_endDelivery _ s
      · intro hclosed
        rw [hdeliveries, endDelivery_closed _ hclosed]
      · intro older d hd hr
        rw [hdeliveries, endDelivery_open _ hd hr]
        rfl
      · intro hp
        have hu : u = acctBreak .scaling (rescaled set s) := rfl
        rw [ho.acct, ho.sup, hu, acctBreak_noPeriod .scaling (s := rescaled set s) hp]
        exact ⟨rfl, rfl, rfl⟩
      · intro p credit residue hp hcredit
        have hu : u = acctBreak .scaling (rescaled set s) := rfl
        rw [ho.acct, ho.sup, hu, acctBreak_period (s := rescaled set s) hp hcredit]
        exact ⟨rfl, rfl, rfl, rfl⟩
      · rw [ho.acct]; exact (congrArg Accounting.leak hacct :)
      · rw [ho.acct]; exact (congrArg Accounting.tank hacct :)
      · rw [ho.acct]; exact (congrArg Accounting.set hacct :)
      · rw [KeepsClock, ho.now, ho.pending, ho.freeIdx, hframe]; exact ⟨rfl, rfl, rfl⟩
      · rw [ho.relay, hframe]; rfl
      · rw [ho.zone, hframe]; rfl
      · rw [ho.recov, hframe]; rfl
      · rw [ho.sched, hframe]; rfl
      · rw [ho.mgmt, hframe]; rfl
      · rw [ho.nv, hframe]; rfl
      · have hports : PortsOffered s u := by rw [hframe]; exact .refl s
        exact hports.trans ⟨ho.portH, ho.portY, ho.portP⟩
  · obtain ⟨hidx, hw⟩ := writeItem_shape hv hd h
    have hc : exec (.filterShapeWrite item q) s = requested .write 10 idx q s := by rw [hidx]; rfl
    have hi : idx.toNat ≤ 15 := by rw [hidx]; cases item <;> decide
    constructor
    · intro hsame
      rw [applyShape, if_pos hsame] at hw
      exact (tankSet_answers hm hi hc hw hs).2
    · intro hne
      rw [applyShape, if_neg hne] at hw
      exact (tankSet_answers hm hi hc hw (restartFilter_settled hs)).2

end Sys2Proof.Machine
end

section
/-! SUPPORT. The node table as a write of the enrolment map or of a zone changes it, and those two writes (R1, R2, R19, R20,
R30). -/

namespace Sys2Proof.Machine

/-! ### The node entry of an address -/

theorem nodeOf_eq (s : State) (addr : Nat) :
    nodeOf s addr = s.relay.nodes.findSome? (Option.filter fun e => decide (e.addr = addr)) :=
  findSlot_bind_slotGet _ _

theorem nodeOf_congr {s t : State} (h : t.relay.nodes = s.relay.nodes) (addr : Nat) : nodeOf t addr = nodeOf s addr := by
  rw [nodeOf_eq, nodeOf_eq, h]

theorem nodeOf_addr {s : State} {addr : Nat} {n : NodeEntry} (h : nodeOf s addr = some n) : n.addr = addr := by
  rw [nodeOf_eq] at h
  obtain ⟨o, -, ho⟩ := List.exists_of_findSome?_eq_some h
  simpa using (Option.filter_eq_some_iff.mp ho).2

/-- A change of node entries that keeps their addresses changes the entry that an address has. -/
theorem nodeOf_mapNodes {g : NodeEntry → NodeEntry} (h : ∀ e, (g e).addr = e.addr) (s : State) (addr : Nat) :
    nodeOf (mapNodes g s) addr = (nodeOf s addr).map g := by
  rw [nodeOf_eq, nodeOf_eq]
  exact findSome?_filter_map (fun e => by rw [h]) _

/-- A change of the entries of one address. -/
theorem nodeOf_mapNodes_addr {a : Nat} {g : NodeEntry → NodeEntry} (h : ∀ e, (g e).addr = e.addr) (s : State) (addr : Nat) :
    nodeOf (mapNodes (fun e => if e.addr = a then g e else e) s) addr =
      if addr = a then (nodeOf s addr).map g else nodeOf s addr := by
  rw [nodeOf_mapNodes (fun e => by split; exacts [h e, rfl])]
  cases hn : nodeOf s addr with
  | none => simp
  | some n => by_cases ha : addr = a <;> simp [nodeOf_addr hn, ha]

theorem nodeOf_deletePart (a : Nat) (s : State) (addr : Nat) :
    nodeOf (deletePart a s) addr =
      if addr = a then (nodeOf s addr).map fun e => { e with part := none } else nodeOf s addr :=
  nodeOf_mapNodes_addr (g := fun e => { e with part := none }) (fun _ => rfl) s addr

theorem nodeOf_evaluateZones (zs : List Nat) (s : State) (addr : Nat) :
    nodeOf (evaluateZones zs s) addr = nodeOf s addr :=
  nodeOf_congr (by rw [(evaluateZones_dispatch zs s).relay]) addr

/-! ### The enrolment map (R1, R19) -/

/-- The entry put in a slot is found when no other slot has its like. -/
theorem findSome?_filter_set_only {α : Type} {f : α → Bool} {a : α} {xs : List (Option α)} {i : Nat} (hi : i < xs.length)
    (ha : f a = true) (h : ∀ j b, j ≠ i → slotGet xs j = some b → f b = false) :
    (xs.set i (some a)).findSome? (Option.filter f) = some a := by
  induction xs generalizing i with
  | nil => simp at hi
  | cons o xs ih =>
    cases i with
    | zero => simp [Option.filter, ha]
    | succ i =>
      have ho : Option.filter f o = none := by
        cases o with
        | none => rfl
        | some b => simp [Option.filter, h 0 b (by simp) rfl]
      have hrest := ih (i := i) (by simpa using hi) fun j b hj hb => h (j + 1) b (by simpa using hj) hb
      simp [ho, hrest]

theorem unitZone_of_enrol {s : State} {addr z : Nat} (h : enrolOf s addr = some ⟨addr, .roomUnit z⟩) :
    unitZone s addr = some z := by
  rw [unitZone, h]

theorem deletePart_writes (addr : Nat) (s : State) : Writes s (deletePart addr s) :=
  mapNodes_writes (fun n => by split <;> rfl) s

theorem rerunAddr_writes (addr : Nat) (s : State) : Writes s (rerunAddr addr s) :=
  mapNodes_writes (fun n => by split; exacts [rerunNode_keeps s n, rfl]) s

/-- The state on which a change of the enrolment evaluates the zones: the map written, and the demand part of a room unit that
left its zone deleted or evaluated again (R19). -/
def reEnrolled (idx : Nat) (old new : Option Enrolment) (s : State) : State :=
  let s := setEnrol (s.zone.enrol.set idx new) s
  match old with
  | none => s
  | some e =>
    if e.zone?.isNone then s
    else if (new.bind Enrolment.zone?).isNone then deletePart e.addr s
    else rerunAddr e.addr s

theorem changeEnrol_same {idx : Nat} {old new : Option Enrolment}
    (h : old.bind Enrolment.zone? = new.bind Enrolment.zone?) (s : State) :
    changeEnrol idx old new s = setEnrol (s.zone.enrol.set idx new) s := by
  simp [changeEnrol, h]

theorem changeEnrol_zones {idx : Nat} {old new : Option Enrolment}
    (h : old.bind Enrolment.zone? ≠ new.bind Enrolment.zone?) (s : State) :
    changeEnrol idx old new s =
      evaluateZones ((old.bind Enrolment.zone?).toList ++ (new.bind Enrolment.zone?).toList) (reEnrolled idx old new s) := by
  cases old <;> exact if_neg h

theorem setEnrol_writes (m : List (Option Enrolment)) (s : State) : Writes s (setEnrol m s) := (setZone_dispatch s _).writes

theorem reEnrolled_writes (idx : Nat) (old new : Option Enrolment) (s : State) : Writes s (reEnrolled idx old new s) := by
  have h := setEnrol_writes (s.zone.enrol.set idx new) s
  unfold reEnrolled
  cases old with
  | none => exact h
  | some e =>
    dsimp only
    split
    · exact h
    · split
      · exact h.trans (deletePart_writes _ _)
      · exact h.trans (rerunAddr_writes _ _)

theorem reEnrolled_zone (idx : Nat) (old new : Option Enrolment) (s : State) :
    (reEnrolled idx old new s).zone = { s.zone with enrol := s.zone.enrol.set idx new } := by
  unfold reEnrolled
  cases old with
  | none => rfl
  | some e =>
    dsimp only
    split
    · rfl
    · split <;> rfl

theorem changeEnrol_writes (idx : Nat) (old new : Option Enrolment) (s : State) : Writes s (changeEnrol idx old new s) := by
  by_cases h : old.bind Enrolment.zone? = new.bind Enrolment.zone?
  · rw [changeEnrol_same h]; exact setEnrol_writes _ s
  · rw [changeEnrol_zones h]; exact (reEnrolled_writes ..).trans (evaluateZones_dispatch _ _).writes

/-- A change of the enrolment writes its slot, and of the zone unit only the states and the wanting-heat set may follow. -/
theorem changeEnrol_zone (idx : Nat) (old new : Option Enrolment) (s : State) :
    (changeEnrol idx old new s).zone.enrol = s.zone.enrol.set idx new ∧
      (changeEnrol idx old new s).zone.table = s.zone.table := by
  by_cases h : old.bind Enrolment.zone? = new.bind Enrolment.zone?
  · rw [changeEnrol_same h]; exact ⟨rfl, rfl⟩
  · have hz := evaluateZones_zone ((old.bind Enrolment.zone?).toList ++ (new.bind Enrolment.zone?).toList)
      (reEnrolled idx old new s)
    rw [changeEnrol_zones h, hz]
    exact ⟨(congrArg ZoneUnit.enrol (reEnrolled_zone idx old new s) :), (congrArg ZoneUnit.table (reEnrolled_zone idx old new s) :)⟩

/-- An enrolment write is one change, or, for another address, a removal and a new entry (R19). -/
theorem applyEnrol_cases (idx : Nat) (new : Option Enrolment) (s : State) :
    applyEnrol idx new s = changeEnrol idx (slotGet s.zone.enrol idx) new s ∨
      applyEnrol idx new s = changeEnrol idx none new (changeEnrol idx (slotGet s.zone.enrol idx) none s) := by
  unfold applyEnrol
  dsimp only
  split
  · next o n h1 h2 =>
    split
    · exact .inl rfl
    · exact .inr rfl
  · exact .inl rfl

theorem applyEnrol_writes (idx : Nat) (new : Option Enrolment) (s : State) : Writes s (applyEnrol idx new s) := by
  rcases applyEnrol_cases idx new s with h | h
  · rw [h]; exact changeEnrol_writes ..
  · rw [h]; exact (changeEnrol_writes ..).trans (changeEnrol_writes ..)

theorem applyEnrol_zone (idx : Nat) (new : Option Enrolment) (s : State) :
    (applyEnrol idx new s).zone.enrol = s.zone.enrol.set idx new ∧
      (applyEnrol idx new s).zone.table = s.zone.table := by
  rcases applyEnrol_cases idx new s with h | h
  · rw [h]; exact changeEnrol_zone ..
  · obtain ⟨he, ht⟩ := changeEnrol_zone idx (slotGet s.zone.enrol idx) none s
    obtain ⟨he', ht'⟩ := changeEnrol_zone idx none new (changeEnrol idx (slotGet s.zone.enrol idx) none s)
    rw [h, he', ht', he, ht, List.set_set]
    exact ⟨rfl, rfl⟩

/-- An enrolment write, answered: what the command leaves of it. -/
theorem enrol_taken {q : Req} {idx : Byte} {slot : Nat} {new : Option Enrolment} {clamped : Bool} {s : State}
    (hm : MayWrite s q) (hslot : slot = idx.toNat) (h16 : slot < 16)
    (hw : writeEnrol slot q.data s = some (clamped, applyEnrol slot new s)) :
    answerOf .write 2 idx q s = writeReply clamped ∧ ∃ t, exec (.enrolWrite idx q) s = .next t ∧
      Finishes (applyEnrol slot new s) t ∧ t.zone.enrol = s.zone.enrol.set slot new ∧ t.zone.table = s.zone.table ∧
      TableFrame s t ∧ KeepsNodes s t ∧ PortsOffered s t := by
  subst hslot
  obtain ⟨hanswer, hexec⟩ := write_taken (o := .enrol) (obj := 2) (idx := idx) hm rfl (Nat.le_of_lt_succ h16) rfl hw
  refine ⟨hanswer, _, hexec, ?_⟩
  set t := finish (respond q.room q.src 2 2 idx (writeReply clamped) (applyEnrol idx.toNat new s))
  have hfin : Finishes (applyEnrol idx.toNat new s) t := (respond_offers ..).finishes.trans (finish_finishes _)
  have hall := (applyEnrol_writes idx.toNat new s).trans hfin.writes
  obtain ⟨he, ht⟩ := applyEnrol_zone idx.toNat new s
  exact ⟨hfin, by rw [hfin.zone, he], by rw [hfin.zone, ht], hall.table, hall.nodes, hall.ports⟩

/-- A room unit removed from the map loses its demand part (R19, R147). -/
theorem nodeOf_removed {idx z : Nat} {e : Enrolment} {n : NodeEntry} {s : State} (hr : e.role = .roomUnit z)
    (hn : nodeOf (changeEnrol idx (some e) none s) e.addr = some n) : n.part = none := by
  have hz : e.zone? = some z := by rw [Enrolment.zone?, hr]
  have hre : reEnrolled idx (some e) none s = deletePart e.addr (setEnrol (s.zone.enrol.set idx none) s) := by
    simp [reEnrolled, hz]
  rw [changeEnrol_zones (by simp [hz]), nodeOf_evaluateZones, hre,
    nodeOf_deletePart, if_pos rfl] at hn
  obtain ⟨m, -, rfl⟩ := Option.map_eq_some_iff.mp hn
  rfl

/-- A room unit moved to another zone has its demand part evaluated against that one (R9, R19). -/
theorem nodeOf_moved {idx addr z z' : Nat} {ze : ZoneEntry} {n : NodeEntry} {s : State} (hne : z ≠ z')
    (hfree : ∀ i e, i ≠ idx → slotGet s.zone.enrol i = some e → e.addr ≠ addr) (hlen : idx < s.zone.enrol.length)
    (hze : s.zone.table[z']? = some ze) (hn : nodeOf s addr = some n) :
    nodeOf (changeEnrol idx (some ⟨addr, .roomUnit z⟩) (some ⟨addr, .roomUnit z'⟩) s) addr =
      some { n with part := n.part.map (rerunPart s.acct.tank s.zone.setback ze) } := by
  set moved := setEnrol (s.zone.enrol.set idx (some ⟨addr, .roomUnit z'⟩)) s
  have hunit : unitZone moved addr = some z' :=
    unitZone_of_enrol (findSome?_filter_set_only hlen (by simp) fun j b hj hb => by simpa using hfree j b hj hb)
  have hre : reEnrolled idx (some ⟨addr, .roomUnit z⟩) (some ⟨addr, .roomUnit z'⟩) s = rerunAddr addr moved := rfl
  have hchange : (some ⟨addr, .roomUnit z⟩ : Option Enrolment).bind Enrolment.zone? ≠
      (some ⟨addr, .roomUnit z'⟩ : Option Enrolment).bind Enrolment.zone? := fun h => hne (Option.some.inj h)
  have haddr : n.addr = addr := nodeOf_addr hn
  rw [changeEnrol_zones hchange, nodeOf_evaluateZones, hre, rerunAddr,
    nodeOf_mapNodes_addr (rerunNode_addr moved), if_pos rfl, nodeOf_congr (t := moved) (s := s) rfl, hn, Option.map_some,
    rerunNode_eq (s := moved) (by rw [haddr, hunit]) hze]
  rfl

/-- A clamped enrolment: the address to 1 to 125, the zone of a ROOM_UNIT to 0 to 7 (R1, log 25). -/
theorem writeEnrol_eq {slot addr : Nat} {p a r zone : Byte} {role : Role} {s : State} (ha : addr = min 125 (max 1 a.toNat))
    (hr : (r = 0 ∧ p.getLsbD 0 = true ∧ role = .roomUnit (min 7 zone.toNat)) ∨
      (r = 1 ∧ p.getLsbD 0 = false ∧ role = .service) ∨ (r = 2 ∧ p.getLsbD 0 = false ∧ role = .display)) :
    writeEnrol slot [p, a, r, zone] s =
      if otherSlot (fun e => e.addr = addr) s.zone.enrol slot || inPollList s addr then none
      else some (!decide (addr = a.toNat ∧ (r = 0 → zone.toNat ≤ 7)), applyEnrol slot (some ⟨addr, role⟩) s) := by
  have hclamp : clampNat 1 125 a.toNat = addr := by rw [clampNat_eq (by omega), ha]
  have hzone : clampNat 0 7 zone.toNat = min 7 zone.toNat := by rw [clampNat_eq (by omega), Nat.zero_max]
  have hrole : readRole r (if p.getLsbD 0 then some (min 7 zone.toNat) else none) = some role := by
    rcases hr with ⟨rfl, hp, rfl⟩ | ⟨rfl, hp, rfl⟩ | ⟨rfl, hp, rfl⟩ <;> rw [hp] <;> rfl
  have hflag : (decide (addr ≠ a.toNat) || (p.getLsbD 0 && decide (min 7 zone.toNat ≠ zone.toNat))) =
      !decide (addr = a.toNat ∧ (r = 0 → zone.toNat ≤ 7)) := by
    have hle : min 7 zone.toNat = zone.toNat ↔ zone.toNat ≤ 7 := by omega
    have hbit : p.getLsbD 0 = decide (r = 0) := by
      rcases hr with ⟨rfl, hp, -⟩ | ⟨rfl, hp, -⟩ | ⟨rfl, hp, -⟩ <;> rw [hp] <;> rfl
    rw [hbit, Bool.eq_iff_iff]
    simp only [ne_eq, hle, Bool.or_eq_true, Bool.and_eq_true, decide_eq_true_eq, Bool.not_eq_true', decide_eq_false_iff_not]
    tauto
  unfold writeEnrol
  simp only [hclamp, hzone, hrole, hflag]

/-! ### The zone table (R2, R20, R30) -/

/-- The state on which a zone write evaluates its zone: the entry written, its units' demand parts evaluated again (R20). -/
def rezoned (z : Nat) (new : ZoneEntry) (s : State) : State :=
  rerunParts (fun i => i = z) (s.setZone { s.zone with table := s.zone.table.set z new })

/-- After the evaluation of its zone a zone write only steers (R20, R30). -/
theorem applyZone_steers {z : Nat} {old new : ZoneEntry} {s : State} (hz : s.zone.table[z]? = some old) :
    Steers (settleNotices (evaluated [z] (rezoned z new s))) (applyZone z new s) := by
  unfold applyZone
  rw [hz]
  dsimp -zeta only
  extract_lets wanted _ s1 s2 s3
  have h3 : Steers s2 s3 := by
    simp only [s3]
    split
    · exact .refl s2
    · exact takeValveNode_steers _ _ _ _
  split
  · exact h3.trans (takeWanting_steers _ _)
  · split
    · exact h3.trans (recompute_steers _)
    · exact h3

theorem applyZone_zone {z : Nat} {old new : ZoneEntry} {s : State} (hz : s.zone.table[z]? = some old) :
    (applyZone z new s).zone = (evaluated [z] (rezoned z new s)).zone :=
  (applyZone_steers hz).zone.trans (settleNotices_reports _).zone

theorem applyZone_relay {z : Nat} {old new : ZoneEntry} {s : State} (hz : s.zone.table[z]? = some old) :
    (applyZone z new s).relay = (rezoned z new s).relay :=
  (applyZone_steers hz).relay.trans (settleNotices_reports _).relay

theorem applyZone_writes {z : Nat} {old new : ZoneEntry} {s : State} (hz : s.zone.table[z]? = some old) :
    Writes s (applyZone z new s) :=
  ((((setZone_dispatch s _).writes.trans (rerunParts_writes _ _)).trans (setZone_dispatch _ _).writes).trans
    (settleNotices_reports _).finishes.writes).trans (applyZone_steers hz).dispatch.writes

theorem valveAt_ne_none {s : State} {a : Nat} : valveAt s a ≠ none ↔ (valveSlot s a).isSome = true := by
  unfold valveAt
  cases h : valveSlot s a with
  | none => simp
  | some i =>
    obtain ⟨e, he, hf⟩ := findSlot_isSome h
    obtain ⟨r, hr⟩ : ∃ r, e.role = .valve r := by
      cases hr : e.role with
      | gauge => simp [PollEntry.isGauge, hr] at hf
      | valve r => exact ⟨r, rfl⟩
    simp [he, PollEntry.valve?, hr]

theorem valveNodeFits_iff {z : Nat} {valve : Option Nat} {s : State} : valveNodeFits z valve s = true ↔
    ∀ a, valve = some a →
      valveAt s a ≠ none ∧ ∀ y ze, y ≠ z → s.zone.table[y]? = some ze → ze.valve ≠ some a := by
  cases valve with
  | none => simp [valveNodeFits]
  | some a =>
    simp only [valveNodeFits, Bool.and_eq_true, ← valveAt_ne_none, Bool.not_eq_true', List.any_eq_false, Prod.forall,
      mem_numbered, Option.some.injEq, forall_eq', decide_eq_true_eq, not_and, ne_eq]
    exact and_congr_right fun _ => forall_congr' fun y => forall_congr' fun ze => by tauto

theorem readClass_code (c : ZoneClass) : readClass c.code = some c := by cases c <;> rfl

theorem readMode_code (m : ZoneMode) : readMode m.code = some m := by cases m <;> rfl

/-- The fields of a zone write, and the entry that R2's ranges make of them. -/
theorem writeZone_eq {slot : Nat} {p lead frost diff duty valve : Byte} {cls : ZoneClass} {mode : ZoneMode} {sp ce : Nat}
    {given taken : ZoneEntry} {s : State} (hsp : sp < 65536) (hce : ce < 65536)
    (hgiven : given =
      { cls := cls, mode := mode, lead := if p.getLsbD 0 then some lead.toNat else none, setpoint := sp, ceiling := ce,
        frost := frost.toNat, diff := diff.toNat, duty := duty.toNat,
        valve := if p.getLsbD 1 then some valve.toNat else none })
    (htaken : taken =
      { cls := cls, mode := mode, lead := given.lead.map (fun a => min 125 (max 1 a)), setpoint := min 300 (max 50 sp),
        ceiling := min 300 (max 50 ce), frost := min 100 (max 30 frost.toNat), diff := min 30 (max 2 diff.toNat),
        duty := min 60 duty.toNat, valve := given.valve.map (fun a => min 125 (max 1 a)) }) :
    writeZone slot ([p, cls.code, mode.code, lead] ++ beBytes 2 sp ++ beBytes 2 ce ++ [frost, diff, duty, valve]) s =
      if valveNodeFits slot taken.valve s then some (decide (taken ≠ given), applyZone slot taken s) else none := by
  have addr : clampNat 1 125 = fun a => min 125 (max 1 a) := funext (clampNat_eq (by omega))
  have hduty : clampNat 0 60 duty.toNat = min 60 duty.toNat := by rw [clampNat_eq (by omega), Nat.zero_max]
  have hspb : ofBytes [BitVec.ofNat 8 (sp / 256), BitVec.ofNat 8 sp] = sp := by
    rw [← beBytes_two]; exact ofBytes_beBytes (by simpa using hsp)
  have hceb : ofBytes [BitVec.ofNat 8 (ce / 256), BitVec.ofNat 8 ce] = ce := by
    rw [← beBytes_two]; exact ofBytes_beBytes (by simpa using hce)
  subst hgiven htaken
  simp only [beBytes_two, List.cons_append, List.nil_append, writeZone, readClass_code, readMode_code, hspb, hceb, addr,
    clampNat_eq (show 50 ≤ 300 by omega), clampNat_eq (show 30 ≤ 100 by omega), clampNat_eq (show 2 ≤ 30 by omega), hduty]

/-- A zone write, answered: what the command leaves of it. -/
theorem zone_taken {q : Req} {idx : Byte} {slot : Nat} {old new : ZoneEntry} {clamped : Bool} {s : State}
    (hm : MayWrite s q) (hslot : slot = idx.toNat) (h8 : slot < 8) (hold : s.zone.table[slot]? = some old)
    (hw : writeZone slot q.data s = some (clamped, applyZone slot new s)) :
    answerOf .write 3 idx q s = writeReply clamped ∧ ∃ t, exec (.zoneWrite idx q) s = .next t ∧
      t.zone.table = s.zone.table.set slot new ∧ t.zone.enrol = s.zone.enrol ∧ PartsRerun (fun z => z = slot) s t ∧
      (slot < s.zone.states.length → t.zone.states[slot]? = some (zoneStateOf t slot)) ∧
      TableFrame s t ∧ KeepsNodes s t ∧ PortsOffered s t := by
  subst hslot
  have hzone : writeItem .zone idx.toNat q.data s = some (clamped, applyZone idx.toNat new s) := by
    have h : writeItem .zone idx.toNat q.data s =
        if idx.toNat = 8 then writeSetback q.data s else writeZone idx.toNat q.data s := rfl
    rw [h, if_neg (by omega), hw]
  obtain ⟨hanswer, hexec⟩ := write_taken (o := .zone) (obj := 3) (idx := idx) hm rfl (Nat.le_of_lt h8) rfl hzone
  refine ⟨hanswer, _, hexec, ?_⟩
  set t := finish (respond q.room q.src 2 3 idx (writeReply clamped) (applyZone idx.toNat new s))
  have hfin : Finishes (applyZone idx.toNat new s) t := (respond_offers ..).finishes.trans (finish_finishes _)
  have hall := (applyZone_writes (new := new) hold).trans hfin.writes
  have hz : t.zone = (evaluated [idx.toNat] (rezoned idx.toNat new s)).zone := hfin.zone.trans (applyZone_zone hold)
  have hr : t.relay = (rezoned idx.toNat new s).relay := hfin.relay.trans (applyZone_relay hold)
  refine ⟨by rw [hz]; rfl, by rw [hz]; rfl, ?_, fun hl => ?_, hall.table, hall.nodes, hall.ports⟩
  · exact partsRerun_of (s' := s.setZone { s.zone with table := s.zone.table.set idx.toNat new })
      (which := fun i => i = idx.toNat) (fun _ => by simp) rfl rfl (by rw [hr]; rfl) (by rw [hz]; rfl) (by rw [hz]; rfl)
      (by rw [hall.table.acct]; rfl)
  · exact state_of_evaluated hz hr (List.mem_singleton_self _) hl

end Sys2Proof.Machine
end

section
/-! SUPPORT. What a generated telegram takes while the pool is calm, and what an arbitration does to the exchange (R131, R138,
R139, R160, R161). -/

namespace Sys2Proof.Machine

/-! ### Buffers taken and returned away from the thresholds (R139) -/

theorem setFree_port (n : Nat) (port : Port) (s : State) : (setFree n s).port port = s.port port := by
  cases port <;> rfl

/-- A buffer taken without a threshold crossed. -/
theorem takeBuffer_calm {s : State} (h : s.pool.held = true ∨ holdThreshold + 1 < s.pool.free) :
    takeBuffer s = setFree (s.pool.free - 1) s := by
  have hcross : (!s.pool.held && decide (s.pool.free - 1 ≤ holdThreshold)) = false := by
    rcases h with h | h
    · simp [h]
    · have : ¬ s.pool.free - 1 ≤ holdThreshold := by omega
      simp [this]
  exact if_neg (ne_true_of_eq_false hcross)

/-- A buffer returned without a threshold crossed. -/
theorem returnBuffer_calm {s : State} (h : s.pool.held = false ∨ s.pool.free + 1 < openThreshold) :
    returnBuffer s = setFree (s.pool.free + 1) s := by
  have hcross : (s.pool.held && decide (openThreshold ≤ s.pool.free + 1)) = false := by
    rcases h with h | h
    · simp [h]
    · simp [Nat.not_le.mpr h]
  exact if_neg (ne_true_of_eq_false hcross)

theorem offerItem_pool (port : Port) (it : QItem) (s : State) : (offerItem port it s).1.pool = s.pool := by
  unfold offerItem
  dsimp only
  split
  · cases port <;> rfl
  · split <;> cases port <;> rfl

theorem generateRaw_pool (port : Port) (t : Telegram) (s : State) :
    (generateRaw port t s).pool.held = s.pool.held ∧ s.pool.free ≤ (generateRaw port t s).pool.free + 1 := by
  unfold generateRaw
  split
  · exact ⟨rfl, Nat.le_succ _⟩
  · have hp := offerItem_pool port { tel := t, mark := .plain } (setFree (s.pool.free - 1) s)
    split
    · next s' he =>
      rw [he] at hp
      dsimp only at hp
      rw [hp]
      exact ⟨rfl, by simp only [setFree, State.setPool_pool]; omega⟩
    · next s' he =>
      rw [he] at hp
      dsimp only at hp
      simp only [setFree, State.setPool_pool, hp]
      exact ⟨trivial, by omega⟩

/-- The pool that opens has sent two hold-offs at most. -/
theorem enterOpen_pool (s : State) : (enterOpen s).pool.held = false ∧ s.pool.free ≤ (enterOpen s).pool.free + 2 := by
  set opened := s.setPool { s.pool with held := false, repeatFrom := none }
  obtain ⟨hh, fh⟩ := generateRaw_pool .h (holdOffTel broadcast 0) opened
  obtain ⟨hy, fy⟩ := generateRaw_pool .y (holdOffTel broadcast 0) (generateRaw .h (holdOffTel broadcast 0) opened)
  have hf : opened.pool.free = s.pool.free := rfl
  refine ⟨hy.trans hh, ?_⟩
  change s.pool.free ≤ (generateRaw .y _ (generateRaw .h _ opened)).pool.free + 2
  omega

/-! ### Room ports leave port P alone -/

theorem offerItem_portP (room : Room) (it : QItem) (s : State) : (offerItem (roomPort room) it s).1.portP = s.portP := by
  unfold offerItem
  dsimp only
  split
  · cases room <;> rfl
  · split <;> cases room <;> rfl

theorem generateRaw_portP (room : Room) (t : Telegram) (s : State) : (generateRaw (roomPort room) t s).portP = s.portP := by
  unfold generateRaw
  split
  · rfl
  · have h := offerItem_portP room { tel := t, mark := .plain } (setFree (s.pool.free - 1) s)
    split
    · next he => rw [he] at h; exact h
    · next he => rw [he] at h; exact h

theorem broadcastHoldOff_portP (n : Nat) (s : State) : (broadcastHoldOff n s).portP = s.portP :=
  (generateRaw_portP .y _ _).trans (generateRaw_portP .h _ s)

theorem takeBuffer_portP (s : State) : (takeBuffer s).portP = s.portP := by
  unfold takeBuffer
  dsimp only
  split
  · exact broadcastHoldOff_portP 30 _
  · rfl

theorem returnBuffer_portP (s : State) : (returnBuffer s).portP = s.portP := by
  unfold returnBuffer
  dsimp only
  split
  · exact broadcastHoldOff_portP 0 _
  · rfl

theorem generate_portP (room : Room) (t : Telegram) (m : QMark) (s : State) :
    (generate (roomPort room) t m s).1.portP = s.portP := by
  unfold generate
  split
  · rfl
  · have h := (offerItem_portP room { tel := t, mark := m } (takeBuffer s)).trans (takeBuffer_portP s)
    split
    · next he => rw [he] at h; exact h
    · next he => rw [he] at h; exact (returnBuffer_portP _).trans h

/-- A response of a room port, from a pool with a buffer to spare, leaves a request on P its buffer and its place. -/
theorem generate_canQueue_p (room : Room) (t : Telegram) (m : QMark) {s : State} (hf : 2 ≤ s.pool.free)
    (hh : s.pool.held = true ∨ 8 < s.pool.free) (ha : s.portP.mode = .active) (hq : s.portP.queue.length < 8) :
    CanQueue (generate (roomPort room) t m s).1 .p := by
  have hport : (generate (roomPort room) t m s).1.port .p = s.portP := generate_portP room t m s
  suffices hpool : (generate (roomPort room) t m s).1.pool.free ≠ 0 ∧
      ((generate (roomPort room) t m s).1.pool.held = true ∨
        holdThreshold + 1 < (generate (roomPort room) t m s).1.pool.free) by
    exact ⟨hpool.1, hpool.2, by rw [hport]; exact ha, by rw [hport]; exact hq⟩
  have htake : takeBuffer s = setFree (s.pool.free - 1) s :=
    takeBuffer_calm (hh.imp_right fun h => by simp only [holdThreshold]; omega)
  have hoffer := offerItem_pool (roomPort room) { tel := t, mark := m } (takeBuffer s)
  unfold generate
  rw [if_neg (by omega)]
  split
  · next s' he =>
    rw [he, htake] at hoffer
    dsimp only at hoffer
    simp only [hoffer, setFree, State.setPool_pool, holdThreshold]
    exact ⟨by omega, hh.imp_right fun h => by omega⟩
  · next s' he =>
    rw [he, htake] at hoffer
    dsimp only at hoffer
    have hfree : s'.pool.free + 1 = s.pool.free := by
      simp only [hoffer, setFree, State.setPool_pool]; omega
    have hheld : s'.pool.held = s.pool.held := by simp only [hoffer, setFree, State.setPool_pool]
    by_cases hopen : s'.pool.held = true ∧ openThreshold ≤ s'.pool.free + 1
    · have hreturn : returnBuffer s' = enterOpen (setFree (s'.pool.free + 1) s') :=
        if_pos (by rw [Bool.and_eq_true, decide_eq_true_eq]; exact hopen)
      obtain ⟨-, hle⟩ := enterOpen_pool (setFree (s'.pool.free + 1) s')
      simp only [setFree, State.setPool_pool] at hle
      have hot : 14 ≤ s'.pool.free + 1 := hopen.2
      simp only [hreturn, setFree, holdThreshold]
      exact ⟨by omega, .inr (by omega)⟩
    · have hreturn : returnBuffer s' = setFree (s'.pool.free + 1) s' := returnBuffer_calm (by
        cases hb : s'.pool.held with
        | false => exact .inl rfl
        | true => exact .inr (Nat.lt_of_not_le fun h => hopen ⟨hb, h⟩))
      simp only [hreturn, setFree, State.setPool_pool, holdThreshold, hfree, hheld]
      exact ⟨by omega, hh.imp_right fun h => by omega⟩

/-! ### The exchange that an arbitration begins (R160, R161) -/

/-- An exchange that begins now, with an entry of the poll list or none. -/
def BegunNow (s : State) (x : Exchange) : Prop :=
  (x.start = s.tenths ∧ x.attempt = 1 ∧ x.window = none) ∧ ∀ i, x.kind.slot? = some i → slotGet s.sched.slots i ≠ none

/-- The exchange stays as it is, or one begins now. -/
def ExchangeMoves (s t : State) : Prop := t.sched.exch = s.sched.exch ∨ ∃ x, t.sched.exch = some x ∧ BegunNow s x

theorem beginRequest_exch {k : ExKind} {slot : Nat} {e : PollEntry} {s : State} (hk : k.slot? = some slot)
    (he : slotGet s.sched.slots slot = some e) : ExchangeMoves s (beginRequest k slot e s) := by
  have h := (generate_offers .p (requestTel k (BitVec.ofNat 8 e.addr)) .request s).sched
  unfold beginRequest
  dsimp only
  split
  · next heq => rw [heq] at h; exact .inl (congrArg Scheduler.exch h)
  · refine .inr ⟨_, rfl, ⟨rfl, rfl, rfl⟩, fun i hi => ?_⟩
    obtain rfl : slot = i := Option.some.inj (hk.symm.trans hi)
    rw [he]; exact Option.some_ne_none e

theorem beginRelay_exch (t : Telegram) (room : Room) (s : State) : ExchangeMoves s (beginRelay t room s) := by
  have h := (moveToQueue_offers .p t .request
    (s.setSched { s.sched with relayList := s.sched.relayList.drop 1 })).sched
  unfold beginRelay
  dsimp only
  split
  · next heq => rw [heq] at h; exact .inl (congrArg Scheduler.exch h :)
  · exact .inr ⟨_, rfl, ⟨rfl, rfl, rfl⟩, fun i hi => by cases hi⟩

theorem pickCommand_mem {slots : List (Nat × Option PollEntry)} {c : Nat × PollEntry × ValveRecord}
    (h : pickCommand slots = some c) : (c.1, some c.2.1) ∈ slots := by
  refine List.foldlRecOn (motive := fun best => ∀ c, best = some c → (c.1, some c.2.1) ∈ slots) slots _ (by simp)
    (fun best hbest ie hie c hc => ?_) c h
  obtain ⟨i, _ | e⟩ := ie
  · exact hbest c hc
  · dsimp only at hc
    split at hc
    · exact hbest c hc
    · split at hc
      · split at hc
        · cases hc; exact hie
        · split at hc
          · cases hc; exact hie
          · exact hbest c hc
      · exact hbest c hc

theorem pickPoll_mem {s : State} {c : Nat × PollEntry} (h : pickPoll s = some c) :
    slotGet s.sched.slots c.1 = some c.2 := by
  obtain ⟨i, -, hi⟩ := List.exists_of_findSome?_eq_some h
  split at hi
  · next e he =>
    split at hi
    · cases hi; exact he
    · cases hi
  · cases hi

/-- A due entry is found from whichever slot the round starts (R161). -/
theorem pickPoll_of_due {s : State} {i : Nat} {e : PollEntry} (he : slotGet s.sched.slots i = some e)
    (hd : e.due ≤ s.tenths) : ∃ c, pickPoll s = some c := by
  have hi : i < s.sched.slots.length := slotGet_lt he
  set len := s.sched.slots.length
  have hround : ∃ k, k < len ∧ (s.sched.rr + 1 + k) % len = i := by
    have hm : (s.sched.rr + 1) % len < len := Nat.mod_lt _ (by omega)
    by_cases hle : (s.sched.rr + 1) % len ≤ i
    · refine ⟨i - (s.sched.rr + 1) % len, by omega, ?_⟩
      rw [Nat.add_mod, Nat.mod_eq_of_lt (show i - (s.sched.rr + 1) % len < len by omega), Nat.add_sub_cancel' hle,
        Nat.mod_eq_of_lt hi]
    · refine ⟨i + len - (s.sched.rr + 1) % len, by omega, ?_⟩
      rw [Nat.add_mod, Nat.mod_eq_of_lt (show i + len - (s.sched.rr + 1) % len < len by omega),
        Nat.add_sub_cancel' (by omega), Nat.add_mod_right, Nat.mod_eq_of_lt hi]
  obtain ⟨k, hk, hki⟩ := hround
  cases hp : pickPoll s with
  | some c => exact ⟨c, rfl⟩
  | none =>
    have hnone := List.findSome?_eq_none_iff.mp hp i (List.mem_map.mpr ⟨k, List.mem_range.mpr hk, hki⟩)
    simp [he, hd] at hnone

theorem setRr_exch (s : State) (i : Nat) :
    (if s.sched.exch.isSome then s.setSched { s.sched with rr := i } else s).sched.exch = s.sched.exch := by
  split <;> rfl

theorem chooseExchange_exch (s : State) : ExchangeMoves s (chooseExchange s) := by
  unfold chooseExchange
  split
  · next i e r hc =>
    exact beginRequest_exch rfl (slotGet_eq_some.mpr (mem_numbered.mp (pickCommand_mem hc)))
  · split
    · exact beginRelay_exch _ _ s
    · split
      · next i e hp =>
        have h := beginRequest_exch (k := .poll i) rfl (pickPoll_mem hp)
        rwa [ExchangeMoves, setRr_exch]
      · exact .inl rfl

/-- An outstanding exchange goes on through the end of a command. -/
theorem finish_exch_kept {s : State} {x : Exchange} (h : s.sched.exch = some x) : (finish s).sched.exch = some x := by
  rw [finish, (settleNotices_reports _).sched]
  unfold arbitrate
  split
  · simp [h]
  · exact h

/-- With none outstanding, the exchange that a command ends with has begun in it. -/
theorem finish_exch_begun {s : State} {x : Exchange} (hn : s.sched.exch = none) (h : (finish s).sched.exch = some x) :
    BegunNow s x := by
  rw [finish, (settleNotices_reports _).sched] at h
  unfold arbitrate at h
  have absent (hs : s.sched.exch = some x) : BegunNow s x := by rw [hn] at hs; cases hs
  split at h
  · dsimp only at h
    split at h
    · rcases chooseExchange_exch (s.setSched { s.sched with wake := false }) with hk | ⟨y, hy, hb⟩
      · exact absent (hk.symm.trans h)
      · obtain rfl : y = x := Option.some.inj (hy.symm.trans h)
        exact hb
    · exact absent h
  · exact absent h

/-- A request that has a buffer and a place on P begins its exchange. -/
theorem beginRequest_begins (k : ExKind) (slot : Nat) (e : PollEntry) {s : State} (h : CanQueue s .p) :
    (beginRequest k slot e s).sched.exch ≠ none := by
  have hcalm : s.pool.held = true ∨ holdThreshold < s.pool.free - 1 := h.calm.imp_right fun h => by omega
  unfold beginRequest
  simp only [generate_joins .p _ .request s h.buffer hcalm h.active h.room]
  exact Option.some_ne_none _

theorem beginRelay_begins (t : Telegram) (room : Room) {s : State} (h : CanQueue s .p) :
    (beginRelay t room s).sched.exch ≠ none := by
  have ha : s.portP.mode = .active := h.active
  have hr : s.portP.queue.length < queueCap := h.room
  simp [beginRelay, moveToQueue, offerItem, State.port, ha, hr]

/-- A due entry, and a request that has a buffer and a place on P: the command that arbitrates begins an exchange (R161). -/
theorem finish_begins {s : State} {i : Nat} {e : PollEntry} (hw : s.sched.wake = true) (hn : s.sched.exch = none)
    (hq : CanQueue s .p) (he : slotGet s.sched.slots i = some e) (hd : e.due ≤ s.tenths) :
    (finish s).sched.exch ≠ none := by
  have ha : s.portP.mode = .active := hq.active
  set awake := s.setSched { s.sched with wake := false }
  have hq' : CanQueue awake .p := ⟨hq.buffer, hq.calm, hq.active, hq.room⟩
  have harb : arbitrate s = chooseExchange awake := by simp [arbitrate, hw, hn, ha, awake]
  rw [finish, (settleNotices_reports _).sched, harb]
  unfold chooseExchange
  split
  · exact beginRequest_begins _ _ _ hq'
  · split
    · exact beginRelay_begins _ _ hq'
    · split
      · rw [setRr_exch]; exact beginRequest_begins _ _ _ hq'
      · next hp =>
        obtain ⟨c, hc⟩ := pickPoll_of_due (s := awake) he hd
        rw [hc] at hp; cases hp

end Sys2Proof.Machine
end

section
/-! The writes of the poll list (R158, R162, log 14, log 21), and the tables' writes together. -/

namespace Sys2Proof.Machine

/-! ### What a poll-list write makes of the state (R158) -/

/-- The outstanding exchange is with the entry of the slot. -/
def exchangeOf (slot : Nat) (s : State) : Bool := decide ((s.sched.exch.bind (·.kind.slot?)) = some slot)

/-- A slot of the poll list written: the entry put there or none, its exchange ended or not, the stale timer as given, and
arbitration called for. -/
def polled (slot : Nat) (o : Option PollEntry) (ends : Bool) (stale : Option Nat) (s : State) : State :=
  ((s.setSched { s.sched with
      slots := s.sched.slots.set slot o, exch := if ends then none else s.sched.exch, wake := true }).setPortP
    (if ends then { s.portP with queue := s.portP.queue.map fun it => { it with mark := .plain } } else s.portP)).setLevel
    { s.level with staleFrom := stale }

theorem addEntry_eq (slot : Nat) (c : PollCfg) (s : State) :
    addEntry slot c s = polled slot (some (newEntry c s.tenths)) false
      (if c.isValve then s.level.staleFrom else some s.sec) s := by
  unfold addEntry
  split <;> rfl

theorem removeEntry_eq {slot : Nat} {e : PollEntry} {s : State} (he : slotGet s.sched.slots slot = some e) :
    wakeSched (removeEntry slot s) = polled slot none (exchangeOf slot s)
      (if e.isGauge then none else s.level.staleFrom) s := by
  unfold removeEntry exchangeOf
  simp only [he, Option.any_some]
  by_cases hx : (s.sched.exch.bind (·.kind.slot?)) = some slot
  · have hx' : ((setSlots (s.sched.slots.set slot none) s).sched.exch.bind (·.kind.slot?)) = some slot := hx
    rw [if_pos hx', decide_eq_true hx]
    split <;> rfl
  · have hx' : ¬ ((setSlots (s.sched.slots.set slot none) s).sched.exch.bind (·.kind.slot?)) = some slot := hx
    rw [if_neg hx', decide_eq_false hx]
    split <;> rfl

theorem applyPollWrite_new {slot : Nat} {s : State} (c : PollCfg) (he : slotGet s.sched.slots slot = none) :
    applyPollWrite slot (some c) s = polled slot (some (newEntry c s.tenths)) false
      (if c.isValve then s.level.staleFrom else some s.sec) s := by
  have hwake : wakeSched (addEntry slot c s) = addEntry slot c s := by unfold addEntry; split <;> rfl
  unfold applyPollWrite
  rw [he, ← addEntry_eq]
  exact hwake

theorem applyPollWrite_removed {slot : Nat} {e : PollEntry} {s : State} (he : slotGet s.sched.slots slot = some e) :
    applyPollWrite slot none s = polled slot none (exchangeOf slot s)
      (if e.isGauge then none else s.level.staleFrom) s := by
  unfold applyPollWrite
  rw [he]
  exact removeEntry_eq he

/-- A write keeps the address and the role of the entry it finds (R158). -/
def samePollEntry (e : PollEntry) (c : PollCfg) : Bool := decide (e.addr = c.addr) && (e.isGauge = !c.isValve)

theorem applyPollWrite_changed {slot : Nat} {e : PollEntry} {c : PollCfg} {s : State}
    (he : slotGet s.sched.slots slot = some e) (hs : samePollEntry e c = true) :
    applyPollWrite slot (some c) s =
      polled slot (some (if e.interval = c.interval then e else changeInterval c.interval s.tenths e)) false
        s.level.staleFrom s := by
  have hx : s.sched.slots[slot]? = some (some e) := slotGet_eq_some.mp he
  unfold applyPollWrite
  rw [he]
  have hs' : (decide (e.addr = c.addr) && (e.isGauge = !c.isValve)) = true := hs
  simp only [hs', if_true]
  split
  · have hsame : s.sched.slots.set slot (some e) = s.sched.slots := by
      apply List.ext_getElem?
      intro i
      rw [List.getElem?_set]
      split
      · next h => subst h; rw [hx, if_pos (List.getElem?_eq_some_iff.mp hx).1]
      · rfl
    rw [polled, hsame]
    rfl
  · have hmod : modifySlot s.sched.slots slot (changeInterval c.interval s.tenths) =
        s.sched.slots.set slot (some (changeInterval c.interval s.tenths e)) := by
      rw [modifySlot, List.modify_eq_set, hx]
      rfl
    rw [modEntry, hmod]
    rfl

theorem applyPollWrite_replaced {slot : Nat} {e : PollEntry} {c : PollCfg} {s : State}
    (he : slotGet s.sched.slots slot = some e) (hs : samePollEntry e c = false) :
    applyPollWrite slot (some c) s = polled slot (some (newEntry c s.tenths)) (exchangeOf slot s)
      (if c.isValve then (if e.isGauge then none else s.level.staleFrom) else some s.sec) s := by
  have hwake : wakeSched (addEntry slot c (removeEntry slot s)) = addEntry slot c (wakeSched (removeEntry slot s)) := by
    unfold addEntry; split <;> rfl
  unfold applyPollWrite
  rw [he]
  have hs' : (decide (e.addr = c.addr) && (e.isGauge = !c.isValve)) = false := hs
  simp only [hs', Bool.false_eq_true, if_false]
  rw [hwake, removeEntry_eq he, addEntry_eq]
  simp only [polled, State.setLevel_sched, State.setPortP_sched, State.setSched_sched, List.set_set, Bool.false_eq_true,
    if_false]
  rfl

/-! ### What the command leaves of it -/

theorem eq_of_forgetStart {e e' : PollEntry} (h : forgetStart e' = forgetStart e) :
    e' = { e with start := e'.start, base := e'.base } :=
  congrArg (fun x : PollEntry => { x with start := e'.start, base := e'.base }) h

section
variable {slot : Nat} {o : Option PollEntry} {ends : Bool} {stale : Option Nat} {s t : State}

/-- The blocks that a poll-list write keeps, whatever it does (R158). -/
theorem polled_frame (h : Finishes (polled slot o ends stale s) t) :
    (∀ i, i ≠ slot → (slotGet t.sched.slots i).map nodeSeen = (slotGet s.sched.slots i).map nodeSeen) ∧
      t.level = { s.level with staleFrom := stale } ∧ KeepsClock s t ∧ KeepsHeat s t ∧ t.vol = s.vol ∧ t.acct = s.acct ∧
      KeepsStores s t ∧ PortOffered s.portH t.portH ∧ PortOffered s.portY t.portY := by
  refine ⟨fun i hi => ?_, h.level, ⟨h.now, h.pending, h.freeIdx⟩, ⟨h.relay, h.zone, h.sup, h.recov⟩, h.vol, h.acct,
    ⟨h.nv, h.mgmt⟩, h.portH, h.portY⟩
  have hset : slotGet (polled slot o ends stale s).sched.slots i = slotGet s.sched.slots i := by
    rw [show (polled slot o ends stale s).sched.slots = s.sched.slots.set slot o from rfl, slotGet_set,
      if_neg (Ne.symm hi)]
  rw [h.keepsNodes.slot, hset]

/-- The slot holds what was put there, but for the start of an exchange begun in the same command. -/
theorem polled_slot (hl : slot < s.sched.slots.length) (h : Finishes (polled slot o ends stale s) t) :
    (slotGet t.sched.slots slot).map forgetStart = o.map forgetStart := by
  have hset : slotGet (polled slot o ends stale s).sched.slots slot = o := by
    rw [show (polled slot o ends stale s).sched.slots = s.sched.slots.set slot o from rfl, slotGet_set, if_pos rfl,
      if_pos hl]
  rw [slotGet_map_congr h.slots, hset]

theorem polled_slot_some {e : PollEntry} (hl : slot < s.sched.slots.length)
    (h : Finishes (polled slot (some e) ends stale s) t) :
    ∃ e', slotGet t.sched.slots slot = some e' ∧ e' = { e with start := e'.start, base := e'.base } := by
  obtain ⟨e', he', hf⟩ := Option.map_eq_some_iff.mp (polled_slot hl h)
  exact ⟨e', he', eq_of_forgetStart hf⟩

theorem polled_ports (h : Finishes (polled slot o false stale s) t) : PortsOffered s t := ⟨h.portH, h.portY, h.portP⟩

end

/-! ### The entry written (R158, R162) -/

theorem newEntry_isNew {r addr interval : Nat} {e : PollEntry} {s : State} (hr : r < 2)
    (he : e = { newEntry ⟨addr, decide (r = 1), interval⟩ s.tenths with start := e.start, base := e.base }) :
    NewEntry s addr interval r e := by
  refine ⟨e.start, e.base, he.trans ?_⟩
  obtain rfl | rfl : r = 0 ∨ r = 1 := by omega
  · rfl
  · rfl

theorem matchesDesired_iff (rep : Reported) (pos : ValvePos) : matchesDesired rep pos = true ↔
    (rep = .opened ∧ pos = .opened) ∨ (rep = .closed ∧ pos = .closed) := by
  cases rep <;> cases pos <;> simp [matchesDesired]

theorem intervalOf_changed (e : PollEntry) (interval base : Nat) :
    intervalOf { e with interval := interval, base := base } = selectedInterval e interval := by
  obtain ⟨_, role, _, present, _⟩ := e
  cases present with
  | false => rfl
  | true =>
    cases role with
    | gauge => rfl
    | valve r =>
      simp only [intervalOf, selectedInterval, PollEntry.valve?, if_true, matchesDesired_iff, travelIntervalTenths]

/-! ### The checks of a poll-list write (R158, R172) -/

theorem namedByZone_iff {e : PollEntry} {s : State} : namedByZone e s = true ↔
    e.isGauge = false ∧ ∃ z ∈ s.zone.table, z.valve = some e.addr := by
  simp [namedByZone]

theorem breaksName_iff {slot : Nat} {new : Option PollCfg} {e : PollEntry} {s : State}
    (he : slotGet s.sched.slots slot = some e) : breaksName slot new s = true ↔
      (e.isGauge = false ∧ ∃ z ∈ s.zone.table, z.valve = some e.addr) ∧
        ¬ ∃ c, new = some c ∧ c.addr = e.addr ∧ c.isValve = true := by
  simp only [breaksName, he, Option.any_some, Bool.and_eq_true, namedByZone_iff, Bool.not_eq_true', ← Bool.not_eq_true,
    Option.any_eq_true, decide_eq_true_eq]

/-- A poll-list write of r < 2 is refused for an address in use elsewhere, a second gauge, or a named valve; otherwise it is
taken with the fields of R158's ranges. -/
theorem writePoll_eq {slot r v addr interval : Nat} {a : Byte} {s : State} (hr : r < 2) (hv : v < 65536)
    (ha : addr = min 125 (max 1 a.toNat)) (hi : interval = min 600 (max 2 v)) :
    (((∃ i e, i ≠ slot ∧ slotGet s.sched.slots i = some e ∧ (e.addr = addr ∨ (r = 0 ∧ e.isGauge = true))) ∨
        enrolOf s addr ≠ none ∨ breaksName slot (some ⟨addr, decide (r = 1), interval⟩) s = true) →
      writePoll slot ([a, BitVec.ofNat 8 r] ++ beBytes 2 v) s = none) ∧
    ((∀ i e, i ≠ slot → slotGet s.sched.slots i = some e → e.addr ≠ addr ∧ ¬(r = 0 ∧ e.isGauge = true)) →
      enrolOf s addr = none → breaksName slot (some ⟨addr, decide (r = 1), interval⟩) s = false →
      writePoll slot ([a, BitVec.ofNat 8 r] ++ beBytes 2 v) s =
        some (!decide (addr = a.toNat ∧ interval = v), applyPollWrite slot (some ⟨addr, decide (r = 1), interval⟩) s)) := by
  have haddr : clampNat 1 125 a.toNat = addr := by rw [clampNat_eq (by omega), ha]
  have hint : clampNat 2 600 v = interval := by rw [clampNat_eq (by omega), hi]
  have hvb : ofBytes [BitVec.ofNat 8 (v / 256), BitVec.ofNat 8 v] = v := by
    rw [← beBytes_two]; exact ofBytes_beBytes (by simpa using hv)
  have hrole : ¬ (BitVec.ofNat 8 r ≠ 0 && BitVec.ofNat 8 r ≠ 1) = true := by
    obtain rfl | rfl : r = 0 ∨ r = 1 := by omega
    · decide
    · decide
  have hvalve : decide (BitVec.ofNat 8 r = 1) = decide (r = 1) := by
    obtain rfl | rfl : r = 0 ∨ r = 1 := by omega
    · rfl
    · rfl
  have hwrite : writePoll slot ([a, BitVec.ofNat 8 r] ++ beBytes 2 v) s =
      if otherSlot (fun e => e.addr = addr) s.sched.slots slot || (enrolOf s addr).isSome ||
          (!decide (r = 1) && otherSlot PollEntry.isGauge s.sched.slots slot) ||
          breaksName slot (some ⟨addr, decide (r = 1), interval⟩) s then none
      else some (decide (addr ≠ a.toNat) || decide (interval ≠ v),
        applyPollWrite slot (some ⟨addr, decide (r = 1), interval⟩) s) := by
    rw [beBytes_two]
    unfold writePoll
    simp only [List.cons_append, List.nil_append, haddr, hvb, hint, hvalve]
    exact if_neg hrole
  have hr0 : (!decide (r = 1)) = true ↔ r = 0 := by simp; omega
  rw [hwrite]
  constructor
  · intro h
    rw [if_pos]
    simp only [Bool.or_eq_true, Bool.and_eq_true, hr0, otherSlot_iff, decide_eq_true_eq]
    rcases h with ⟨i, e, hne, he, h | ⟨h0, hg⟩⟩ | h | h
    · exact .inl (.inl (.inl ⟨i, e, hne, he, h⟩))
    · exact .inl (.inr ⟨h0, i, e, hne, he, hg⟩)
    · exact .inl (.inl (.inr (Option.isSome_iff_ne_none.mpr h)))
    · exact .inr h
  · intro h henrol hbreaks
    rw [if_neg]
    · congr 2
      rw [Bool.eq_iff_iff]
      simp only [ne_eq, Bool.or_eq_true, decide_eq_true_eq, Bool.not_eq_true', decide_eq_false_iff_not]
      tauto
    · simp only [Bool.or_eq_true, Bool.and_eq_true, hr0, otherSlot_iff, decide_eq_true_eq, henrol, hbreaks, not_or,
        Option.isSome_none, Bool.false_eq_true, not_false_iff, and_true]
      exact ⟨fun ⟨i, e, hne, he, h'⟩ => (h i e hne he).1 h', fun ⟨h0, i, e, hne, he, hg⟩ => (h i e hne he).2 ⟨h0, hg⟩⟩

theorem writeReply_not (p : Prop) [Decidable p] : writeReply (!decide p) = .bare (if p then .ok else .clamped) := by
  by_cases h : p <;> simp [writeReply, h]

section
variable {q : Req} {idx : Byte} {slot : Nat} {clamped : Bool} {s u : State}

theorem poll_refused (hm : MayWrite s q) (hslot : slot = idx.toNat) (h12 : slot < 12)
    (hw : writePoll slot q.data s = none) : answerOf .write 6 idx q s = .bare .badValue := by
  subst hslot
  have hc : Obj.isCounter .poll idx.toNat = false := decide_eq_false (by omega)
  have hset : (Obj.isCounter .poll idx.toNat || Obj.isSetting .poll idx.toNat) = true := by
    rw [hc]; exact decide_eq_true (by omega)
  have hi : writeItem .poll idx.toNat q.data s = none := by rw [writeItem, hc]; exact hw
  exact write_refused (o := .poll) hm rfl (Nat.le_of_lt h12) hset hi

/-- A poll-list write, answered: the response joins its queue, and the command ends. -/
theorem poll_taken (hm : MayWrite s q) (hslot : slot = idx.toNat) (h12 : slot < 12)
    (hw : writePoll slot q.data s = some (clamped, u)) :
    answerOf .write 6 idx q s = writeReply clamped ∧
      ∃ a, a = respond q.room q.src 2 6 idx (writeReply clamped) u ∧ Offers u a ∧
        exec (.pollWrite idx q) s = .next (finish a) := by
  subst hslot
  have hc : Obj.isCounter .poll idx.toNat = false := decide_eq_false (by omega)
  have hset : (Obj.isCounter .poll idx.toNat || Obj.isSetting .poll idx.toNat) = true := by
    rw [hc]; exact decide_eq_true (by omega)
  have hi : writeItem .poll idx.toNat q.data s = some (clamped, u) := by rw [writeItem, hc]; exact hw
  obtain ⟨hanswer, hexec⟩ := write_taken (o := .poll) (obj := 6) (idx := idx) hm rfl (Nat.le_of_lt h12) hset hi
  exact ⟨hanswer, _, rfl, respond_offers .., hexec⟩

end

/-! ### The exchange after a poll-list write (R158, R161, log 14, log 21) -/

section
variable {slot : Nat} {o : Option PollEntry} {ends : Bool} {stale : Option Nat} {s a : State} {x : Exchange}

theorem polled_exch_kept (ho : Offers (polled slot o ends stale s) a) (he : ends = false)
    (hx : s.sched.exch = some x) : (finish a).sched.exch = some x := by
  refine finish_exch_kept ?_
  rw [ho.sched]
  simp [polled, he, hx]

/-- An exchange with the entry of the slot has begun in this command, if the write ended the one before it. -/
theorem polled_exch_begun (ho : Offers (polled slot o (exchangeOf slot s) stale s) a)
    (hx : (finish a).sched.exch = some x) (hslot : x.kind.slot? = some slot) : BegunNow a x := by
  have ha : a.sched.exch = if exchangeOf slot s then none else s.sched.exch := by rw [ho.sched]; rfl
  cases he : a.sched.exch with
  | none => exact finish_exch_begun he hx
  | some y =>
    obtain rfl : y = x := Option.some.inj ((finish_exch_kept he).symm.trans hx)
    rw [he] at ha
    split at ha
    · cases ha
    · next hnot =>
      refine absurd ?_ hnot
      simp [exchangeOf, ← ha, hslot]

/-- An entry due now is asked now, where its request has a buffer and a place on P (R161). -/
theorem polled_begins {e : PollEntry} {room : Room} {src : Byte} {op obj idx : Byte} {c : Bool}
    (hl : slot < s.sched.slots.length) (hd : e.due ≤ s.tenths) (hn : s.sched.exch = none) (ha : s.portP.mode = .active)
    (hq : s.portP.queue.length < 8) (hf : 2 ≤ s.pool.free) (hh : s.pool.held = true ∨ 8 < s.pool.free)
    (hr : a = respond room src op obj idx (writeReply c) (polled slot (some e) ends stale s)) :
    (finish a).sched.exch ≠ none := by
  subst hr
  set u := polled slot (some e) ends stale s
  have ho : Offers u (respond room src op obj idx (writeReply c) u) := respond_offers ..
  have hport : u.portP.mode = .active ∧ u.portP.queue.length < 8 := by
    cases ends
    · exact ⟨ha, hq⟩
    · exact ⟨ha, by simpa [u, polled] using hq⟩
  have hcan : CanQueue (respond room src op obj idx (writeReply c) u) .p :=
    generate_canQueue_p room _ _ (s := u) hf hh hport.1 hport.2
  refine finish_begins (i := slot) (e := e) ?_ ?_ hcan ?_ ?_
  · rw [ho.sched]; rfl
  · rw [ho.sched]
    cases ends
    · exact hn
    · rfl
  · rw [ho.sched, show u.sched.slots = s.sched.slots.set slot (some e) from rfl, slotGet_set, if_pos rfl, if_pos hl]
  · rw [State.tenths, ho.now]; exact hd

end

end Sys2Proof.Machine
end

section
/-! The writes of the enrolment map, the zone table and the poll list together (R1, R2, R19, R20, R158, R162). -/

namespace Sys2Proof.Machine

theorem Finishes.nodeOf {s t : State} (h : Finishes s t) (addr : Nat) : nodeOf t addr = nodeOf s addr :=
  nodeOf_congr (by rw [h.relay]) addr

theorem applyEnrol_none (idx : Nat) (s : State) :
    applyEnrol idx none s = changeEnrol idx (slotGet s.zone.enrol idx) none s := by
  unfold applyEnrol
  cases slotGet s.zone.enrol idx <;> rfl

theorem applyEnrol_empty {idx : Nat} {s : State} (new : Option Enrolment) (h : slotGet s.zone.enrol idx = none) :
    applyEnrol idx new s = changeEnrol idx none new s := by
  unfold applyEnrol
  rw [h]

theorem applyEnrol_sameAddr {idx : Nat} {old new : Enrolment} {s : State} (h : slotGet s.zone.enrol idx = some old)
    (ha : old.addr = new.addr) : applyEnrol idx (some new) s = changeEnrol idx (some old) (some new) s := by
  unfold applyEnrol
  rw [h]
  exact if_pos ha

/-- A room unit put in an empty slot has its zone evaluated (R12, R19). -/
theorem state_of_enrolled {idx addr z : Nat} {s t : State} (h : slotGet s.zone.enrol idx = none)
    (ht : Finishes (applyEnrol idx (some ⟨addr, .roomUnit z⟩) s) t) (hl : z < s.zone.states.length) :
    t.zone.states[z]? = some (zoneStateOf t z) := by
  have hchange : (none : Option Enrolment).bind Enrolment.zone? ≠
      (some ⟨addr, .roomUnit z⟩ : Option Enrolment).bind Enrolment.zone? := by simp [Enrolment.zone?]
  rw [applyEnrol_empty _ h, changeEnrol_zones hchange] at ht
  exact state_of_evaluated (zs := [z]) (ht.zone.trans (evaluateZones_zone _ _))
    (ht.relay.trans (evaluateZones_dispatch _ _).relay) (List.mem_singleton_self z) hl

theorem samePollEntry_iff {e : PollEntry} {r addr interval : Nat} (hr : r < 2) :
    samePollEntry e ⟨addr, decide (r = 1), interval⟩ = true ↔ addr = e.addr ∧ (r = 0 ↔ e.isGauge = true) := by
  rw [samePollEntry, Bool.and_eq_true, decide_eq_true_eq, decide_eq_true_eq, @eq_comm _ e.addr]
  refine and_congr_right fun _ => ?_
  obtain rfl | rfl : r = 0 ∨ r = 1 := by omega
  · simp
  · simp

/-- Settles O54: table by table, the checks by the equation of the write, and what is taken by what the write makes of the
state (`changeEnrol_zones`, `applyZone_steers`, `polled`). -/
theorem tableWritesAreTaken : Obligations.TableWritesAreTaken := by
  intro idx slot q s hs hm hslot
  refine ⟨fun h16 hd => ?_, fun p a r zone addr role h16 hd haddr hrole => ⟨fun hbad => ?_, fun hfree hpoll => ?_⟩,
    fun p lead frost diff duty valve cls mode sp ce old given taken h8 hold hsp hce hd hgiven htaken => ?_,
    fun a r v addr interval h12 hlen hr hv hd haddr hint hnone => ⟨fun hbad => ?_, fun hfree henrol => ?_⟩,
    fun a r v addr interval e same h12 hr hv hd haddr hint he hsame => ⟨fun hbad => ?_, fun hfree henrol hkeep => ?_⟩,
    fun e h12 hd he hg hnamed => ?_, fun e h12 hd he hfree => ?_⟩
  · obtain ⟨hanswer, t, hexec, hfin, henrol, htable, hframe, hnodes, hports⟩ :=
      enrol_taken (new := none) (clamped := false) hm hslot h16 (by rw [hd]; rfl)
    refine ⟨hanswer, t, hexec, henrol, htable, hframe, hnodes, hports, fun e z n he hr hn => ?_⟩
    rw [hfin.nodeOf, applyEnrol_none, he] at hn
    exact nodeOf_removed hr hn
  · refine write_refused (o := .enrol) hm rfl (hslot ▸ Nat.le_of_lt_succ h16) rfl ?_
    have hw : writeItem .enrol idx.toNat q.data s = writeEnrol slot q.data s := by rw [hslot]; rfl
    rw [hw, hd, writeEnrol_eq haddr hrole, if_pos]
    rw [Bool.or_eq_true, otherSlot_iff]
    simpa only [decide_eq_true_eq] using hbad
  · have hw : writeEnrol slot q.data s = some (!decide (addr = a.toNat ∧ (r = 0 → zone.toNat ≤ 7)),
        applyEnrol slot (some ⟨addr, role⟩) s) := by
      rw [hd, writeEnrol_eq haddr hrole, if_neg]
      simp only [Bool.or_eq_true, otherSlot_iff, decide_eq_true_eq, hpoll, Bool.false_eq_true, or_false]
      exact fun ⟨i, e, hi, hget, hadr⟩ => hfree i e hi hget hadr
    obtain ⟨hanswer, t, hexec, hfin, henrol, htable, hframe, hnodes, hports⟩ := enrol_taken hm hslot h16 hw
    rw [writeReply_not] at hanswer
    refine ⟨hanswer, t, hexec, henrol, htable, hframe, hnodes, hports, ?_, ?_⟩
    · rintro o z z' ze n part ho rfl rfl hne hlen hze hn hpart
      refine ⟨rerunPart s.acct.tank s.zone.setback ze part, ?_, rerunPart_rerun _ _ ze part⟩
      rw [hfin.nodeOf, applyEnrol_sameAddr (new := ⟨addr, .roomUnit z'⟩) ho rfl, nodeOf_moved hne hfree hlen hze hn, hpart]
      rfl
    · rintro z hnone hlen rfl hl
      exact state_of_enrolled hnone hfin hl
  · have hw := writeZone_eq (slot := slot) (p := p) (lead := lead) (frost := frost) (diff := diff) (duty := duty)
      (valve := valve) (s := s) hsp hce hgiven htaken
    rw [← hd] at hw
    constructor
    · intro hbad
      refine write_refused (o := .zone) hm rfl (hslot ▸ Nat.le_of_lt h8) rfl ?_
      have hi : writeItem .zone idx.toNat q.data s =
          if idx.toNat = 8 then writeSetback q.data s else writeZone idx.toNat q.data s := rfl
      rw [hi, if_neg (by omega), ← hslot, hw, if_neg]
      rw [valveNodeFits_iff]
      obtain ⟨v, hv, hunfit⟩ := hbad
      intro hfits
      obtain ⟨hat, hother⟩ := hfits v hv
      rcases hunfit with hnone | ⟨y, ze, hy, hze, hvy⟩
      · exact hat hnone
      · exact hother y ze hy hze hvy
    · intro hfits
      rw [if_pos (valveNodeFits_iff.mpr hfits)] at hw
      have hreply : writeReply (decide (taken ≠ given)) = .bare (if taken = given then .ok else .clamped) := by
        rw [decide_not, writeReply_not]
      rw [← hreply]
      exact zone_taken hm hslot h8 hold hw
  · refine poll_refused hm hslot h12 ?_
    rw [hd]
    exact (writePoll_eq hr hv haddr hint).1 (hbad.imp_right .inl)
  · have hbreaks : breaksName slot (some ⟨addr, decide (r = 1), interval⟩) s = false := by simp [breaksName, hnone]
    have hw := (writePoll_eq hr hv haddr hint).2 hfree henrol hbreaks
    rw [← hd, applyPollWrite_new _ hnone] at hw
    obtain ⟨hanswer, _, hresponse, ho, hexec⟩ := poll_taken hm hslot h12 hw
    rw [writeReply_not] at hanswer
    have hfin := ho.finishes.trans (finish_finishes _)
    obtain ⟨e, he, hnew⟩ := polled_slot_some hlen hfin
    obtain ⟨hothers, hlevel, hclock, hheat, hvol, hacct, hstores, -, -⟩ := polled_frame hfin
    have hstale : (if decide (r = 1) = true then s.level.staleFrom else some s.sec) =
        if r = 0 then some s.sec else s.level.staleFrom := by
      obtain rfl | rfl : r = 0 ∨ r = 1 := by omega
      · rfl
      · rfl
    rw [← hstale]
    exact ⟨hanswer, _, e, hexec, he, newEntry_isNew hr hnew, hothers, hlevel, hclock, hheat, hvol, hacct, hstores,
      polled_ports hfin⟩
  · refine poll_refused hm hslot h12 ?_
    rw [hd]
    refine (writePoll_eq hr hv haddr hint).1 (hbad.imp_right (.imp_right fun ⟨hg, hnamed, hdiff⟩ => ?_))
    refine (breaksName_iff he).mpr ⟨⟨hg, hnamed⟩, ?_⟩
    rintro ⟨c, hc, ha, hv⟩
    cases hc
    have h1 : r = 1 := of_decide_eq_true hv
    exact hdiff (hsame.mpr ⟨ha, by simp [h1, hg]⟩)
  · have hbreaks : breaksName slot (some ⟨addr, decide (r = 1), interval⟩) s = false := by
      rw [← Bool.not_eq_true, breaksName_iff he]
      rintro ⟨⟨hg, hnamed⟩, hdiff⟩
      obtain ⟨ha, hrole⟩ := hsame.mp (hkeep hg hnamed)
      have h1 : r = 1 := by
        have : r ≠ 0 := fun h0 => by simp [hrole.mp h0] at hg
        omega
      exact hdiff ⟨_, rfl, ha, decide_eq_true h1⟩
    have hlen := slotGet_lt he
    have hw := (writePoll_eq hr hv haddr hint).2 hfree henrol hbreaks
    rw [← hd] at hw
    by_cases hsm : same
    · rw [applyPollWrite_changed he ((samePollEntry_iff hr).mpr (hsame.mp hsm))] at hw
      obtain ⟨hanswer, _, hresponse, ho, hexec⟩ := poll_taken hm hslot h12 hw
      rw [writeReply_not] at hanswer
      have hfin := ho.finishes.trans (finish_finishes _)
      obtain ⟨e', he', hnew⟩ := polled_slot_some hlen hfin
      obtain ⟨hothers, hlevel, hclock, hheat, hvol, hacct, hstores, hportH, hportY⟩ := polled_frame hfin
      refine ⟨hanswer, _, e', hexec, he', fun _ => ⟨⟨e'.start, e'.base, ?_⟩, hlevel, polled_ports hfin, fun x hx =>
        polled_exch_kept ho rfl hx⟩, fun hn => absurd hsm hn, fun hd hx ha hq hf hh => ?_, hothers, hclock, hheat, hvol,
        hacct, hstores, hportH, hportY⟩
      · rw [hnew]
        by_cases hi : e.interval = interval
        · simp [hi]
        · simp [hi, Ne.symm hi, changeInterval, decideDue, intervalOf_changed]
      · exact polled_begins hlen (by rw [hnew] at hd; exact hd) hx ha hq hf hh hresponse
    · have hdiffer : samePollEntry e ⟨addr, decide (r = 1), interval⟩ = false :=
        Bool.eq_false_iff.mpr fun h => hsm (hsame.mpr ((samePollEntry_iff hr).mp h))
      rw [applyPollWrite_replaced he hdiffer] at hw
      obtain ⟨hanswer, _, hresponse, ho, hexec⟩ := poll_taken hm hslot h12 hw
      rw [writeReply_not] at hanswer
      have hfin := ho.finishes.trans (finish_finishes _)
      obtain ⟨e', he', hnew⟩ := polled_slot_some hlen hfin
      obtain ⟨hothers, hlevel, hclock, hheat, hvol, hacct, hstores, hportH, hportY⟩ := polled_frame hfin
      refine ⟨hanswer, _, e', hexec, he', fun h => absurd h hsm, fun _ => ⟨newEntry_isNew hr hnew, ?_, fun x hx hxs => ?_,
        fun x hx hxs => polled_exch_kept ho ?_ hx⟩, fun hd hx ha hq hf hh => ?_, hothers, hclock, hheat, hvol, hacct,
        hstores, hportH, hportY⟩
      · rw [hlevel]
        obtain rfl | rfl : r = 0 ∨ r = 1 := by omega
        · rfl
        · rfl
      · obtain ⟨⟨hstart, hattempt, hwindow⟩, -⟩ := polled_exch_begun ho hx hxs
        exact ⟨hstart.trans (congrArg (· / ticksPerTenth) ho.now), hattempt, hwindow⟩
      · simpa [exchangeOf, hx] using hxs
      · exact polled_begins hlen (by rw [hnew] at hd; exact hd) hx ha hq hf hh hresponse
  · refine poll_refused hm hslot h12 ?_
    rw [hd]
    exact if_pos ((breaksName_iff he).mpr ⟨⟨hg, hnamed⟩, fun ⟨_, h, _⟩ => by cases h⟩)
  · have hbreaks : ¬ breaksName slot none s = true := by
      rw [breaksName_iff he]
      rintro ⟨⟨hg, z, hz, hv⟩, -⟩
      exact hfree hg z hz hv
    have hw : writePoll slot q.data s = some (false, applyPollWrite slot none s) := by rw [hd]; exact if_neg hbreaks
    rw [applyPollWrite_removed he] at hw
    obtain ⟨hanswer, _, hresponse, ho, hexec⟩ := poll_taken hm hslot h12 hw
    have hfin := ho.finishes.trans (finish_finishes _)
    obtain ⟨hothers, hlevel, hclock, hheat, hvol, hacct, hstores, -, -⟩ := polled_frame hfin
    have hempty := Option.map_eq_none_iff.mp (polled_slot (slotGet_lt he) hfin)
    refine ⟨hanswer, _, hexec, hempty, fun x hx hxs => ?_, hothers, hlevel, hclock, hheat, hvol, hacct, hstores⟩
    refine (polled_exch_begun ho hx hxs).2 slot hxs ?_
    rw [ho.sched, show (polled slot none (exchangeOf slot s) (if e.isGauge then none else s.level.staleFrom) s).sched.slots =
      s.sched.slots.set slot none from rfl, slotGet_set, if_pos rfl, if_pos (slotGet_lt he)]

end Sys2Proof.Machine
end

section
/-! SUPPORT. A telegram on the wire and in the port that receives it (R121 to R123, R127, R128), and a DEMAND's payload (R124). -/

namespace Sys2Proof.Machine

/-! ### The wire (R122, R123, R127) -/

theorem received_data (t : Telegram) : (received t).map (·.data) = t.wire := by
  rw [received, List.map_map]
  exact List.map_id _

theorem length_wire (t : Telegram) : t.wire.length = t.payload.length + 6 := by
  simp [Telegram.wire, Telegram.body]

theorem toNat_len {t : Telegram} (h : t.payload.length ≤ 16) : t.len.toNat = t.payload.length :=
  toNat_ofNat_byte (by omega)

/-- What a port reads from the characters of a telegram is the telegram (R122). -/
theorem parseTel_wire {t : Telegram} (h : t.payload.length ≤ 16) : parseTel t.wire = t := by
  have hn : (t.wire.getD 3 0).toNat = t.payload.length := toNat_len h
  have hbody : t.wire.drop 4 = t.payload ++ beBytes 2 t.check.toNat := rfl
  have hcheck : t.wire.drop (4 + t.payload.length) = beBytes 2 t.check.toNat := by
    rw [← List.drop_drop, hbody, List.drop_left]
  have hvalue : BitVec.ofNat 16 (ofBytes (beBytes 2 t.check.toNat)) = t.check := by
    rw [ofBytes_beBytes t.check.isLt, BitVec.ofNat_toNat, BitVec.setWidth_eq]
  rw [parseTel]
  rw [hn, hbody, hcheck, List.take_left, List.take_of_length_le (by simp), hvalue]
  rfl

theorem badLength_received {t : Telegram} (h : t.payload.length ≤ 16) : badLength (received t) = false := by
  have hlen : (received t).length = t.payload.length + 6 := by rw [received, List.length_map, length_wire]
  obtain ⟨x, y, hxy⟩ : ∃ x y, received t =
      cleanChar t.dest :: cleanChar t.src :: cleanChar t.kind :: cleanChar t.len :: (t.payload.map cleanChar ++ [x, y]) := by
    refine ⟨cleanChar (BitVec.ofNat 8 (t.check.toNat / 256)), cleanChar (BitVec.ofNat 8 t.check.toNat), ?_⟩
    rw [received, Telegram.wire, Telegram.body, beBytes_two]
    simp only [List.cons_append, List.map_cons, List.map_append, List.map_nil]
  have hdata : (cleanChar t.len).data.toNat = t.payload.length := toNat_len h
  have key : badLength (received t) = (decide (16 < (cleanChar t.len).data.toNat) ||
      decide ((received t).length ≠ (cleanChar t.len).data.toNat + 6)) := by
    rw [hxy]
    cases t.payload with
    | nil => rfl
    | cons b bs => cases bs <;> rfl
  rw [key, hdata, hlen]
  simp [h]

/-- The error set of a telegram sent well and stored is empty (R127). -/
theorem errorsOf_received {t : Telegram} (h : WellSent t) : (errorsOf true (received t)).isEmpty = true := by
  have hparity : (received t).any parityError = false := by
    simp [received, parityError, cleanChar]
  have hframing : (received t).any framingError = false := by
    simp [received, framingError, cleanChar]
  have hcheck : badCheck (received t) = false := by
    simp [badCheck, received_data, parseTel_wire h.fits, ← h.check]
  simp [errorsOf, RxErrors.isEmpty, hparity, hframing, badLength_received h.fits, hcheck]

/-! ### Delivery (R128) -/

/-- The state in which a room port hands over a telegram: its line ended, RX_GOOD counted. -/
def delivered (room : Room) (s : State) : State :=
  (s.modPort (roomPort room) (quietAfterTelegram s.now)).countPort (roomPort room)
    fun c => { c with rxGood := bump c.rxGood }

/-- A telegram sent well and stored goes to the relay unit (R128, R154). -/
theorem exec_received {room : Room} {start : Nat} {t : Telegram} {s : State}
    (hasm : (s.port (roomPort room)).asm = some { hasBuffer := true, start := start })
    (hsilent : (s.port (roomPort room)).phase ≠ .sending) (hsent : WellSent t) :
    exec (.rxTelegramEnd (roomPort room) (received t)) s = .next (finish (takeFromRoom room t (delivered room s))) := by
  have hcause : (!sendingNow (s.port (roomPort room)) &&
      ((s.port (roomPort room)).asm.isSome || lineBusy (s.port (roomPort room)))) = true := by
    simp [sendingNow, hsilent, hasm]
  have hgood : goodAddresses t = true := by
    simp [goodAddresses, hsent.src, hsent.dest]
  have hroom : portRoom (roomPort room) = some room := by cases room <;> rfl
  have hend : telegramEnd (roomPort room) (received t) s = takeFromRoom room t (delivered room s) := by
    unfold telegramEnd
    rw [hasm]
    simp only [endAssembly, errorsOf_received hsent, received_data, parseTel_wire hsent.fits, hgood, if_true, deliver, hroom]
    rfl
  rw [← hend]
  exact congrArg Host.Outcome.next (if_pos hcause)

/-! ### The payload of a DEMAND (R4 to R6, R124) -/

theorem ofSigned_beSigned_two {x : Int} (hlo : -32768 ≤ x) (hhi : x < 32768) : ofSigned (beSigned 2 x) = x := by
  have hmod : (x % (256 ^ 2 : Nat)).toNat < 256 ^ 2 := by omega
  rw [ofSigned, beSigned, ofBytes_beBytes hmod, length_beBytes]
  split <;> omega

theorem beSigned_two (x : Int) : ∃ b c, beSigned 2 x = [b, c] := ⟨_, _, beBytes_two _⟩

theorem readDemand_eq {x y : Int} {flags : Byte} {given : List Byte} (hx : -32768 ≤ x) (hx' : x < 32768)
    (hy : -32768 ≤ y) (hy' : y < 32768) (hg : given = [] ∨ given = beSigned 2 y) :
    readDemand (beSigned 2 x ++ [flags] ++ given) =
      some { temp := min 500 (max (-300) x), batteryLow := flags.getLsbD 0, manual := flags.getLsbD 1,
             setpoint := if given = [] then none else some (min 300 (max 50 y)).toNat } := by
  obtain ⟨x1, x0, hxb⟩ := beSigned_two x
  obtain ⟨y1, y0, hyb⟩ := beSigned_two y
  have htemp : clampTemp (ofSigned [x1, x0]) = min 500 (max (-300) x) := by
    rw [← hxb, ofSigned_beSigned_two hx hx', clampTemp, clampInt_eq (by omega)]
  have hset : clampInt 50 300 (ofSigned [y1, y0]) = min 300 (max 50 y) := by
    rw [← hyb, ofSigned_beSigned_two hy hy', clampInt_eq (by omega)]
  rcases hg with rfl | rfl
  · simp [hxb, readDemand, htemp]
  · simp [hxb, hyb, readDemand, htemp, hset]

/-- A DEMAND is read when LEN is 3 or 5 (R5). -/
theorem readDemand_eq_none_iff (p : List Byte) : readDemand p = none ↔ p.length ≠ 3 ∧ p.length ≠ 5 := by
  match p with
  | [] | [_] | [_, _] | [_, _, _, _] => simp [readDemand]
  | [_, _, _] | [_, _, _, _, _] => simp [readDemand]
  | _ :: _ :: _ :: _ :: _ :: _ :: _ => simp [readDemand]

end Sys2Proof.Machine
end

section
/-! SUPPORT. What the relay unit's learning and the zone unit's evaluation leave as they are (`Hears`), and the buffers and queue
places that they leave to a reply (`Spare`). -/

namespace Sys2Proof.Machine

/-! ### What hearing a room unit leaves as it is -/

/-- A telegram of a room unit has been heard: apart from the relay unit and the zone unit, only the NOTICE line, valve commands,
BURNER_START, offers and the supervisor may have changed, and the supervisor has neither entered nor left LOCKED and
INHIBITED. -/
structure Hears (s t : State) : Prop where
  clock : KeepsClock s t
  recov : t.recov = s.recov
  vol : t.vol = s.vol
  acct : t.acct = s.acct
  stores : KeepsStores s t
  nodes : KeepsNodes s t
  ports : PortsOffered s t
  locked : t.sup.state = .locked ↔ s.sup.state = .locked
  inhibited : t.sup.state = .inhibited ↔ s.sup.state = .inhibited

theorem Hears.trans {a b c : State} (h : Hears a b) (k : Hears b c) : Hears a c where
  clock := h.clock.trans k.clock
  recov := k.recov.trans h.recov
  vol := k.vol.trans h.vol
  acct := k.acct.trans h.acct
  stores := h.stores.trans k.stores
  nodes := h.nodes.trans k.nodes
  ports := h.ports.trans k.ports
  locked := k.locked.trans h.locked
  inhibited := k.inhibited.trans h.inhibited

theorem DispatchFrame.hears {s t : State} (h : DispatchFrame s t) (hl : t.sup.state = .locked ↔ s.sup.state = .locked)
    (hi : t.sup.state = .inhibited ↔ s.sup.state = .inhibited) : Hears s t :=
  ⟨h.clock, h.recov, h.vol, h.acct, h.stores, h.nodes, h.ports, hl, hi⟩

theorem Hears.refl (s : State) : Hears s s := (DispatchFrame.refl s).hears .rfl .rfl

theorem Finishes.hears {s t : State} (h : Finishes s t) : Hears s t := h.dispatch.hears (by rw [h.sup]) (by rw [h.sup])

theorem Steers.hears {s t : State} (h : Steers s t) : Hears s t := h.dispatch.hears h.locked h.inhibited

theorem setRelay_hears (s : State) (v : Relay) : Hears s (s.setRelay v) :=
  ⟨.refl s, rfl, rfl, rfl, .refl s, rfl, .refl s, .rfl, .rfl⟩

theorem setZone_hears (s : State) (v : ZoneUnit) : Hears s (s.setZone v) := (setZone_dispatch s v).hears .rfl .rfl

theorem evaluateZones_hears (zs : List Nat) (s : State) : Hears s (evaluateZones zs s) :=
  ((setZone_hears s _).trans (settleNotices_reports _).finishes.hears).trans (handOver_steers _ _).hears

/-- The NOTICE line follows the enabled set after an evaluation of zones. -/
theorem evaluateZones_settled (zs : List Nat) (s : State) : NoticeSettled (evaluateZones zs s) := by
  have h := handOver_steers s.zone.wanting (settleNotices (evaluated zs s))
  rw [NoticeSettled, evaluateZones, h.enabledSet, h.mgmt]
  exact settleNotices_line _

/-- A settled NOTICE line stays so while offers are made. -/
theorem Offers.noticeSettled {s t : State} (h : Offers s t) (hs : NoticeSettled s) : NoticeSettled t := by
  rw [NoticeSettled, h.reports.enabledSet, h.mgmt]
  exact hs

/-- The zone unit after an evaluation, as a change of states and wanting-heat set. -/
theorem evaluateZones_zone_frame (zs : List Nat) (s : State) : (evaluateZones zs s).zone =
    { s.zone with states := (evaluateZones zs s).zone.states, wanting := (evaluateZones zs s).zone.wanting } := by
  rw [evaluateZones_zone]; rfl

theorem nodeChanged_cases (addr : Nat) (s : State) : nodeChanged addr s = s ∨ ∃ z, nodeChanged addr s = evaluateZones [z] s := by
  unfold nodeChanged
  split
  · exact .inl rfl
  · exact .inr ⟨_, rfl⟩

/-! ### Buffers and places to spare (R131, R138, R139) -/

/-- With the pool not HELD, `n` buffers can be taken before a threshold is crossed, and `m` telegrams can join the queue of a
room port in ACTIVE. -/
structure Spare (room : Room) (n m : Nat) (s : State) : Prop where
  held : s.pool.held = false
  free : holdThreshold + n < s.pool.free
  mode : (s.port (roomPort room)).mode = .active
  place : (s.port (roomPort room)).queue.length + m ≤ queueCap

section
variable {room : Room} {n m : Nat} {s t : State}

theorem Spare.congr (h : Spare room n m s) (hp : t.pool = s.pool) (hH : t.portH = s.portH) (hY : t.portY = s.portY) :
    Spare room n m t := by
  have hport : t.port (roomPort room) = s.port (roomPort room) := by
    cases room
    · exact hH
    · exact hY
  exact ⟨hp ▸ h.held, hp ▸ h.free, hport ▸ h.mode, hport ▸ h.place⟩

theorem Spare.mono {n' m' : Nat} (h : Spare room n m s) (hn : n' ≤ n) (hm : m' ≤ m) : Spare room n' m' s :=
  ⟨h.held, by have := h.free; omega, h.mode, by have := h.place; omega⟩

theorem Spare.setRelay (h : Spare room n m s) (v : Relay) : Spare room n m (s.setRelay v) := h.congr rfl rfl rfl

theorem Spare.returnBuffer (h : Spare room n m s) : Spare room n m (returnBuffer s) := by
  rw [returnBuffer_calm (.inl h.held)]
  have hport := setFree_port (s.pool.free + 1) (roomPort room) s
  exact ⟨h.held, Nat.lt_succ_of_lt h.free, hport ▸ h.mode, hport ▸ h.place⟩

theorem port_setPort_self (port : Port) (v : PortState) (s : State) : (s.setPort port v).port port = v := by
  cases port <;> rfl

theorem port_setPort_other {port other : Port} (h : other ≠ port) (v : PortState) (s : State) :
    (s.setPort port v).port other = s.port other := by
  cases port <;> cases other <;> try rfl
  all_goals exact absurd rfl h

theorem offerItem_port (port : Port) (it : QItem) (s : State) :
    ∃ q, (offerItem port it s).1 = s.setPort port q ∧ q.queue.length ≤ (s.port port).queue.length + 1 := by
  unfold offerItem
  dsimp only
  split
  · exact ⟨_, rfl, Nat.le_succ _⟩
  · split
    · exact ⟨_, rfl, by simp⟩
    · exact ⟨_, rfl, Nat.le_succ _⟩

/-- A generated telegram, away from the thresholds, takes a buffer and a place at most, and touches its own port alone. -/
theorem generate_calm (port : Port) (tel : Telegram) (mk : QMark) (hh : s.pool.held = false)
    (hf : holdThreshold + 1 < s.pool.free) :
    ∃ k q, (generate port tel mk s).1 = (setFree k s).setPort port q ∧ s.pool.free ≤ k + 1 ∧
      q.queue.length ≤ (s.port port).queue.length + 1 := by
  obtain ⟨q, hq, hlen⟩ := offerItem_port port { tel := tel, mark := mk } (setFree (s.pool.free - 1) s)
  rw [setFree_port] at hlen
  unfold generate
  rw [if_neg (by omega), takeBuffer_calm (.inr hf)]
  split
  · next he =>
    rw [he] at hq
    exact ⟨_, q, hq, by omega, hlen⟩
  · next s' he =>
    rw [he] at hq
    have hpool : s'.pool = { s.pool with free := s.pool.free - 1 } := by
      have hs : s' = _ := hq
      rw [hs]; cases port <;> rfl
    have hback : returnBuffer s' = (setFree (s.pool.free - 1 + 1) s).setPort port q := by
      rw [returnBuffer_calm (.inl (by rw [hpool]; exact hh)), hpool, show s' = _ from hq]
      cases port <;> rfl
    exact ⟨_, q, hback, by omega, hlen⟩

/-- A telegram for a port costs a buffer, and a place when the port is the room's own. -/
theorem Spare.generate {port : Port} (h : Spare room (n + 1) (m + if port = roomPort room then 1 else 0) s) (tel : Telegram)
    (mk : QMark) : Spare room n m (generate port tel mk s).1 := by
  have hfree := h.free
  have hplace := h.place
  obtain ⟨k, q, he, hk, hq⟩ := generate_calm port tel mk h.held (by omega)
  have hpool : ((setFree k s).setPort port q).pool = { s.pool with free := k } := by cases port <;> rfl
  have hmode := ((generate_offers port tel mk s).port (roomPort room)).mode
  refine ⟨by rw [he, hpool]; exact h.held, by rw [he, hpool]; dsimp only; omega, hmode.trans h.mode, ?_⟩
  rw [he]
  by_cases hp : port = roomPort room
  · rw [if_pos hp] at hplace
    subst hp
    rw [port_setPort_self]; omega
  · rw [if_neg hp] at hplace
    rw [port_setPort_other (Ne.symm hp), setFree_port]; omega

theorem Spare.composeNotices (h : Spare room (n + 2) (m + 1) s) : Spare room n m (composeNotices s) := by
  cases room
  · exact Spare.generate (room := .h) (port := .y) (m := m) (Spare.generate (room := .h) (port := .h) (m := m) h _ _) _ _
  · exact Spare.generate (room := .y) (port := .y) (m := m) (Spare.generate (room := .y) (port := .h) (m := m + 1) h _ _) _ _

theorem Spare.settleNotices (h : Spare room (n + 2) (m + 1) s) : Spare room n m (settleNotices s) := by
  have hmono : Spare room n m s := h.mono (by omega) (by omega)
  unfold Machine.settleNotices
  split
  · exact hmono.congr rfl rfl rfl
  · split
    · exact hmono
    · exact Spare.composeNotices (h.congr rfl rfl rfl)

/-- An evaluation of zones leaves all but two buffers and a place. -/
theorem Spare.evaluateZones (h : Spare room (n + 2) (m + 1) s) (zs : List Nat) : Spare room n m (evaluateZones zs s) := by
  have hset : Spare room n m (Machine.settleNotices (evaluated zs s)) := Spare.settleNotices (h.congr rfl rfl rfl)
  have hst := handOver_steers s.zone.wanting (Machine.settleNotices (evaluated zs s))
  exact hset.congr hst.pool hst.portH hst.portY

theorem Spare.nodeChanged (h : Spare room (n + 2) (m + 1) s) (addr : Nat) : Spare room n m (nodeChanged addr s) := by
  rcases nodeChanged_cases addr s with he | ⟨z, he⟩
  · rw [he]; exact h.mono (by omega) (by omega)
  · rw [he]; exact h.evaluateZones [z]

/-! ### A command that ends with a buffer to spare -/

/-- Arbitration leaves the room ports and the NOTICE line as they are while a buffer can be taken without a threshold crossed. -/
structure PlantOnly (s t : State) : Prop where
  portH : t.portH = s.portH
  portY : t.portY = s.portY
  mgmt : t.mgmt = s.mgmt

theorem generate_plantOnly (tel : Telegram) (mk : QMark) (hh : s.pool.held = false) (hf : holdThreshold + 1 < s.pool.free) :
    PlantOnly s (generate .p tel mk s).1 := by
  obtain ⟨k, q, he, -, -⟩ := generate_calm .p tel mk hh hf
  rw [he]; exact ⟨rfl, rfl, rfl⟩

theorem beginRequest_plantOnly (k : ExKind) (slot : Nat) (e : PollEntry) (hh : s.pool.held = false)
    (hf : holdThreshold + 1 < s.pool.free) : PlantOnly s (beginRequest k slot e s) := by
  have h := generate_plantOnly (requestTel k (BitVec.ofNat 8 e.addr)) .request hh hf
  unfold beginRequest
  dsimp only
  split
  · next he => rw [he] at h; exact h
  · next s' he =>
    rw [he] at h
    have hcount : PlantOnly s (countRequest k s') := by
      unfold countRequest
      split <;> exact ⟨h.portH, h.portY, h.mgmt⟩
    exact ⟨hcount.portH, hcount.portY, hcount.mgmt⟩

theorem beginRelay_plantOnly (tel : Telegram) (r : Room) (hh : s.pool.held = false) : PlantOnly s (beginRelay tel r s) := by
  obtain ⟨q, hq, -⟩ := offerItem_port .p { tel := tel, mark := .request }
    (s.setSched { s.sched with relayList := s.sched.relayList.drop 1 })
  have h : PlantOnly s (moveToQueue .p tel .request
      (s.setSched { s.sched with relayList := s.sched.relayList.drop 1 })).1 := by
    unfold moveToQueue
    split
    · next he => rw [he] at hq; rw [show _ = _ from hq]; exact ⟨rfl, rfl, rfl⟩
    · next s' he =>
      rw [he] at hq
      have hs : s' = _ := hq
      rw [returnBuffer_calm (.inl (by rw [hs]; exact hh)), hs]
      exact ⟨rfl, rfl, rfl⟩
  unfold beginRelay
  dsimp only
  split
  · next he => rw [he] at h; exact h
  · next he => rw [he] at h; exact ⟨h.portH, h.portY, h.mgmt⟩

theorem chooseExchange_plantOnly (hh : s.pool.held = false) (hf : holdThreshold + 1 < s.pool.free) :
    PlantOnly s (chooseExchange s) := by
  unfold chooseExchange
  split
  · exact beginRequest_plantOnly _ _ _ hh hf
  · split
    · exact beginRelay_plantOnly _ _ hh
    · split
      · next i e _ =>
        have h := beginRequest_plantOnly (.poll i) i e hh hf
        dsimp only
        split
        · exact ⟨h.portH, h.portY, h.mgmt⟩
        · exact h
      · exact ⟨rfl, rfl, rfl⟩

theorem arbitrate_plantOnly (hh : s.pool.held = false) (hf : holdThreshold + 1 < s.pool.free) : PlantOnly s (arbitrate s) := by
  unfold arbitrate
  split
  · dsimp only
    split
    · have h := chooseExchange_plantOnly (s := s.setSched { s.sched with wake := false }) hh hf
      exact ⟨h.portH, h.portY, h.mgmt⟩
    · exact ⟨rfl, rfl, rfl⟩
  · exact ⟨rfl, rfl, rfl⟩

/-- The room ports stand at the end of a command as its effect left them, when no NOTICE is owed and a buffer is to spare. -/
theorem finish_room_port (room : Room) (hn : NoticeSettled s) (hh : s.pool.held = false)
    (hf : holdThreshold + 1 < s.pool.free) : (finish s).port (roomPort room) = s.port (roomPort room) := by
  have h := arbitrate_plantOnly hh hf
  have hline : (arbitrate s).mgmt.line = true ↔ enabledSet (arbitrate s) ≠ 0 := by
    rw [h.mgmt, (arbitrate_finishes s).enabledSet]; exact hn
  have hports : (finish s).portH = (arbitrate s).portH ∧ (finish s).portY = (arbitrate s).portY := by
    unfold finish Machine.settleNotices
    split
    · exact ⟨rfl, rfl⟩
    · next he => rw [if_pos (hline.mpr he)]; exact ⟨rfl, rfl⟩
  cases room
  · exact hports.1.trans h.portH
  · exact hports.2.trans h.portY

end

end Sys2Proof.Machine
end

section
/-! SUPPORT. The relay unit hears a source: learning, migration and the storm count (R143, R145, R148). -/

namespace Sys2Proof.Machine

/-! ### The entry of one address changed, or put in an empty slot -/

/-- A change of one slot's entry that keeps what `f` asks changes what is found where the slot is the one found. -/
theorem findSome?_filter_modifySlot {α : Type} {f : α → Bool} {g : α → α} (h : ∀ a, f (g a) = f a) (xs : List (Option α))
    (i : Nat) : (modifySlot xs i g).findSome? (Option.filter f) =
      if findSlot f xs = some i then (xs.findSome? (Option.filter f)).map g else xs.findSome? (Option.filter f) := by
  induction xs generalizing i with
  | nil => simp [modifySlot, findSlot]
  | cons o xs ih =>
    cases i with
    | zero =>
      cases o with
      | none => simp [modifySlot, findSlot]
      | some a => cases hf : f a <;> simp [modifySlot, findSlot, Option.filter, h, hf]
    | succ i =>
      have ih := ih i
      simp only [modifySlot] at ih
      cases o with
      | none => simp [modifySlot, findSlot, ih]
      | some a => cases hf : f a <;> simp [modifySlot, findSlot, Option.filter, hf, ih]

section
variable {s : State} {addr i : Nat}

theorem nodeSlot_isSome (h : nodeSlot s addr = some i) : ∃ n, slotGet s.relay.nodes i = some n ∧ n.addr = addr ∧
    nodeOf s addr = some n := by
  obtain ⟨n, hn, ha⟩ := findSlot_isSome h
  exact ⟨n, hn, of_decide_eq_true ha, by rw [nodeOf, h]; exact hn⟩

theorem nodeOf_of_nodeSlot_none (h : nodeSlot s addr = none) : nodeOf s addr = none := by rw [nodeOf, h]; rfl

/-- A change of the slot that an address has changes that address's entry and no other. -/
theorem nodeOf_modNode {g : NodeEntry → NodeEntry} (hg : ∀ e, (g e).addr = e.addr) (h : nodeSlot s addr = some i)
    (other : Nat) : nodeOf (modNode i g s) other = if other = addr then (nodeOf s addr).map g else nodeOf s other := by
  have hfind := findSome?_filter_modifySlot (f := fun e : NodeEntry => decide (e.addr = other)) (g := g)
    (fun a => by rw [hg]) s.relay.nodes i
  have hslot : findSlot (fun e : NodeEntry => decide (e.addr = other)) s.relay.nodes = some i ↔ other = addr := by
    constructor
    · intro ho
      obtain ⟨n, hn, ha, -⟩ := nodeSlot_isSome h
      obtain ⟨m, hm, hb, -⟩ := nodeSlot_isSome (addr := other) ho
      obtain rfl : n = m := Option.some.inj (hn.symm.trans hm)
      exact hb.symm.trans ha
    · rintro rfl; exact h
  simp only [hslot] at hfind
  rw [nodeOf_eq, nodeOf_eq s other]
  refine hfind.trans ?_
  split
  · next ho => rw [ho, nodeOf_eq]
  · rfl

/-- An entry put in an empty slot, of an address that had none, is that address's entry. -/
theorem nodeOf_newNode {e : NodeEntry} (hi : s.relay.nodes[i]? = some none) (hn : nodeOf s e.addr = none) (other : Nat) :
    nodeOf (setNodes (s.relay.nodes.set i (some e)) s) other = if other = e.addr then some e else nodeOf s other := by
  have hset := findSome?_filter_set (f := fun n : NodeEntry => decide (n.addr = other)) (a := e) hi fun ho => by
    rw [← of_decide_eq_true ho, ← nodeOf_eq]; exact hn
  rw [nodeOf_eq, nodeOf_eq s other]
  refine hset.trans ?_
  by_cases ho : other = e.addr <;> simp [ho, eq_comm]

end

/-! ### Learning (R143, R145) -/

/-- The entry of an address that has been heard in a room segment, before its storm count moves. -/
def heardEntry (addr : Nat) (room : Room) (now : Nat) (old : Option NodeEntry) : NodeEntry :=
  { addr := addr, seg := room, heard := now, storm := (old.map (·.storm)).getD 0
    holdOffSent := (old.map (·.holdOffSent)).getD false, part := old.bind (·.part) }

/-- The relay counters after a source has been learned: LEARNED counts a new one, MIGRATED one of the other segment. -/
def learnedCtr (room : Room) (old : Option NodeEntry) (c : RelayCounters) : RelayCounters :=
  match old with
  | none => { c with learned := bump c.learned }
  | some n => if n.seg = room then c else { c with migrated := bump c.migrated }

/-- The relay unit that has learned a source: its entry and the counters, before the zone unit hears of it. -/
structure Learned (addr : Nat) (room : Room) (s : State) (r : Relay) : Prop where
  entry : nodeOf (s.setRelay r) addr = some (heardEntry addr room s.sec (nodeOf s addr))
  others : ∀ other, other ≠ addr → nodeOf (s.setRelay r) other = nodeOf s other
  ctr : r.ctr = learnedCtr room (nodeOf s addr) s.relay.ctr
  set : r.set = s.relay.set

section
variable {addr : Nat} {room : Room} {s : State}

theorem learn_new (hold : nodeOf s addr = none) (hempty : ∃ i : Nat, s.relay.nodes[i]? = some none) :
    ∃ r, Learned addr room s r ∧ learn addr room s = nodeChanged addr (s.setRelay r) := by
  obtain ⟨i, hi⟩ := hempty
  obtain ⟨j, hj⟩ := emptySlot_isSome hi
  have hslot : nodeSlot s addr = none := by
    cases h : nodeSlot s addr with
    | none => rfl
    | some k =>
      obtain ⟨n, -, -, hn⟩ := nodeSlot_isSome h
      rw [hold] at hn; cases hn
  have hnode := nodeOf_newNode (e := heardEntry addr room s.sec none) (emptySlot_spec hj) hold
  refine ⟨_, ⟨?_, fun other ho => ?_, ?_, ?_⟩, by rw [learn, hslot]; simp only [learnNew, hj]; rfl⟩
  · rw [hold]; exact (hnode addr).trans (if_pos rfl)
  · exact (hnode other).trans (if_neg ho)
  · rw [hold]; rfl
  · rfl

theorem learn_here {n : NodeEntry} (hold : nodeOf s addr = some n) (hseg : n.seg = room) :
    ∃ r, Learned addr room s r ∧ learn addr room s = s.setRelay r := by
  cases h : nodeSlot s addr with
  | none => rw [nodeOf_of_nodeSlot_none h] at hold; cases hold
  | some i =>
    obtain ⟨m, hget, ha, hm⟩ := nodeSlot_isSome h
    obtain rfl : m = n := Option.some.inj (hm.symm.trans hold)
    have hnode := nodeOf_modNode (g := fun e => { e with heard := s.sec }) (fun _ => rfl) h
    refine ⟨_, ⟨?_, fun other ho => ?_, ?_, ?_⟩, by rw [learn, h]; exact if_pos (by simp [hget, hseg])⟩
    · refine (hnode addr).trans ?_
      rw [if_pos rfl, hold, ← ha, ← hseg]; rfl
    · exact (hnode other).trans (if_neg ho)
    · rw [hold, learnedCtr, if_pos hseg]
    · rfl

theorem learn_migrates {n : NodeEntry} (hold : nodeOf s addr = some n) (hseg : n.seg ≠ room) :
    ∃ r, Learned addr room s r ∧ learn addr room s = nodeChanged addr (s.setRelay r) := by
  cases h : nodeSlot s addr with
  | none => rw [nodeOf_of_nodeSlot_none h] at hold; cases hold
  | some i =>
    obtain ⟨m, hget, ha, hm⟩ := nodeSlot_isSome h
    obtain rfl : m = n := Option.some.inj (hm.symm.trans hold)
    have hnode := nodeOf_modNode (g := fun e => { e with seg := room, heard := s.sec }) (fun _ => rfl) h
    refine ⟨_, ⟨?_, fun other ho => ?_, ?_, ?_⟩, by rw [learn, h]; exact if_neg (by simp [hget, hseg])⟩
    · refine (hnode addr).trans ?_
      rw [if_pos rfl, hold, ← ha]; rfl
    · exact (hnode other).trans (if_neg ho)
    · rw [hold, learnedCtr, if_neg hseg]; rfl
    · rfl

end

/-! ### The storm count (R148) -/

/-- The state after a source has been learned and its telegram counted. -/
def counted (addr : Nat) (room : Room) (s : State) : State := countStorm addr (learn addr room s)

/-- A source has been learned and its telegram counted, within the storm limit. -/
structure Counted (addr : Nat) (room : Room) (s t : State) : Prop where
  hears : Hears s t
  zone : t.zone = { s.zone with states := t.zone.states, wanting := t.zone.wanting }
  states : t.zone.states.length = s.zone.states.length
  entry : nodeOf t addr = some { heardEntry addr room s.sec (nodeOf s addr) with
    storm := bump8 (((nodeOf s addr).map (·.storm)).getD 0) }
  others : ∀ other, other ≠ addr → nodeOf t other = nodeOf s other
  ctr : t.relay.ctr = learnedCtr room (nodeOf s addr) s.relay.ctr
  set : t.relay.set = s.relay.set
  spare : ∀ n m, Spare room (n + 2) (m + 1) s → Spare room n m t
  here : (∃ n, nodeOf s addr = some n ∧ n.seg = room) → t = s.setRelay t.relay

section
variable {addr : Nat} {room : Room} {s : State}

theorem countStorm_nodeOf (addr other : Nat) (s : State) : nodeOf (countStorm addr s) other =
    if other = addr then (nodeOf s addr).map fun e => { e with storm := bump8 e.storm } else nodeOf s other := by
  refine (nodeOf_mapNodes_addr (g := fun e => { e with storm := bump8 e.storm }) (fun _ => rfl) s other).trans ?_
  split
  · next h => rw [h]
  · rfl

/-- A hand-over to the zone unit, or none, keeps the relay unit as learning left it. -/
theorem counted_of_learned {r : Relay} {t : State} (h : Learned addr room s r) (hr : t.relay = r) (ht : Hears s t)
    (hz : t.zone = { s.zone with states := t.zone.states, wanting := t.zone.wanting })
    (hlen : t.zone.states.length = s.zone.states.length)
    (hspare : ∀ n m, Spare room (n + 2) (m + 1) s → Spare room n m t)
    (hhere : (∃ n, nodeOf s addr = some n ∧ n.seg = room) → t = s.setRelay r) : Counted addr room s (countStorm addr t) where
  hears := ht.trans (setRelay_hears t _)
  zone := hz
  states := hlen
  entry := by
    rw [countStorm_nodeOf, if_pos rfl, nodeOf_congr (s := s.setRelay r) (congrArg Relay.nodes hr), h.entry]; rfl
  others other ho := by
    rw [countStorm_nodeOf, if_neg ho, nodeOf_congr (s := s.setRelay r) (congrArg Relay.nodes hr), h.others other ho]
  ctr := (congrArg Relay.ctr hr).trans h.ctr
  set := (congrArg Relay.set hr).trans h.set
  spare n m hs := (hspare n m hs).setRelay _
  here hn := by rw [hhere hn]; rfl

theorem nodeChanged_relay (addr : Nat) (s : State) : (nodeChanged addr s).relay = s.relay := by
  rcases nodeChanged_cases addr s with h | ⟨z, h⟩
  · rw [h]
  · rw [h]; exact (evaluateZones_dispatch [z] s).relay

theorem nodeChanged_zone (addr : Nat) (s : State) : (nodeChanged addr s).zone =
    { s.zone with states := (nodeChanged addr s).zone.states, wanting := (nodeChanged addr s).zone.wanting } := by
  rcases nodeChanged_cases addr s with h | ⟨z, h⟩
  · rw [h]
  · rw [h]; exact evaluateZones_zone_frame [z] s

theorem evaluateZones_states_length (zs : List Nat) (s : State) :
    (evaluateZones zs s).zone.states.length = s.zone.states.length := by
  rw [evaluateZones_zone]; simp [evaluated, numbered]

theorem nodeChanged_states_length (addr : Nat) (s : State) :
    (nodeChanged addr s).zone.states.length = s.zone.states.length := by
  rcases nodeChanged_cases addr s with h | ⟨z, h⟩
  · rw [h]
  · rw [h]; exact evaluateZones_states_length [z] s

theorem nodeChanged_hears (addr : Nat) (s : State) : Hears s (nodeChanged addr s) := by
  rcases nodeChanged_cases addr s with h | ⟨z, h⟩
  · rw [h]; exact .refl s
  · rw [h]; exact evaluateZones_hears [z] s

/-- A source in its own segment, on the other one, or not known with a slot empty, is learned and counted. -/
theorem counted_spec (hempty : nodeOf s addr = none → ∃ i : Nat, s.relay.nodes[i]? = some none) :
    Counted addr room s (counted addr room s) := by
  have changed (r : Relay) (hl : Learned addr room s r) (he : learn addr room s = nodeChanged addr (s.setRelay r))
      (hnot : ¬ ∃ n, nodeOf s addr = some n ∧ n.seg = room) : Counted addr room s (counted addr room s) := by
    rw [counted, he]
    exact counted_of_learned hl (nodeChanged_relay _ _) ((setRelay_hears s r).trans (nodeChanged_hears _ _))
      (nodeChanged_zone addr (s.setRelay r)) (nodeChanged_states_length addr (s.setRelay r))
      (fun n m hs => (hs.setRelay r).nodeChanged addr) fun hn => absurd hn hnot
  cases hold : nodeOf s addr with
  | none =>
    obtain ⟨r, hl, he⟩ := learn_new (room := room) hold (hempty hold)
    exact changed r hl he (by simp [hold])
  | some n =>
    by_cases hseg : n.seg = room
    · obtain ⟨r, hl, he⟩ := learn_here hold hseg
      rw [counted, he]
      exact counted_of_learned hl rfl (setRelay_hears s r) rfl rfl
        (fun n m hs => (hs.setRelay r).mono (Nat.le_add_right n 2) (Nat.le_succ m)) fun _ => rfl
    · obtain ⟨r, hl, he⟩ := learn_migrates hold hseg
      exact changed r hl he (by simp [hold, hseg])

theorem bump8_le (c : Nat) : bump8 c ≤ c + 1 := by unfold bump8; split <;> omega

/-- A telegram within the storm limit is resolved (R148, R151). -/
theorem takeFromRoom_eq {t : Telegram} (hcap : 0 < s.relay.set.nodeCap)
    (hstorm : ∀ n, nodeOf s t.src.toNat = some n → n.storm < s.relay.set.nodeCap)
    (hc : Counted t.src.toNat room s (counted t.src.toNat room s)) :
    takeFromRoom room t s = resolve room t (counted t.src.toNat room s) := by
  have hle : bump8 (((nodeOf s t.src.toNat).map (·.storm)).getD 0) ≤ s.relay.set.nodeCap := by
    refine (bump8_le _).trans ?_
    cases hold : nodeOf s t.src.toNat with
    | none => exact hcap
    | some n => exact hstorm n hold
  have hexcess : isExcess t.src.toNat (counted t.src.toNat room s) = false := by
    simp [isExcess, hc.entry, hc.set, hle]
  exact if_neg (ne_true_of_eq_false hexcess)

end

end Sys2Proof.Machine
end

section
/-! SUPPORT. A DEMAND at the zone unit: what it stores, evaluates and answers (R4 to R8, R17). -/

namespace Sys2Proof.Machine

/-! ### The plant state (R17) -/

/-- The plant state of R17 by the recovery and supervisor states of `s`, with CALL asserted or not. -/
def plantRow (s : State) (call : Bool) : PlantState :=
  if s.recov.state = .hardLock then .hardLock
  else if blocking s = true ∨ s.sup.state = .locked then .lockout
  else if s.sup.state = .inhibited then .fuelEmpty
  else if call then .heating
  else .idle

theorem plantState_eq (s : State) : plantState s = plantRow s (callAsserted s) := by
  simp only [plantState, plantRow, blocking, Bool.or_eq_true, decide_eq_true_eq]
  congr

theorem plantRow_congr {s t : State} (h : Hears s t) (call : Bool) : plantRow t call = plantRow s call := by
  simp only [plantRow, blocking, h.recov, h.locked, h.inhibited]
  congr

theorem plantState_of_hears {s t : State} (h : Hears s t) : plantState t = plantRow s (callAsserted t) :=
  (plantState_eq t).trans (plantRow_congr h _)

section
variable {s : State} (call : Bool)

theorem plantRow_hardLock (h : s.recov.state = .hardLock) : plantRow s call = .hardLock := if_pos h

theorem plantRow_lockout (h : s.recov.state ≠ .hardLock) (hl : blocking s = true ∨ s.sup.state = .locked) :
    plantRow s call = .lockout := (if_neg h).trans (if_pos hl)

theorem not_hardLock_of_not_blocking (h : blocking s = false) : s.recov.state ≠ .hardLock := by
  intro hr
  simp [blocking, hr] at h

theorem plantRow_fuelEmpty (hb : blocking s = false) (hi : s.sup.state = .inhibited) : plantRow s call = .fuelEmpty := by
  simp [plantRow, not_hardLock_of_not_blocking hb, hb, hi]

theorem plantRow_call (hb : blocking s = false) (hl : s.sup.state ≠ .locked) (hi : s.sup.state ≠ .inhibited) :
    plantRow s call = if call then .heating else .idle := by
  simp [plantRow, not_hardLock_of_not_blocking hb, hb, hl, hi]

end

theorem statusPlant_fst (a b : State) : ∃ i, (statusPlant a b).1 = b.setFreeIdx i := by
  unfold statusPlant
  split
  · exact ⟨b.freeIdx, rfl⟩
  · exact ⟨_, rfl⟩

/-- STATUS shows the plant state before the evaluation or after it (log 8). -/
theorem statusPlant_snd (a b : State) : (statusPlant a b).2 = plantState a ∨ (statusPlant a b).2 = plantState b := by
  unfold statusPlant
  split
  · exact .inr rfl
  · dsimp only
    split
    · exact .inr rfl
    · exact .inl rfl

/-! ### The demand part stored and evaluated (R4, R8) -/

/-- The demand part of an address replaced. -/
def storedPart (addr : Nat) (part : DemandPart) (s : State) : State :=
  mapNodes (fun n => if n.addr = addr then { n with part := some part } else n) s

/-- The demand part stored, its zone evaluated and the buffer of the DEMAND returned. -/
def evaluatedPart (addr z : Nat) (part : DemandPart) (s : State) : State :=
  returnBuffer (evaluateZones [z] (storedPart addr part s))

/-- The STATUS of a DEMAND composed from the states before and after its evaluation (R17). -/
def answered (room : Room) (dest : Byte) (z e : Nat) (calling : Bool) (before after : State) : State :=
  let shown := statusPlant before after
  (generate (roomPort room)
    (statusTel dest z (shown.1.zone.states.getD z .unused) e calling shown.2 shown.1.acct.tank) .plain shown.1).1

theorem takeDemand_taken {room : Room} {t : Telegram} {s : State} {d : Demand} {z : Nat} {ze : ZoneEntry} {e : Nat}
    {part : DemandPart} (hd : readDemand t.payload = some d) (hz : unitZone s t.src.toNat = some z)
    (hze : s.zone.table[z]? = some ze)
    (he : effectiveSetpoint s.acct.tank s.zone.setback ze (d.setpoint.getD ze.setpoint) = e)
    (hp : demandPart ze d e s.sec ((nodeOf s t.src.toNat).bind (·.part)) = part) :
    takeDemand room t s = answered room t.src z e part.calling (storedPart t.src.toNat part s)
      (evaluatedPart t.src.toNat z part s) := by
  subst he hp
  simp only [takeDemand, hd, hz, hze, Option.bind_some, Option.map_some]
  rfl

section
variable {addr z : Nat} {part : DemandPart} {room : Room} {s : State}

theorem nodeOf_storedPart (other : Nat) : nodeOf (storedPart addr part s) other =
    if other = addr then (nodeOf s other).map fun n => { n with part := some part } else nodeOf s other :=
  nodeOf_mapNodes_addr (g := fun n => { n with part := some part }) (fun _ => rfl) s other

theorem evaluatedPart_hears : Hears s (evaluatedPart addr z part s) :=
  ((setRelay_hears s _).trans (evaluateZones_hears [z] _)).trans (returnBuffer_offers _).finishes.hears

theorem evaluatedPart_relay : (evaluatedPart addr z part s).relay = (storedPart addr part s).relay :=
  (returnBuffer_offers _).relay.trans (evaluateZones_dispatch [z] _).relay

theorem evaluatedPart_zone : (evaluatedPart addr z part s).zone = (evaluated [z] (storedPart addr part s)).zone :=
  (returnBuffer_offers _).zone.trans (evaluateZones_zone [z] _)

theorem evaluatedPart_settled : NoticeSettled (evaluatedPart addr z part s) :=
  (returnBuffer_offers _).noticeSettled (evaluateZones_settled [z] _)

theorem Spare.evaluatedPart {n m : Nat} (h : Spare room (n + 2) (m + 1) s) : Spare room n m (evaluatedPart addr z part s) :=
  ((h.setRelay _).evaluateZones [z]).returnBuffer

end

/-! ### The answer -/

/-- With a buffer and a place to spare the STATUS joins the queue, and the end of the command adds nothing to it. -/
theorem finish_status {room : Room} {s : State} (h : Spare room 2 1 s) (hn : NoticeSettled s) (tel : Telegram) :
    ((finish (generate (roomPort room) tel .plain s).1).port (roomPort room)).queue =
      (s.port (roomPort room)).queue ++ [{ tel := tel, mark := .plain }] := by
  have hfree := h.free
  have hplace := h.place
  have hspare : Spare room 1 0 (generate (roomPort room) tel .plain s).1 :=
    Spare.generate (m := 0) (by rw [if_pos rfl]; exact h) tel .plain
  rw [finish_room_port room ((generate_offers _ _ _ _).noticeSettled hn) hspare.held hspare.free,
    generate_joins (roomPort room) tel .plain s (by omega) (.inr (by omega)) h.mode (by omega), port_setPort_self]

/-- A room unit's DEMAND has been answered: what the command leaves of the state `s` in which its part was to be stored. -/
structure Answered (room : Room) (dest : Byte) (z e : Nat) (part : DemandPart) (s u : State) : Prop where
  hears : ∃ i, Hears (s.setFreeIdx i) u
  relay : u.relay = (storedPart dest.toNat part s).relay
  zone : u.zone = { s.zone with states := u.zone.states, wanting := u.zone.wanting }
  state : z < s.zone.states.length → u.zone.states[z]? = some (zoneStateOf u z)
  status : ∃ its call, (callAsserted u = callAsserted s → call = callAsserted s) ∧
    (Spare room 4 2 s → (u.port (roomPort room)).queue = (s.port (roomPort room)).queue ++ its ++
      [{ tel := statusTel dest z (u.zone.states.getD z .unused) e part.calling (plantRow s call) s.acct.tank
         mark := .plain }])

theorem answered_spec (room : Room) (dest : Byte) (z e : Nat) (part : DemandPart) (s : State) :
    Answered room dest z e part s (finish (answered room dest z e part.calling (storedPart dest.toNat part s)
      (evaluatedPart dest.toNat z part s))) := by
  set before := storedPart dest.toNat part s
  set after := evaluatedPart dest.toNat z part s
  have hears : Hears s after := evaluatedPart_hears
  obtain ⟨i, hi⟩ := statusPlant_fst before after
  have hfin : Finishes (after.setFreeIdx i) (finish (answered room dest z e part.calling before after)) := by
    rw [← hi]; exact (generate_offers _ _ _ _).finishes.trans (finish_finishes _)
  set u := finish (answered room dest z e part.calling before after)
  have hshift : Hears (s.setFreeIdx i) (after.setFreeIdx i) :=
    ⟨⟨hears.clock.1, hears.clock.2.1, rfl⟩, hears.recov, hears.vol, hears.acct, hears.stores, hears.nodes, hears.ports,
      hears.locked, hears.inhibited⟩
  have hrelay : u.relay = before.relay := hfin.relay.trans evaluatedPart_relay
  have hzone : u.zone = (evaluated [z] before).zone := hfin.zone.trans evaluatedPart_zone
  have hcall : callAsserted u = callAsserted after := by simp only [callAsserted, hfin.sup]; rfl
  obtain ⟨its, _, _, hport⟩ := hears.ports.port (roomPort room)
  obtain ⟨call, hplant, hc⟩ : ∃ call, (statusPlant before after).2 = plantRow s call ∧
      (callAsserted u = callAsserted s → call = callAsserted s) := by
    rcases statusPlant_snd before after with h | h
    · exact ⟨_, h.trans (plantState_of_hears (setRelay_hears s _)), fun _ => rfl⟩
    · exact ⟨_, h.trans (plantState_of_hears hears), fun hu => hcall.symm.trans hu⟩
  refine ⟨⟨i, hshift.trans hfin.hears⟩, hrelay, by rw [hzone]; rfl,
    state_of_evaluated (s := before) hzone hrelay (List.mem_singleton_self z), its, call, hc, fun hs => ?_⟩
  have hspare : Spare room 2 1 (after.setFreeIdx i) := (Spare.evaluatedPart hs).congr rfl rfl rfl
  have hnotice : NoticeSettled (after.setFreeIdx i) := evaluatedPart_settled
  have hqueue : ((after.setFreeIdx i).port (roomPort room)).queue = (s.port (roomPort room)).queue ++ its := by
    have : (after.setFreeIdx i).port (roomPort room) = after.port (roomPort room) := by cases room <;> rfl
    rw [this, hport]
  have htank : (after.setFreeIdx i).acct.tank = s.acct.tank := congrArg (·.tank) hears.acct
  have hstates : (after.setFreeIdx i).zone = u.zone := hfin.zone.symm
  have hshown : answered room dest z e part.calling before after =
      (generate (roomPort room) (statusTel dest z ((after.setFreeIdx i).zone.states.getD z .unused) e part.calling
        (plantRow s call) (after.setFreeIdx i).acct.tank) .plain (after.setFreeIdx i)).1 := by
    simp only [answered, hi, hplant]
  rw [hstates, htank] at hshown
  rw [← hqueue, ← finish_status hspare hnotice]
  exact congrArg (fun w => ((finish w).port (roomPort room)).queue) hshown

end Sys2Proof.Machine
end

section
/-! A DEMAND received in a room segment, stored and answered or refused (R4 to R8, R17). -/

namespace Sys2Proof.Machine

/-! ### A DEMAND refused (R5, R8) -/

/-- BAD_DEMAND or UNENROLLED counted. -/
def refusedDemand (bad : Bool) (s : State) : State :=
  s.setZone (if bad then { s.zone with badDemand := bump s.zone.badDemand }
    else { s.zone with unenrolled := bump s.zone.unenrolled })

theorem takeDemand_refused {room : Room} {t : Telegram} {bad : Bool} {s : State}
    (hbad : bad = decide (t.payload.length ≠ 3 ∧ t.payload.length ≠ 5)) (h : bad = true ∨ unitZone s t.src.toNat = none) :
    takeDemand room t s = returnBuffer (refusedDemand bad s) := by
  have hlen : readDemand t.payload = none ↔ bad = true := by rw [readDemand_eq_none_iff, hbad, decide_eq_true_iff]
  cases hr : readDemand t.payload with
  | none =>
    rw [hlen.mp hr, takeDemand, hr]; rfl
  | some d =>
    have hb : bad = false := by
      rw [Bool.eq_false_iff]
      intro hb
      rw [hlen.mpr hb] at hr
      cases hr
    have hz : unitZone s t.src.toNat = none := h.resolve_left (by simp [hb])
    simp only [takeDemand, hr, hz, hb, Option.bind_none]
    rfl

theorem refusedDemand_zone (bad : Bool) (s : State) : (refusedDemand bad s).zone =
    { s.zone with badDemand := if bad then bump s.zone.badDemand else s.zone.badDemand
                  unenrolled := if bad then s.zone.unenrolled else bump s.zone.unenrolled } := by
  cases bad <;> rfl

/-- With nothing left over and the pool away from its threshold, a refused DEMAND moves its counter and returns its buffer. -/
theorem finish_refused_settled {bad : Bool} {s : State} (h : Settled s) (hp : s.pool.held = false ∨ s.pool.free < 13) :
    finish (returnBuffer (refusedDemand bad s)) = setFree (s.pool.free + 1) (refusedDemand bad s) := by
  have hcalm : returnBuffer (refusedDemand bad s) = setFree (s.pool.free + 1) (refusedDemand bad s) :=
    returnBuffer_calm (hp.imp_right fun h => Nat.succ_lt_succ h)
  have hstates : (refusedDemand bad s).zone.states = s.zone.states := by rw [refusedDemand_zone]
  have hset : Settled (setFree (s.pool.free + 1) (refusedDemand bad s)) :=
    h.congr rfl (enabledSet_congr rfl rfl rfl hstates rfl rfl rfl rfl rfl rfl) rfl rfl
  rw [hcalm, finish_of_settled hset]

/-! ### The command -/

theorem resolve_demand {room : Room} {t : Telegram} (hdest : t.dest = 0) (hkind : t.kind = 0x11) (s : State) :
    resolve room t s = takeDemand room t s := by
  have hown : ownKind t.kind = false := by rw [hkind]; decide
  rw [resolve, if_neg (by simp [hown]), if_pos hdest]
  exact if_pos hkind

/-- A DEMAND within its source's storm limit is taken by the zone unit once its source is learned and counted. -/
theorem exec_demand {room : Room} {start : Nat} {t : Telegram} {s : State}
    (hasm : (s.port (roomPort room)).asm = some { hasBuffer := true, start := start })
    (hsilent : (s.port (roomPort room)).phase ≠ .sending) (hsent : WellSent t) (hdest : t.dest = 0) (hkind : t.kind = 0x11)
    (hcap : 0 < s.relay.set.nodeCap) (hstorm : ∀ n, nodeOf s t.src.toNat = some n → n.storm < s.relay.set.nodeCap)
    (hempty : nodeOf s t.src.toNat = none → ∃ i : Nat, s.relay.nodes[i]? = some none) :
    ∃ c, Counted t.src.toNat room (delivered room s) c ∧
      exec (.rxTelegramEnd (roomPort room) (received t)) s = .next (finish (takeDemand room t c)) := by
  have hrelay : (delivered room s).relay = s.relay := by cases room <;> rfl
  have hnode : nodeOf (delivered room s) t.src.toNat = nodeOf s t.src.toNat := nodeOf_congr (by rw [hrelay]) _
  have hc : Counted t.src.toNat room (delivered room s) (counted t.src.toNat room (delivered room s)) :=
    counted_spec (by rw [hnode, hrelay]; exact hempty)
  refine ⟨_, hc, ?_⟩
  rw [exec_received hasm hsilent hsent, takeFromRoom_eq (by rw [hrelay]; exact hcap) (by rw [hnode, hrelay]; exact hstorm) hc,
    resolve_demand hdest hkind]

/-- The state that hands over a telegram differs in its ports alone, and its room port keeps its mode and queue. -/
theorem delivered_parts (room : Room) (s : State) : ∃ h y p,
    delivered room s = { s with portH := h, portY := y, portP := p } ∧
      ((delivered room s).port (roomPort room)).mode = (s.port (roomPort room)).mode ∧
      ((delivered room s).port (roomPort room)).queue = (s.port (roomPort room)).queue ∧
      (Settled s → Settled (delivered room s)) := by
  cases room
  · exact ⟨_, _, _, rfl, rfl, rfl, fun h => h.congr rfl rfl rfl rfl⟩
  · exact ⟨_, _, _, rfl, rfl, rfl, fun h => h.congr rfl rfl rfl rfl⟩

/-- Settles O9: the DEMAND passes the port, learning and the storm count; the zone unit stores its part, evaluates its zone and
answers, or counts why it refuses. -/
theorem demandIsStored : Obligations.DemandIsStored := by
  intro room start t old ctr s hasm hsilent hsent hdest hkind hcap hold hstorm hempty hctr
  obtain rfl : ctr = learnedCtr room old s.relay.ctr := by rw [hctr]; cases old <;> rfl
  clear hctr
  subst hold
  obtain ⟨c, hc, hexec⟩ := exec_demand hasm hsilent hsent hdest hkind hcap hstorm hempty
  obtain ⟨pH, pY, pP, hv, hmode, hqueue, hsettled⟩ := delivered_parts room s
  generalize delivered room s = v at *
  subst hv
  have hmem : unitZone c t.src.toNat = unitZone s t.src.toNat := unitZone_congr (by rw [hc.zone]) _
  refine ⟨?_, fun bad hbad hrefuse => ?_⟩
  · intro x y flags given z ze temp setpoint e0 e part hx hx' hy hy' hgiven hpay htemp hset hz hze he0 he hpart
    have hd := hpay ▸ readDemand_eq (flags := flags) hx hx' hy hy' hgiven
    have htank : c.acct.tank = s.acct.tank := congrArg (·.tank) hc.hears.acct
    have hsec : c.sec = s.sec := hc.hears.clock.sec
    have hback : c.zone.setback = s.zone.setback := by rw [hc.zone]
    have htake := takeDemand_taken (room := room) (e := e) (part := part) hd (hmem.trans hz) (by rw [hc.zone]; exact hze)
      (by rw [effectiveSetpoint_eq, htank, hback, he, he0, hset])
      (by rw [hc.entry, hsec, hpart, htemp, hset]; rfl)
    rw [htake] at hexec
    have ha := answered_spec room t.src z e part c
    generalize finish _ = u at ha hexec
    obtain ⟨i, hears⟩ := ha.hears
    obtain ⟨its, call, hcall, hstatus⟩ := ha.status
    obtain ⟨its0, _, _, hport⟩ := hc.hears.ports.port (roomPort room)
    have hrow : plantRow c call = plantRow s call := plantRow_congr hc.hears call
    refine ⟨u, its0 ++ its, (plantRow s call).code, hexec, ?_, fun other ho => ?_, fun hl => ?_, fun hm hq hh hf => ?_,
      fun hr => ?_, fun hr hl => ?_, fun hb hi => ?_, fun hb hl hi => ⟨?_, fun hhere hsame => ?_⟩, ?_⟩
    · rw [nodeOf_congr (congrArg Relay.nodes ha.relay), nodeOf_storedPart, if_pos rfl, hc.entry]; rfl
    · rw [nodeOf_congr (congrArg Relay.nodes ha.relay), nodeOf_storedPart, if_neg ho, hc.others other ho]; rfl
    · exact ha.state (by rw [hc.states]; exact hl)
    · have hspare : Spare room 6 3 { s with portH := pH, portY := pY, portP := pP } :=
        ⟨hh, by simp only [holdThreshold]; omega, hmode.trans hm, by rw [hqueue]; simp only [queueCap]; omega⟩
      rw [hstatus (hc.spare 4 2 hspare), hport, ← hrow, ← List.append_assoc, hqueue, htank]; rfl
    · rw [plantRow_hardLock call hr]; rfl
    · rw [plantRow_lockout call hr hl]; rfl
    · rw [plantRow_fuelEmpty call hb hi]; rfl
    · rw [plantRow_call call hb hl hi]; cases call <;> simp [PlantState.code]
    · have hsup : callAsserted c = callAsserted s := by rw [hc.here hhere]; rfl
      rw [plantRow_call call hb hl hi, hcall (hsame.trans hsup.symm), hsup]
      cases callAsserted s <;> rfl
    · exact ⟨hears.clock.1.trans hc.hears.clock.1, hears.clock.2.1.trans hc.hears.clock.2.1,
        hears.recov.trans hc.hears.recov, hears.vol.trans hc.hears.vol, hears.acct.trans hc.hears.acct,
        hc.hears.stores.trans hears.stores, hc.hears.nodes.trans hears.nodes, (congrArg Relay.ctr ha.relay).trans hc.ctr,
        by rw [ha.zone, hc.zone], by rw [ha.zone, hc.zone], by rw [ha.zone, hc.zone], by rw [ha.zone, hc.zone],
        by rw [ha.zone, hc.zone]⟩
  · rw [takeDemand_refused hbad (hrefuse.imp_right hmem.trans)] at hexec
    have hfin : Finishes (refusedDemand bad c) (finish (returnBuffer (refusedDemand bad c))) :=
      (returnBuffer_offers _).finishes.trans (finish_finishes _)
    have hears := (hc.hears.trans (setZone_hears c _)).trans hfin.hears
    have hzone := hfin.zone.trans (refusedDemand_zone bad c)
    have hnode := fun a => (hfin.nodeOf a).trans (nodeOf_congr (s := c) rfl a)
    refine ⟨_, hexec, ?_, fun other ho => ?_, ?_, ?_, hears.clock, hears.recov, hears.vol, hears.acct, hears.stores,
      hears.nodes, (congrArg Relay.ctr hfin.relay).trans hc.ctr, ?_, ?_, fun hs hhere hp => ?_⟩
    · exact (hnode _).trans hc.entry
    · exact (hnode other).trans (hc.others other ho)
    · rw [hzone, hc.zone]
    · rw [hzone, hc.zone]
    · rw [hzone, hc.zone]
    · rw [hzone, hc.zone]
    · obtain ⟨r, rfl⟩ : ∃ r, c = State.setRelay { s with portH := pH, portY := pY, portP := pP } r := ⟨_, hc.here hhere⟩
      have hcset := (hsettled hs).congr (t := State.setRelay { s with portH := pH, portY := pY, portP := pP } r) rfl rfl rfl rfl
      rw [finish_refused_settled hcset hp]
      exact ⟨by cases bad <;> rfl, rfl, rfl, rfl, rfl, rfl, hqueue⟩

end Sys2Proof.Machine
end

section
/-! SUPPORT. What the soundness of the supervisor rests on, taken out of the state (`Standing`): what leaves it as it is keeps
the supervisor sound (R16, R27, R31, R37, R38). -/

namespace Sys2Proof.Machine

/-! ### The standing of the supervisor -/

/-- What CALL rests on: the recovery state, the tank state, the supervisor's state and sets, the zone unit's wanting-heat set,
the zone table, and what each valve entry of the poll list last reported. -/
structure Standing where
  recov : RecState
  tank : TankState
  state : SupState
  wanting : List Nat
  served : List Nat
  zones : List Nat
  table : List ZoneEntry
  valves : List (Option (Nat × Option Reported))

/-- What the supervisor sees of a poll-list entry: its address and, of a valve, the reported position. -/
def valveSight (e : PollEntry) : Nat × Option Reported := (e.addr, e.valve?.map (·.reported))

/-- The standing of a state. -/
def standing (s : State) : Standing :=
  { recov := s.recov.state, tank := s.acct.tank, state := s.sup.state, wanting := s.sup.wanting, served := s.sup.served
    zones := s.zone.wanting, table := s.zone.table, valves := s.sched.slots.map (Option.map valveSight) }

namespace Standing

/-- The recovery unit blocks (R44). -/
def blocks (p : Standing) : Bool := !(p.recov = .closed || p.recov = .proving)

/-- CALL is asserted (R31). -/
def call (p : Standing) : Bool := p.state = .calling || p.state = .firing || p.state = .holding

/-- The valve at an address last reported OPEN. -/
def opened (p : Standing) (addr : Nat) : Bool :=
  (p.valves.findSome? (Option.filter fun v => v.1 = addr && v.2.isSome)).any fun v => v.2 = some .opened

/-- The circuit of a zone is open to boiler water (R27). -/
def heat (p : Standing) (z : Nat) : Bool := ((p.table[z]?).bind (·.valve)).all p.opened

/-- The zone is in use. -/
def inUse (p : Standing) (z : Nat) : Bool := (p.table[z]?).any fun e => e.cls ≠ .unused

/-- A path exists (R27). -/
def hasPath (p : Standing) : Bool := (List.range p.table.length).any fun z => p.inUse z && p.heat z

/-- The standing with the recovery state replaced. -/
def withRecov (p : Standing) (r : RecState) : Standing := { p with recov := r }
/-- The standing with the tank state replaced. -/
def withTank (p : Standing) (t : TankState) : Standing := { p with tank := t }
/-- The standing with the supervisor's state replaced. -/
def withState (p : Standing) (st : SupState) : Standing := { p with state := st }
/-- The standing with the zone unit's wanting-heat set replaced. -/
def withZones (p : Standing) (w : List Nat) : Standing := { p with zones := w }
/-- The standing with the supervisor's wanting-heat set replaced. -/
def withWanting (p : Standing) (w : List Nat) : Standing := { p with wanting := w }
/-- The standing with what the valves reported replaced. -/
def withValves (p : Standing) (v : List (Option (Nat × Option Reported))) : Standing := { p with valves := v }
/-- The standing with the zone table replaced. -/
def withTable (p : Standing) (t : List ZoneEntry) : Standing := { p with table := t }
/-- The standing with the served set brought up to date (R27). -/
def reserved (p : Standing) : Standing := { p with served := p.wanting.filter p.heat }

/-- The supervisor is LOCKED while the recovery unit blocks, and LOCKED or INHIBITED while the tank is EMPTY (R37, R38). -/
structure Guarded (p : Standing) : Prop where
  locked : p.blocks = true → p.state = .locked
  inhibited : p.tank = .empty → p.state = .locked ∨ p.state = .inhibited

/-- The supervisor's sets follow the zone unit and the valves, and CALL has a path (R16, R27, R31). -/
structure Dispatched (p : Standing) : Prop where
  handed : p.wanting = p.zones
  inUse : ∀ z ∈ p.wanting, p.inUse z = true
  served : p.served = p.wanting.filter p.heat
  path : p.call = true → p.hasPath = true

/-- The standing of a sound supervisor. -/
structure Sound (p : Standing) : Prop where
  guarded : p.Guarded
  dispatched : p.Dispatched

end Standing

/-! ### The model's functions of the standing -/

theorem valveAt_eq (s : State) (addr : Nat) : valveAt s addr =
    (s.sched.slots.findSome? (Option.filter fun e => e.addr = addr && !e.isGauge)).bind PollEntry.valve? := by
  rw [← findSlot_bind_slotGet, Option.bind_assoc]; rfl

/-- The first valve entry of an address is found by what the supervisor sees of it. -/
theorem findSome?_valveSight (addr : Nat) (slots : List (Option PollEntry)) :
    (slots.map (Option.map valveSight)).findSome? (Option.filter fun v => v.1 = addr && v.2.isSome) =
      (slots.findSome? (Option.filter fun e => e.addr = addr && !e.isGauge)).map valveSight := by
  induction slots with
  | nil => rfl
  | cons o slots ih =>
    cases o with
    | none => simpa using ih
    | some e =>
      have hsee : ((valveSight e).1 = addr && (valveSight e).2.isSome) = (e.addr = addr && !e.isGauge) := by
        cases hr : e.role <;> simp [valveSight, PollEntry.valve?, PollEntry.isGauge, hr]
      cases hf : (decide (e.addr = addr) && !e.isGauge) <;>
        simp [Option.filter, hsee, hf, ih]

theorem opened_eq (s : State) (addr : Nat) :
    (valveAt s addr).any (fun r => r.reported = .opened) = (standing s).opened addr := by
  rw [valveAt_eq, Standing.opened, standing, findSome?_valveSight]
  cases s.sched.slots.findSome? (Option.filter fun e => e.addr = addr && !e.isGauge) with
  | none => rfl
  | some e => cases hv : e.valve? <;> simp [valveSight, hv]

theorem heatPath_eq (s : State) : heatPath s = (standing s).heat := by
  funext z
  have hv : zoneValve s z = ((standing s).table[z]?).bind (·.valve) := rfl
  unfold heatPath Standing.heat
  rw [← hv]
  cases zoneValve s z with
  | none => rfl
  | some addr => exact opened_eq s addr

theorem zoneInUse_eq (s : State) (z : Nat) : zoneInUse s z = (standing s).inUse z := rfl

theorem servedOf_eq (s : State) (w : List Nat) : servedOf s w = w.filter (standing s).heat := by
  rw [servedOf, heatPath_eq]

theorem pathExists_eq (s : State) : pathExists s = (standing s).hasPath := by
  unfold pathExists Standing.hasPath
  rw [heatPath_eq]; rfl

theorem callAsserted_eq (s : State) : callAsserted s = (standing s).call := rfl

/-- The supervisor of a state is sound exactly if its standing is. -/
theorem supervisorSound_iff (s : State) : SupervisorSound s ↔ (standing s).Sound := by
  constructor
  · intro ⟨hl, hi, hh, hu, hs, hp⟩
    rw [servedOf_eq] at hs
    rw [pathExists_eq] at hp
    exact ⟨⟨hl, hi⟩, ⟨hh, hu, hs, hp⟩⟩
  · intro ⟨⟨hl, hi⟩, ⟨hh, hu, hs, hp⟩⟩
    refine ⟨hl, hi, hh, hu, ?_, ?_⟩
    · rw [servedOf_eq]; exact hs
    · rw [pathExists_eq]; exact hp

end Sys2Proof.Machine
end

section
/-! SUPPORT. What leaves the standing of the supervisor as it is: the setters of the other blocks, offers and notices, valve
commands, and the parts of the recovery, oil, relay and management units that CALL does not rest on. -/

namespace Sys2Proof.Machine

/-! ### Setters, offers and notices -/

theorem standing_congr {s t : State} (hr : t.recov.state = s.recov.state) (ha : t.acct.tank = s.acct.tank)
    (hs : t.sup.state = s.sup.state) (hw : t.sup.wanting = s.sup.wanting) (hv : t.sup.served = s.sup.served)
    (hz : t.zone.wanting = s.zone.wanting) (ht : t.zone.table = s.zone.table)
    (hn : t.sched.slots.map (Option.map valveSight) = s.sched.slots.map (Option.map valveSight)) :
    standing t = standing s := by
  simp only [standing, hr, ha, hs, hw, hv, hz, ht, hn]

theorem KeepsNodes.sights {s t : State} (h : KeepsNodes s t) :
    t.sched.slots.map (Option.map valveSight) = s.sched.slots.map (Option.map valveSight) := by
  have hf : (fun n : Nat × Nat × Bool × Nat × Nat × Option (Reported × Bool) => (n.1, n.2.2.2.2.2.map (·.1))) ∘ nodeSeen =
      valveSight := by
    funext e
    cases hv : e.valve? <;> simp [nodeSeen, valveSight, hv]
  have hm := congrArg (List.map (Option.map
    fun n : Nat × Nat × Bool × Nat × Nat × Option (Reported × Bool) => (n.1, n.2.2.2.2.2.map (·.1)))) h
  simpa only [List.map_map, Option.map_comp_map, hf] using hm

theorem Finishes.standing {s t : State} (h : Finishes s t) : standing t = standing s :=
  standing_congr (by rw [h.recov]) (by rw [h.acct]) (by rw [h.sup]) (by rw [h.sup]) (by rw [h.sup]) (by rw [h.zone])
    (by rw [h.zone]) h.keepsNodes.sights

theorem Offers.standing {s t : State} (h : Offers s t) : standing t = standing s := h.finishes.standing

section
variable (s : State)

@[simp] theorem standing_setNow (v : Nat) : standing (s.setNow v) = standing s := rfl
@[simp] theorem standing_setPool (v : Pool) : standing (s.setPool v) = standing s := rfl
@[simp] theorem standing_setRelay (v : Relay) : standing (s.setRelay v) = standing s := rfl
@[simp] theorem standing_setLevel (v : Level) : standing (s.setLevel v) = standing s := rfl
@[simp] theorem standing_setVol (v : Volume) : standing (s.setVol v) = standing s := rfl
@[simp] theorem standing_setMgmt (v : Management) : standing (s.setMgmt v) = standing s := rfl
@[simp] theorem standing_setNv (v : NonVolatile) : standing (s.setNv v) = standing s := rfl
@[simp] theorem standing_setFreeIdx (v : Nat) : standing (s.setFreeIdx v) = standing s := rfl
@[simp] theorem standing_setPending (v : List Instr) : standing (s.setPending v) = standing s := rfl
@[simp] theorem standing_setPort (port : Port) (v : PortState) : standing (s.setPort port v) = standing s := by
  cases port <;> rfl
@[simp] theorem standing_modPort (port : Port) (f : PortState → PortState) : standing (s.modPort port f) = standing s :=
  standing_setPort s port _
@[simp] theorem standing_countPort (port : Port) (f : PortCounters → PortCounters) :
    standing (s.countPort port f) = standing s :=
  standing_modPort s port _

@[simp] theorem standing_takeBuffer : standing (takeBuffer s) = standing s := (takeBuffer_offers s).standing
@[simp] theorem standing_returnBuffer : standing (returnBuffer s) = standing s := (returnBuffer_offers s).standing
@[simp] theorem standing_returnBuffers (n : Nat) : standing (returnBuffers n s) = standing s :=
  (returnBuffers_offers n s).standing
@[simp] theorem standing_broadcastHoldOff (n : Nat) : standing (broadcastHoldOff n s) = standing s :=
  (broadcastHoldOff_offers n s).standing
@[simp] theorem standing_generate (port : Port) (t : Telegram) (m : QMark) : standing (generate port t m s).1 = standing s :=
  (generate_offers port t m s).standing
@[simp] theorem standing_moveToQueue (port : Port) (t : Telegram) (m : QMark) :
    standing (moveToQueue port t m s).1 = standing s :=
  (moveToQueue_offers port t m s).standing
@[simp] theorem standing_dropHead (port : Port) : standing (dropHead port s) = standing s := by simp [dropHead]
@[simp] theorem standing_composeNotices : standing (composeNotices s) = standing s := (composeNotices_offers s).standing
@[simp] theorem standing_settleNotices : standing (settleNotices s) = standing s :=
  (settleNotices_reports s).finishes.standing
@[simp] theorem standing_raiseEvent (k : Notice) : standing (raiseEvent k s) = standing s := by simp [raiseEvent]
@[simp] theorem standing_respond (room : Room) (src op obj idx : Byte) (r : Reply) :
    standing (respond room src op obj idx r s) = standing s :=
  (respond_offers room src op obj idx r s).standing
@[simp] theorem standing_finish : standing (finish s) = standing s := (finish_finishes s).standing

/-! ### The poll scheduler -/

@[simp] theorem standing_countSched (f : SchedCounters → SchedCounters) : standing (countSched f s) = standing s := rfl
@[simp] theorem standing_countRequest (k : ExKind) : standing (countRequest k s) = standing s :=
  (countRequest_finishes k s).standing
@[simp] theorem standing_wakeSched : standing (wakeSched s) = standing s := rfl
@[simp] theorem standing_endExchange : standing (endExchange s) = standing s := rfl
@[simp] theorem standing_openWindow : standing (openWindow s) = standing s := rfl
@[simp] theorem standing_orphanRequests : standing (orphanRequests s) = standing s := standing_modPort s _ _

/-- A slot's entry changed, with what the supervisor sees of it kept. -/
theorem standing_modEntry_at {f : PollEntry → PollEntry} {slot : Nat}
    (h : ∀ e, slotGet s.sched.slots slot = some e → valveSight (f e) = valveSight e) :
    standing (modEntry slot f s) = standing s := by
  refine standing_congr rfl rfl rfl rfl rfl rfl rfl (List.ext_getElem? fun j => ?_)
  simp only [modEntry, setSlots, State.setSched_sched, modifySlot, List.getElem?_map, List.getElem?_modify]
  by_cases hj : slot = j
  · subst hj
    cases hx : s.sched.slots[slot]? with
    | none => rfl
    | some o =>
      cases o with
      | none => simp
      | some e => simp [h e (slotGet_eq_some.mpr hx)]
  · simp [hj]

theorem standing_modEntry {f : PollEntry → PollEntry} (h : ∀ e, valveSight (f e) = valveSight e) (slot : Nat) :
    standing (modEntry slot f s) = standing s :=
  standing_modEntry_at s fun e _ => h e

@[simp] theorem standing_redecide (slot : Nat) : standing (redecide slot s) = standing s := by
  have h : standing (modEntry slot decideDue s) = standing s := standing_modEntry s (f := decideDue) (fun _ => rfl) slot
  unfold redecide
  dsimp only
  split <;> simp [h]

@[simp] theorem standing_failExchange : standing (failExchange s) = standing s := by
  unfold failExchange
  split
  · rfl
  · split <;> simp

@[simp] theorem standing_retryExchange (x : Exchange) : standing (retryExchange x s) = standing s := by
  have h := standing_generate s .p (requestTel x.kind x.node) .request
  unfold retryExchange
  split
  · next e => rw [e] at h; simpa using h
  · next s' e =>
    rw [e] at h
    exact (standing_countRequest s' x.kind).trans h

theorem valveSight_modValve {f : ValveRecord → ValveRecord} (h : ∀ r, (f r).reported = r.reported) (e : PollEntry) :
    valveSight (e.modValve f) = valveSight e := by
  obtain ⟨_, _ | r⟩ := e
  · rfl
  · simp [valveSight, PollEntry.modValve, PollEntry.valve?, h]

@[simp] theorem standing_pReturn : standing (pReturn s) = standing s := by
  refine standing_congr rfl rfl rfl rfl rfl rfl rfl ?_
  simp only [pReturn, wakeSched, setSlots, State.setSched_sched, List.map_map, Option.map_comp_map]
  refine map_option_congr fun e _ => ?_
  exact (rfl : _ = valveSight (e.modValve fun r => { r with pending := true })).trans (valveSight_modValve (by simp) e)

/-! ### The recovery unit -/

@[simp] theorem standing_modEpisode (f : Episode → Episode) : standing (modEpisode f s) = standing s := rfl
@[simp] theorem standing_setHistory (h : List HistEntry) : standing (setHistory h s) = standing s := rfl
@[simp] theorem standing_applyLapses : standing (applyLapses s) = standing s := rfl
@[simp] theorem standing_enforceBudget : standing (enforceBudget s) = standing s := rfl
@[simp] theorem standing_startAttempt (b : Bool) : standing (startAttempt b s) = standing s := rfl
@[simp] theorem standing_startSafetyWrite : standing (startSafetyWrite s) = standing s := rfl
@[simp] theorem standing_requestSafetyWrite : standing (requestSafetyWrite s) = standing s := by
  unfold requestSafetyWrite; split <;> simp
@[simp] theorem standing_endAttempt (a : Attempt) (o : AttemptOutcome) : standing (endAttempt a o s) = standing s := by
  unfold endAttempt; split <;> rfl
@[simp] theorem standing_recRunEdge (rise : Bool) : standing (recRunEdge rise s) = standing s := by
  unfold recRunEdge; split <;> rfl
@[simp] theorem standing_appendLockout (c : Cause) (st : SupState) (seen : Bool) :
    standing (appendLockout c st seen s) = standing s :=
  standing_raiseEvent _ _
@[simp] theorem standing_setRecoverySet (set : RecoverySet) : standing (setRecoverySet set s) = standing s := rfl

theorem standing_enterWaitRetry : standing (enterWaitRetry s) = (standing s).withRecov .waitRetry := rfl
theorem standing_enterFuelWait : standing (enterFuelWait s) = (standing s).withRecov .fuelWait := rfl
theorem standing_enterPulsing : standing (enterPulsing s) = (standing s).withRecov .pulsing := rfl
theorem standing_servicePulse (ret : ReturnState) :
    standing (servicePulse ret s) = (standing s).withRecov .pulsing := rfl
theorem standing_enterHardLock : standing (enterHardLock s) = (standing s).withRecov .hardLock :=
  (standing_settleNotices _).trans (standing_requestSafetyWrite _)
theorem standing_closeEpisode : standing (closeEpisode s) = (standing s).withRecov .closed := rfl

/-! ### The oil accounts and the level filter -/

@[simp] theorem standing_modLevel (f : Level → Level) : standing (modLevel f s) = standing s := rfl
@[simp] theorem standing_countLevel (f : LevelCounters → LevelCounters) : standing (countLevel f s) = standing s := rfl
@[simp] theorem standing_restartStale : standing (restartStale s) = standing s := rfl
@[simp] theorem standing_staleExpiry : standing (staleExpiry s) = standing s := rfl
@[simp] theorem standing_machineHoldTank (on : Bool) : standing (holdTank on s) = standing s := rfl
@[simp] theorem standing_setAcctSet (set : AcctSet) : standing (setAcctSet set s) = standing s := rfl
@[simp] theorem standing_creditBurn (t : Nat) : standing (creditBurn t s) = standing s := rfl

@[simp] theorem standing_takePartialBurn : standing (takePartialBurn s) = standing s := by
  unfold takePartialBurn splitBurn
  split_ifs <;> rfl

@[simp] theorem standing_openPeriod (time v15 : Nat) : standing (openPeriod time v15 s) = standing s := rfl

@[simp] theorem standing_logPeriod (r : PeriodRecord) : standing (logPeriod r s) = standing s := by
  unfold logPeriod
  dsimp only
  split
  · exact standing_raiseEvent _ _
  · rfl

@[simp] theorem standing_testPeriod (time v15 : Nat) : standing (testPeriod time v15 s) = standing s := by
  unfold testPeriod
  split
  · rfl
  · dsimp only
    split_ifs <;> simp

@[simp] theorem standing_skipPeriod (reason : SkipReason) : standing (skipPeriod reason s) = standing s := by
  unfold skipPeriod
  split
  · rfl
  · dsimp only
    split <;> simp

@[simp] theorem standing_modDelivery (f : DeliveryRecord → DeliveryRecord) : standing (modDelivery f s) = standing s := rfl

@[simp] theorem standing_endDelivery (reason : CloseReason) : standing (endDelivery reason s) = standing s := by
  unfold endDelivery; split <;> rfl

@[simp] theorem standing_acctBreak (reason : SkipReason) : standing (acctBreak reason s) = standing s :=
  (rfl : _ = standing (skipPeriod reason (endDelivery .truncated s))).trans (by simp)

@[simp] theorem standing_scalingChange (set : LevelSet) : standing (scalingChange set s) = standing s :=
  standing_acctBreak _ _

@[simp] theorem standing_shapeChange (set : LevelSet) : standing (shapeChange set s) = standing s := rfl

/-! ### The relay unit -/

@[simp] theorem standing_setNodes (nodes : List (Option NodeEntry)) : standing (setNodes nodes s) = standing s := rfl
@[simp] theorem standing_mapNodes (f : NodeEntry → NodeEntry) : standing (mapNodes f s) = standing s := rfl
@[simp] theorem standing_modNode (slot : Nat) (f : NodeEntry → NodeEntry) : standing (modNode slot f s) = standing s := rfl
@[simp] theorem standing_rerunParts (which : Nat → Bool) : standing (rerunParts which s) = standing s := rfl
@[simp] theorem standing_rerunAddr (addr : Nat) : standing (rerunAddr addr s) = standing s := rfl
@[simp] theorem standing_deletePart (addr : Nat) : standing (deletePart addr s) = standing s := rfl
@[simp] theorem standing_countStorm (addr : Nat) : standing (countStorm addr s) = standing s := rfl
@[simp] theorem standing_countRelay (f : RelayCounters → RelayCounters) : standing (countRelay f s) = standing s := rfl
@[simp] theorem standing_discard (f : RelayCounters → RelayCounters) : standing (discard f s) = standing s := by
  simp [discard]
@[simp] theorem standing_holdOffNode (addr : Nat) : standing (holdOffNode addr s) = standing s := by
  unfold holdOffNode
  split
  · rfl
  · split <;> simp
@[simp] theorem standing_discardExcess (addr : Nat) : standing (discardExcess addr s) = standing s := by
  simp [discardExcess]
@[simp] theorem standing_bumpBcast (port : Port) : standing (bumpBcast port s) = standing s := by
  cases port <;> rfl
@[simp] theorem standing_moveToRoom (port : Port) (f : RelayCounters → RelayCounters) (t : Telegram) :
    standing (moveToRoom port f t s) = standing s := by
  unfold moveToRoom
  dsimp only
  split <;> simp
@[simp] theorem standing_moveToPlant (room : Room) (t : Telegram) : standing (moveToPlant room t s) = standing s := by
  unfold moveToPlant
  split
  · rfl
  · simp
@[simp] theorem standing_relayOn (room : Room) (t : Telegram) : standing (relayOn room t s) = standing s := by
  unfold relayOn moveTelegram
  split
  · simp
  · split
    · simp
    · split <;> simp

/-! ### The management unit -/

@[simp] theorem standing_setJob (j : StoreJob) : standing (setJob j s) = standing s := rfl
@[simp] theorem standing_startStoreWrite : standing (startStoreWrite s) = standing s := by
  unfold startStoreWrite; split <;> rfl
@[simp] theorem standing_startNextWrite : standing (startNextWrite s) = standing s := by
  unfold startNextWrite; split_ifs <;> simp
@[simp] theorem standing_acceptStore (room : Room) (src idx : Byte) : standing (acceptStore room src idx s) = standing s := by
  simp [acceptStore]
@[simp] theorem standing_endStore (verified : Bool) : standing (endStore verified s) = standing s := by
  unfold endStore
  split
  · cases verified <;> simp
  · rfl
@[simp] theorem standing_setEnrol (m : List (Option Enrolment)) : standing (setEnrol m s) = standing s := rfl
@[simp] theorem standing_setRelaySet (set : RelaySet) : standing (setRelaySet set s) = standing s := rfl
@[simp] theorem standing_setBurnerSet (set : BurnerSet) : standing (setBurnerSet set s) = standing s := rfl
@[simp] theorem standing_clearCounters (o : Obj) (i : Nat) : standing (clearCounters o i s) = standing s := by
  unfold clearCounters
  split
  case h_5 => split_ifs <;> simp
  case h_6 => split_ifs <;> rfl
  all_goals rfl

/-! ### The supervisor's timers, lines and held set -/

@[simp] theorem standing_setBurnerStart (b : Bool) : standing (setBurnerStart b s) = standing s := rfl
@[simp] theorem standing_markMinOff : standing (markMinOff s) = standing s := rfl
@[simp] theorem standing_startHoldExtension : standing (startHoldExtension s) = standing s := by
  unfold startHoldExtension; split <;> rfl
@[simp] theorem standing_endHoldExtension : standing (endHoldExtension s) = standing s := rfl

theorem standing_setState (st : SupState) : standing (s.setSup { s.sup with state := st }) = (standing s).withState st :=
  rfl

end

end Sys2Proof.Machine
end

section
/-! SUPPORT. The supervisor's own operations, each said once: valve commands (`Commands`), the release of the held set, the drop
and the rise of CALL, and the standing after the transitions have been tested (`Tested`) (R27 to R40). -/

namespace Sys2Proof.Machine

/-! ### Valve commands (R28, R29, R159) -/

/-- Valve commands have been written: the scheduler alone has changed, and what it knows of its nodes has not. -/
structure Commands (s t : State) : Prop where
  frame : t = s.setSched t.sched
  nodes : KeepsNodes s t

theorem Commands.refl (s : State) : Commands s s := ⟨rfl, rfl⟩

theorem Commands.trans {a b c : State} (h : Commands a b) (k : Commands b c) : Commands a c :=
  ⟨k.frame.trans (by rw [h.frame]; rfl), h.nodes.trans k.nodes⟩

theorem Commands.standing {s t : State} (h : Commands s t) : standing t = standing s := by
  have hs := h.nodes.sights
  rw [h.frame] at hs ⊢
  exact standing_congr rfl rfl rfl rfl rfl rfl rfl hs

theorem redecide_frame (slot : Nat) (s : State) : redecide slot s = s.setSched (redecide slot s).sched := by
  unfold redecide
  dsimp only
  split <;> rfl

theorem writeDesired_commands (addr : Nat) (pos : ValvePos) (s : State) : Commands s (writeDesired addr pos s) := by
  refine ⟨?_, (writeDesired_steers addr pos s).nodes⟩
  unfold writeDesired
  split
  · rfl
  · split
    · rfl
    · split
      · rfl
      · rw [redecide_frame]; rfl

theorem writeZoneValve_commands (pos : ValvePos) (z : Nat) (s : State) : Commands s (writeZoneValve pos z s) := by
  unfold writeZoneValve
  split
  · exact .refl s
  · exact writeDesired_commands _ pos s

theorem openWanting_commands (z : Nat) (s : State) : Commands s (openWanting z s) := by
  unfold openWanting
  split
  · exact .refl s
  · split
    · exact .refl s
    · exact writeDesired_commands _ _ s

theorem forEach_commands {f : Nat → State → State} (h : ∀ x s, Commands s (f x s)) (xs : List Nat) (s : State) :
    Commands s (forEach xs f s) := by
  induction xs generalizing s with
  | nil => exact .refl s
  | cons x xs ih => exact (h x s).trans (ih _)

/-- The held set is released: its valves are commanded, and the set is empty (R29). -/
theorem releaseHeld_eq (s : State) : ∃ c, Commands s c ∧ c.sup = s.sup ∧
    releaseHeld s = c.setSup { s.sup with heldSet := [] } := by
  have h := forEach_commands (writeZoneValve_commands .closed) s.sup.heldSet s
  have hsup : (forEach s.sup.heldSet (writeZoneValve .closed) s).sup = s.sup := (congrArg State.sup h.frame :)
  exact ⟨_, h, hsup, by rw [releaseHeld, hsup]⟩

@[simp] theorem standing_releaseHeld (s : State) : standing (releaseHeld s) = standing s := by
  obtain ⟨c, hc, hsup, he⟩ := releaseHeld_eq s
  rw [he, ← hc.standing]
  exact standing_congr rfl rfl (by rw [hsup]; rfl) (by rw [hsup]; rfl) (by rw [hsup]; rfl) rfl rfl rfl

@[simp] theorem standing_dropPump (s : State) : standing (dropPump s) = standing s := standing_releaseHeld _

@[simp] theorem standing_openWanting (z : Nat) (s : State) : standing (openWanting z s) = standing s :=
  (openWanting_commands z s).standing

@[simp] theorem standing_writeZoneValve (pos : ValvePos) (z : Nat) (s : State) :
    standing (writeZoneValve pos z s) = standing s :=
  (writeZoneValve_commands pos z s).standing

@[simp] theorem standing_zoneLeaves (rest : Bool) (z : Nat) (s : State) : standing (zoneLeaves rest z s) = standing s := by
  unfold zoneLeaves
  split
  · rfl
  · split
    · simp
    · rfl

theorem standing_forEach {α : Type} {f : α → State → State} (h : ∀ x s, standing (f x s) = standing s) (xs : List α)
    (s : State) : standing (forEach xs f s) = standing s := by
  induction xs generalizing s with
  | nil => rfl
  | cons x xs ih => exact (ih _).trans (h x s)

/-! ### CALL drops and rises (R33, R36) -/

theorem standing_dropCall (next : SupState) (s : State) : standing (dropCall next s) = (standing s).withState next := by
  unfold dropCall
  extract_lets _ s1 _ s2
  have h1 : standing s1 = (standing s).withState next := rfl
  have h2 : standing s2 = standing s1 := by
    simp only [s2]
    split
    · simp
    · rfl
  split <;> simp [h1, h2]

theorem standing_enterCalling (s : State) :
    standing (enterCalling s) = (standing s).withState (if s.sup.rr.active then .firing else .calling) := by
  unfold enterCalling
  dsimp only
  split
  · next h => rw [standing_startHoldExtension, if_pos (show s.sup.rr.active = true from h)]; rfl
  · next h => rw [if_neg (show ¬ s.sup.rr.active = true from h)]; rfl

/-! ### The transitions (R32, R35) -/

/-- `q` is `p` once the supervisor has tested its transitions: its state alone may have changed, it has neither entered nor left
LOCKED and INHIBITED, and CALL has a path. -/
structure Tested (p q : Standing) : Prop where
  frame : q = p.withState q.state
  locked : q.state = .locked ↔ p.state = .locked
  inhibited : q.state = .inhibited ↔ p.state = .inhibited
  path : q.call = true → q.hasPath = true

namespace Standing

/-- The wanting zones are in use and the served set is current. -/
structure Fitted (p : Standing) : Prop where
  inUse : ∀ z ∈ p.wanting, p.inUse z = true
  served : p.served = p.wanting.filter p.heat

theorem Dispatched.fitted {p : Standing} (h : p.Dispatched) : p.Fitted := ⟨h.inUse, h.served⟩

theorem reserved_fitted {p : Standing} (h : ∀ z ∈ p.wanting, p.inUse z = true) : p.reserved.Fitted := ⟨h, rfl⟩

/-- A zone in use has an entry of the table. -/
theorem lt_length_of_inUse {p : Standing} {z : Nat} (h : p.inUse z = true) : z < p.table.length := by
  by_contra hz
  simp [inUse, List.getElem?_eq_none (Nat.not_lt.mp hz)] at h

/-- A served zone is a path (R27). -/
theorem Fitted.hasPath {p : Standing} (h : p.Fitted) (hs : p.served ≠ []) : p.hasPath = true := by
  obtain ⟨z, hz⟩ := List.exists_mem_of_ne_nil _ hs
  rw [h.served, List.mem_filter] at hz
  have hu := h.inUse z hz.1
  exact List.any_eq_true.mpr ⟨z, List.mem_range.mpr (lt_length_of_inUse hu), by rw [hu, hz.2]; rfl⟩

end Standing

/-- The supervisor goes from one of its own states to a state without CALL. -/
theorem Tested.of_noCall {p : Standing} {st : SupState} (hp : p.state ≠ .locked ∧ p.state ≠ .inhibited)
    (hst : st = .idle ∨ st = .waitOff) : Tested p (p.withState st) := by
  rcases hst with rfl | rfl <;>
    exact ⟨rfl, by simp [Standing.withState, hp.1], by simp [Standing.withState, hp.2],
      by simp [Standing.withState, Standing.call]⟩

/-- The supervisor goes from one of its own states to another while a path exists. -/
theorem Tested.of_path {p : Standing} {st : SupState} (hp : p.state ≠ .locked ∧ p.state ≠ .inhibited)
    (hst : st ≠ .locked ∧ st ≠ .inhibited) (h : p.hasPath = true) : Tested p (p.withState st) :=
  ⟨rfl, by simp [Standing.withState, hp.1, hst.1], by simp [Standing.withState, hp.2, hst.2], fun _ => h⟩

/-- Nothing changes while CALL has a path. -/
theorem Tested.refl {p : Standing} (h : p.call = true → p.hasPath = true) : Tested p p := ⟨rfl, .rfl, .rfl, h⟩

theorem enterCalling_tested {s : State} (h : (standing s).Fitted)
    (hst : s.sup.state ≠ .locked ∧ s.sup.state ≠ .inhibited) (hs : s.sup.served.isEmpty = false) :
    Tested (standing s) (standing (enterCalling s)) := by
  rw [standing_enterCalling]
  exact .of_path hst (by split <;> simp) (h.hasPath (List.isEmpty_eq_false_iff.mp hs))

theorem dropCall_idle_tested {s : State} (hst : s.sup.state ≠ .locked ∧ s.sup.state ≠ .inhibited) :
    Tested (standing s) (standing (dropCall .idle s)) := by
  rw [standing_dropCall]
  exact .of_noCall hst (.inl rfl)

/-- Everything the transitions can do to the standing: a call in hand keeps a path, and a call begins with a zone served (R32,
R33, R35). -/
theorem testSupervisor_tested {s : State} (h : (standing s).Fitted) : Tested (standing s) (standing (testSupervisor s)) := by
  have inCall (hl : s.sup.state ≠ .locked ∧ s.sup.state ≠ .inhibited) :
      Tested (standing s) (standing (if !pathExists s then dropCall .idle s
        else if s.sup.served.isEmpty && minOnPassed s then dropCall .idle s else s)) := by
    split
    · exact dropCall_idle_tested hl
    · next hp =>
      split
      · exact dropCall_idle_tested hl
      · exact .refl fun _ => by rw [← pathExists_eq]; simpa using hp
  unfold testSupervisor
  cases hs : s.sup.state with
  | idle =>
    dsimp only
    split
    · exact .refl (by simp [Standing.call, standing, hs])
    · next he =>
      split
      · exact enterCalling_tested h (by simp [hs]) (by simpa using he)
      · exact .of_noCall (by simp [standing, hs]) (.inr rfl)
  | waitOff =>
    dsimp only
    split
    · exact .of_noCall (by simp [standing, hs]) (.inl rfl)
    · next he =>
      split
      · exact enterCalling_tested h (by simp [hs]) (by simpa using he)
      · exact .refl (by simp [Standing.call, standing, hs])
  | calling => exact inCall (by simp [hs])
  | firing => exact inCall (by simp [hs])
  | holding => exact inCall (by simp [hs])
  | locked => exact .refl (by simp [Standing.call, standing, hs])
  | inhibited => exact .refl (by simp [Standing.call, standing, hs])

/-- The served set is recomputed, and the transitions tested with it (R27 to R29). -/
theorem recompute_tested {s : State} (h : ∀ z ∈ s.sup.wanting, zoneInUse s z = true) :
    Tested (standing s).reserved (standing (recompute s)) := by
  unfold recompute
  extract_lets _ s1 s2
  have h1 : standing s1 = (standing s).reserved := by
    rw [Standing.reserved, ← servedOf_eq]; rfl
  have h2 : standing s2 = standing s1 := by
    simp only [s2]
    split <;> simp
  have h3 : standing (forEach s2.sup.wanting openWanting s2) = (standing s).reserved := by
    rw [standing_forEach standing_openWanting, h2, h1]
  rw [← h3]
  exact testSupervisor_tested (h3 ▸ Standing.reserved_fitted h)

/-- A new wanting-heat set of zones in use is taken over (R16, R27, R29). -/
theorem takeWanting_tested {w : List Nat} {s : State} (h : ∀ z ∈ w, zoneInUse s z = true) :
    Tested ((standing s).withWanting w).reserved (standing (takeWanting w s)) := by
  unfold takeWanting
  extract_lets left _ s1
  have h2 : standing (forEach left (zoneLeaves (!(servedOf s1 w).isEmpty)) s1) = (standing s).withWanting w :=
    standing_forEach (standing_zoneLeaves _) left s1
  rw [← h2]
  refine recompute_tested fun z hz => ?_
  have hw : (forEach left (zoneLeaves (!(servedOf s1 w).isEmpty)) s1).sup.wanting = w := congrArg Standing.wanting h2
  rw [zoneInUse_eq, h2]
  exact h z (hw ▸ hz)

/-- A changed valve node moves valves, and takes a zone that does not want heat out of the supervisor's sets (R30). -/
theorem standing_takeValveNode (z : Nat) (old : Option Nat) (w : List Nat) (s : State) :
    standing (takeValveNode z old w s) =
      (standing s).withWanting (if w.contains z then s.sup.wanting else s.sup.wanting.filter (· ≠ z)) := by
  unfold takeValveNode
  extract_lets s1 _ s2
  have h1 : Commands s s1 := by
    cases old with
    | none => exact .refl s
    | some a => exact writeDesired_commands a .closed s
  have hsup : s1.sup = s.sup := (congrArg State.sup h1.frame :)
  have h2 : standing s2 =
      (standing s).withWanting (if w.contains z then s.sup.wanting else s.sup.wanting.filter (· ≠ z)) := by
    rw [← h1.standing, ← hsup]; rfl
  rw [← h2]
  split <;> simp

/-- A supervisor that has the zone unit's wanting-heat set keeps it when a valve node changes. -/
theorem standing_takeValveNode_same (z : Nat) (old : Option Nat) {w : List Nat} {s : State} (h : s.sup.wanting = w) :
    standing (takeValveNode z old w s) = standing s := by
  rw [standing_takeValveNode, h]
  have hw : (if w.contains z then w else w.filter (· ≠ z)) = w := by
    split
    · rfl
    · next hc =>
      refine List.filter_eq_self.mpr fun a ha => ?_
      have : a ≠ z := fun haz => hc (by simpa [haz] using ha)
      simpa using this
  rw [hw, ← h]
  rfl

end Sys2Proof.Machine
end

section
/-! SUPPORT. What keeps the supervisor sound: the moves of the recovery unit, the evaluation of zones, and a change of the tank
state (R12, R16, R37, R38, R44 to R64, R107). -/

namespace Sys2Proof.Machine

/-! ### Parts of soundness -/

section
variable {p q : Standing}

theorem Standing.Dispatched.noCall (h : p.Dispatched) {st : SupState} (hst : (p.withState st).call = false) :
    (p.withState st).Dispatched :=
  ⟨h.handed, h.inUse, h.served, fun hc => absurd hc (by simp [hst])⟩

theorem Standing.Dispatched.withRecov (h : p.Dispatched) (r : RecState) : (p.withRecov r).Dispatched :=
  ⟨h.handed, h.inUse, h.served, h.path⟩

theorem Standing.Dispatched.withTank (h : p.Dispatched) (t : TankState) : (p.withTank t).Dispatched :=
  ⟨h.handed, h.inUse, h.served, h.path⟩

/-- A supervisor that has taken over its wanting-heat set takes over nothing more. -/
theorem Standing.Dispatched.taken (h : p.Dispatched) : ((p.withZones p.zones).withWanting p.zones).reserved = p := by
  obtain ⟨hhanded, _, hserved, _⟩ := h
  have hw : (p.withZones p.zones).withWanting p.zones = p := by
    rw [← hhanded]; exact congrArg p.withZones hhanded
  rw [hw, Standing.reserved, ← hserved]

theorem Tested.guarded (h : Tested p q) (hg : p.Guarded) : q.Guarded := by
  obtain ⟨hl, hi⟩ := hg
  have hrecov : q.blocks = p.blocks := by rw [h.frame]; rfl
  have htank : q.tank = p.tank := by rw [h.frame]; rfl
  exact ⟨fun hb => h.locked.mpr (hl (hrecov ▸ hb)), fun ht => (hi (htank ▸ ht)).imp h.locked.mpr h.inhibited.mpr⟩

theorem Tested.dispatched (h : Tested p q) (hf : p.Fitted) (hh : p.wanting = p.zones) : q.Dispatched := by
  have hpath := h.path
  rw [h.frame] at hpath ⊢
  exact ⟨hh, hf.inUse, hf.served, hpath⟩

theorem Tested.sound (h : Tested p q) (hg : p.Guarded) (hf : p.Fitted) (hh : p.wanting = p.zones) : q.Sound :=
  ⟨h.guarded hg, h.dispatched hf hh⟩

/-- A recovery unit that goes on blocking keeps the supervisor sound (R37). -/
theorem Standing.Sound.withRecov (h : p.Sound) (hb : p.blocks = true) (r : RecState) : (p.withRecov r).Sound :=
  ⟨⟨fun _ => h.guarded.locked hb, h.guarded.inhibited⟩, h.dispatched.withRecov r⟩

/-- A recovery unit that does not block keeps the supervisor sound (R44). -/
theorem Standing.Sound.withRecov_free (h : p.Sound) {r : RecState} (hr : (p.withRecov r).blocks = false) :
    (p.withRecov r).Sound :=
  ⟨⟨fun hb => absurd hb (by simp [hr]), h.guarded.inhibited⟩, h.dispatched.withRecov r⟩

/-- In LOCKED the supervisor is sound whatever the recovery unit and the tank do (R37). -/
theorem Standing.Dispatched.lock (h : p.Dispatched) : (p.withState .locked).Sound :=
  ⟨⟨fun _ => rfl, fun _ => .inl rfl⟩, h.noCall rfl⟩

end

/-! ### Leaving and entering LOCKED (R37, R38) -/

section
variable {s : State}

theorem testSupervisor_sound (h : (standing s).Sound) : (standing (testSupervisor s)).Sound :=
  (testSupervisor_tested h.dispatched.fitted).sound h.guarded h.dispatched.fitted h.dispatched.handed

theorem enterIdle_sound (h : (standing s).Dispatched) (hb : (standing s).blocks = false) (ht : s.acct.tank ≠ .empty) :
    (standing (enterIdle s)).Sound :=
  have hd : ((standing s).withState .idle).Dispatched := h.noCall rfl
  testSupervisor_sound ⟨⟨fun hb' => Bool.noConfusion (hb.symm.trans hb'), fun ht' => absurd ht' ht⟩, hd⟩

theorem leaveLocked_sound (h : (standing s).Sound) (hb : (standing s).blocks = false) : (standing (leaveLocked s)).Sound := by
  unfold leaveLocked
  dsimp only
  split
  · split
    · exact ⟨⟨fun hb' => Bool.noConfusion (hb.symm.trans hb'), fun _ => .inr rfl⟩, h.dispatched.noCall rfl⟩
    · next ht => exact enterIdle_sound (s := markMinOff s) h.dispatched hb ht
  · exact h

theorem standing_enterLocked (s : State) : standing (enterLocked s) = (standing s).withState .locked := by
  unfold enterLocked
  split
  · next h => rw [← h]; rfl
  · split
    · exact standing_dropCall .locked s
    · rfl

/-! ### The recovery unit (R44 to R64) -/

theorem enterProving_sound (h : (standing s).Sound) : (standing (enterProving s)).Sound :=
  leaveLocked_sound (h.withRecov_free (r := .proving) rfl) rfl

theorem attemptCleared_sound (h : (standing s).Sound) : (standing (attemptCleared s)).Sound := by
  unfold attemptCleared
  split
  · exact enterProving_sound h
  · exact enterProving_sound (by rwa [standing_endAttempt])

/-- An attempt is decided within the blocking states (R52). -/
theorem standing_decideAttempt (s : State) : ∃ r, standing (decideAttempt s) = (standing s).withRecov r := by
  unfold decideAttempt
  split
  · exact ⟨_, standing_enterFuelWait s⟩
  · dsimp only
    split
    · exact ⟨_, standing_enterHardLock _⟩
    · exact ⟨s.recov.state, by rw [standing_requestSafetyWrite]; rfl⟩

theorem attemptDue_blocks (h : attemptDue s = true) : (standing s).blocks = true := by
  have hw : s.recov.state = .waitRetry := by
    simp only [attemptDue, Bool.and_eq_true, decide_eq_true_eq] at h
    exact h.1.1
  simp [Standing.blocks, standing, hw]

theorem standing_checkDue (s : State) : ∃ r, standing (checkDue s) = (standing s).withRecov r := by
  unfold checkDue
  split
  · exact standing_decideAttempt s
  · exact ⟨s.recov.state, rfl⟩

theorem checkDue_sound (h : (standing s).Sound) : (standing (checkDue s)).Sound := by
  unfold checkDue
  split
  · next hd =>
    obtain ⟨r, hr⟩ := standing_decideAttempt s
    rw [hr]
    exact h.withRecov (attemptDue_blocks hd) r
  · exact h

theorem standing_attemptNotCleared (s : State) : ∃ r, standing (attemptNotCleared s) = (standing s).withRecov r := by
  unfold attemptNotCleared
  extract_lets _ s1 ret
  have h1 : standing s1 = standing s := rfl
  split
  · exact ⟨_, standing_enterWaitRetry s1⟩
  · next a _ =>
    have h2 : standing (endAttempt a .notCleared s1) = standing s := (standing_endAttempt s1 a _).trans h1
    dsimp only
    generalize endAttempt a .notCleared s1 = s2 at h2
    have back : ∃ r, standing (checkDue (modEpisode (fun e => { e with ret := none })
        (s2.setRecov { s2.recov with state := .waitRetry }))) = (standing s).withRecov r := by
      refine (standing_checkDue _).imp fun r hr => hr.trans ?_
      rw [← h2]; rfl
    split
    · exact ⟨_, by rw [standing_enterWaitRetry, h2]⟩
    · clear_value ret
      split
      · split
        · exact ⟨_, by rw [standing_enterFuelWait, h2]⟩
        · exact ⟨_, by rw [standing_enterWaitRetry, h2]⟩
      · exact back

theorem enterConfirming_sound (h : (standing s).Sound) (hb : (standing s).blocks = true) :
    (standing (enterConfirming s)).Sound := by
  have hc := h.withRecov hb .confirming
  unfold enterConfirming
  dsimp only
  split
  · exact hc
  · exact attemptCleared_sound hc

theorem clearLock_sound (h : (standing s).Sound) (hb : (standing s).blocks = true) : (standing (clearLock s)).Sound := by
  unfold clearLock
  extract_lets number _ _ s1 s2
  have h2 : standing s2 = standing s := standing_requestSafetyWrite s1
  rw [standing_settleNotices]
  split
  · rw [standing_enterWaitRetry, standing_modEpisode, h2]
    exact h.withRecov hb _
  · exact enterProving_sound (h2 ▸ h)

theorem standing_recLockoutTaken (st : SupState) (call seen : Bool) (s : State) :
    ∃ r, standing (recLockoutTaken st call seen s) = (standing s).withRecov r := by
  have after (cause : Cause) (u : State) : ∃ r, standing (afterLockout cause u) = (standing u).withRecov r := by
    unfold afterLockout
    split
    · exact ⟨_, standing_enterFuelWait u⟩
    · exact ⟨_, standing_enterWaitRetry u⟩
  unfold recLockoutTaken
  dsimp only
  split
  · refine (after _ _).imp fun r hr => hr.trans ?_
    rw [standing_appendLockout]; rfl
  · refine (after _ _).imp fun r hr => hr.trans ?_
    rw [standing_modEpisode, standing_appendLockout]
  · refine (standing_checkDue _).imp fun r hr => hr.trans ?_
    rw [setCause, standing_modEpisode, standing_appendLockout]

/-- A lockout taken puts the supervisor in LOCKED, whatever the recovery unit makes of it (R26, R37). -/
theorem lockoutTaken_sound (h : (standing s).Sound) : (standing (lockoutTaken s)).Sound := by
  unfold lockoutTaken
  extract_lets _ s1
  obtain ⟨r, hr⟩ := standing_recLockoutTaken s1.sup.state (callAsserted s1) s1.sup.rr.seen s1
  rw [standing_enterLocked, hr]
  exact (h.dispatched.withRecov r).lock

theorem recLockoutReleased_sound (h : (standing s).Sound) : (standing (recLockoutReleased s)).Sound := by
  unfold recLockoutReleased
  split
  · exact attemptCleared_sound h
  · exact attemptCleared_sound h
  · exact attemptCleared_sound h
  · exact h

theorem recWriteDone_sound (h : (standing s).Sound) : (standing (recWriteDone s)).Sound := by
  unfold recWriteDone
  split
  · exact h
  · split
    · next hw =>
      have hb : (standing s).blocks = true := by
        simp only [Bool.and_eq_true, decide_eq_true_eq] at hw
        simp [Standing.blocks, standing, hw.1.1]
      split
      · rw [standing_enterFuelWait, standing_endAttempt]
        exact h.withRecov hb _
      · split
        · exact h.withRecov hb .pulsing
        · exact h
    · exact h

theorem recDelivery_sound (h : (standing s).Sound) : (standing (recDelivery s)).Sound := by
  unfold recDelivery
  dsimp only
  split
  · next hl =>
    simp only [Bool.and_eq_true, decide_eq_true_eq] at hl
    exact clearLock_sound h (by simp [Standing.blocks, standing, hl.1])
  · exact h

/-! ### The evaluation of zones (R12, R16) -/

/-- Zones evaluated to want heat are in use (R11, R14). -/
theorem evaluated_inUse {zs : List Nat} (h : ∀ z ∈ s.zone.wanting, z ∉ zs → zoneInUse s z = true) :
    ∀ z ∈ (evaluated zs s).zone.wanting, zoneInUse s z = true := by
  intro z hz
  by_cases hm : z ∈ zs
  · obtain ⟨hl, hw⟩ := (mem_evaluated_wanting hm).mp hz
    obtain ⟨ze, hze⟩ : ∃ ze, s.zone.table[z]? = some ze := ⟨_, List.getElem?_eq_getElem hl⟩
    by_contra hu
    have hc : ze.cls = .unused := by simpa [zoneInUse, hze] using hu
    rw [zoneStateOf_unused hze hc, wantsHeat_iff hze] at hw
    simp at hw
  · exact h z ((mem_evaluated_wanting_other hm).mp hz).2 hm

/-- The zones evaluated, the supervisor has taken over their wanting-heat set and tested its transitions (R12, R16). -/
theorem evaluateZones_tested (zs : List Nat) (h : (standing s).Dispatched) :
    ∃ w, (∀ z ∈ w, (standing s).inUse z = true) ∧
      Tested (((standing s).withZones w).withWanting w).reserved (standing (evaluateZones zs s)) := by
  have hin : ∀ z ∈ s.zone.wanting, z ∉ zs → zoneInUse s z = true := fun z hz _ => h.inUse z (h.handed.symm ▸ hz)
  have hev : standing (settleNotices (evaluated zs s)) = (standing s).withZones (evaluated zs s).zone.wanting :=
    standing_settleNotices _
  have hzone : (settleNotices (evaluated zs s)).zone.wanting = (evaluated zs s).zone.wanting := congrArg Standing.zones hev
  refine ⟨(evaluated zs s).zone.wanting, evaluated_inUse hin, ?_⟩
  unfold evaluateZones handOver
  rw [hzone]
  split
  · next hsame =>
    have hw : (((standing s).withZones s.zone.wanting).withWanting s.zone.wanting).reserved = standing s := h.taken
    rw [hev, hsame, hw]
    exact .refl h.path
  · rw [← hev]
    refine takeWanting_tested fun z hz => ?_
    rw [zoneInUse_eq, hev]
    exact evaluated_inUse hin z hz

theorem evaluateZones_dispatched (zs : List Nat) (h : (standing s).Dispatched) :
    (standing (evaluateZones zs s)).Dispatched := by
  obtain ⟨w, hw, ht⟩ := evaluateZones_tested zs h
  exact ht.dispatched (Standing.reserved_fitted hw) rfl

theorem evaluateZones_sound (zs : List Nat) (h : (standing s).Sound) : (standing (evaluateZones zs s)).Sound := by
  obtain ⟨w, hw, ht⟩ := evaluateZones_tested zs h.dispatched
  exact ht.sound ⟨h.guarded.locked, h.guarded.inhibited⟩ (Standing.reserved_fitted hw) rfl

theorem evaluateAll_sound (h : (standing s).Sound) : (standing (evaluateAll s)).Sound := evaluateZones_sound _ h

theorem nodeChanged_sound (addr : Nat) (h : (standing s).Sound) : (standing (nodeChanged addr s)).Sound := by
  rcases nodeChanged_cases addr s with e | ⟨z, e⟩
  · rwa [e]
  · rw [e]; exact evaluateZones_sound [z] h

theorem changeEnrol_sound (idx : Nat) (old new : Option Enrolment) (h : (standing s).Sound) :
    (standing (changeEnrol idx old new s)).Sound := by
  unfold changeEnrol
  extract_lets s1 zOld zNew s2
  split
  · exact h
  · have h2 : standing s2 = standing s := by
      simp only [s2]
      split
      · rfl
      · split_ifs <;> rfl
    exact evaluateZones_sound _ (h2 ▸ h)

theorem applyEnrol_sound (idx : Nat) (new : Option Enrolment) (h : (standing s).Sound) :
    (standing (applyEnrol idx new s)).Sound := by
  unfold applyEnrol
  dsimp only
  split
  · split
    · exact changeEnrol_sound _ _ _ h
    · exact changeEnrol_sound _ _ _ (changeEnrol_sound _ _ _ h)
  · exact changeEnrol_sound _ _ _ h

/-! ### The tank state (R38, R60, R107) -/

/-- The supervisor takes over a changed tank state: EMPTY inhibits it, and leaving EMPTY ends that (R38). -/
theorem supTankChanged_sound {old : TankState} (h : (standing s).Dispatched)
    (hl : (standing s).blocks = true → s.sup.state = .locked) : (standing (supTankChanged old s)).Sound := by
  unfold supTankChanged
  split
  · have hi : ((standing s).withState .inhibited).Dispatched := h.noCall rfl
    have free (hn : s.sup.state ≠ .locked) : ((standing s).withState .inhibited).Sound :=
      ⟨⟨fun hb => absurd (hl hb) hn, fun _ => .inr rfl⟩, hi⟩
    split
    · next hs => exact ⟨⟨hl, fun _ => .inl hs⟩, h⟩
    · next hs =>
      split
      · rw [standing_dropCall]; exact free hs
      · exact free hs
  · next ht =>
    split
    · next hs =>
      simp only [Bool.and_eq_true, decide_eq_true_eq] at hs
      have hb : (standing s).blocks = false := by
        by_contra hb
        have := hl (by simpa using hb)
        rw [hs.2] at this
        cases this
      exact enterIdle_sound h hb ht
    · exact ⟨⟨hl, fun ht' => absurd ht' ht⟩, h⟩

theorem recTankChanged_sound (old : TankState) (h : (standing s).Sound) : (standing (recTankChanged old s)).Sound := by
  unfold recTankChanged
  split
  · next hf =>
    simp only [Bool.and_eq_true, decide_eq_true_eq] at hf
    exact h.withRecov (by simp [Standing.blocks, standing, hf.2]) .waitRetry
  · exact h

/-- A change of the tank state, handed to the zone unit, the supervisor and the recovery unit, keeps the supervisor sound
(R107). -/
theorem setTank_sound (tank : TankState) (h : (standing s).Sound) : (standing (setTank tank s)).Sound := by
  unfold setTank
  split
  · exact h
  · extract_lets old _ s1
    have h1 : (standing (rerunParts (fun _ => true) s1)).Dispatched := h.dispatched.withTank tank
    obtain ⟨w, hw, ht⟩ := evaluateZones_tested (allZones (rerunParts (fun _ => true) s1)) h1
    refine recTankChanged_sound _ (supTankChanged_sound (ht.dispatched (Standing.reserved_fitted hw) rfl) fun hb => ?_)
    refine ht.locked.mpr (h.guarded.locked ?_)
    rw [zoneTankChanged, evaluateAll, ht.frame] at hb
    exact hb

theorem evaluateTank_sound (v15 : Nat) (h : (standing s).Sound) : (standing (evaluateTank v15 s)).Sound := setTank_sound _ h

end

end Sys2Proof.Machine
end

section
/-! SUPPORT. What keeps the supervisor sound, continued: publications and the level filter, the valves' reports, and the writes of
the zone table and of the poll list (R20, R30, R69 to R107, R158 to R168). -/

namespace Sys2Proof.Machine

section
variable {s : State}

/-! ### Publications (R70, R75, R80, R98, R103, R105) -/

theorem testDelivery_sound (chain : List Stage) (time : Nat) (h : (standing s).Sound) :
    (standing (testDelivery chain time s)).Sound := by
  have opens (h3 : Stage) : (standing (openDelivery h3 time s)).Sound := by
    unfold openDelivery
    extract_lets d _ s1 s2 _ s3
    have h2 : standing s2 = standing s := standing_raiseEvent s1 .delivery
    exact recDelivery_sound (s := s3) (h2 ▸ h)
  unfold testDelivery
  split
  · split
    · exact h
    · split
      · dsimp only
        split_ifs
        · exact opens _
        · exact h
      · exact h
  · exact h

theorem acctPublication_sound (r : VolRecord) (chain : List Stage) (h : (standing s).Sound) :
    (standing (acctPublication r chain s)).Sound := by
  unfold acctPublication
  rw [standing_testPeriod]
  exact testDelivery_sound chain r.time (evaluateTank_sound r.v15 h)

theorem publish_sound (b : Box) (h : (standing s).Sound) : (standing (publish b s)).Sound := by
  unfold publish
  split
  · exact h
  · exact acctPublication_sound _ _ (by rwa [standing_setVol, standing_settleNotices, standing_modLevel])

theorem acceptSample_sound (depth : Nat) (temp : Option Int) (h : (standing s).Sound) :
    (standing (acceptSample depth temp s)).Sound := by
  have output (b : Box) {u : State} (hu : (standing u).Sound) : (standing (outputStage b u)).Sound := by
    unfold outputStage
    split
    · exact publish_sound b hu
    · dsimp only
      split
      · exact hu
      · exact publish_sound _ hu
  unfold acceptSample
  dsimp only
  split
  · exact output _ h
  · exact h

theorem checkSpike_sound (depth : Nat) (temp : Option Int) (h : (standing s).Sound) :
    (standing (checkSpike depth temp s)).Sound := by
  unfold checkSpike
  split
  · split
    · exact h
    · exact acceptSample_sound depth temp h
  · exact acceptSample_sound depth temp h

theorem takeSample_sound (payload : List Byte) (h : (standing s).Sound) : (standing (takeSample payload s)).Sound := by
  have fault : (standing (takeFault (restartStale s))).Sound := by
    unfold takeFault
    dsimp only
    split
    · exact setTank_sound _ (by rwa [standing_settleNotices, standing_modLevel])
    · exact h
  unfold takeSample
  split
  · exact h
  · dsimp only
    split
    · exact fault
    · exact checkSpike_sound _ _ h
    · exact checkSpike_sound _ _ h

theorem swapBanks_sound (h : (standing s).Sound) : (standing (swapBanks s)).Sound := by
  unfold swapBanks
  extract_lets _ s1 s2 _ s3
  have h3 : standing s3 = standing s := standing_acctBreak s1 .swap
  split
  · exact h3 ▸ h
  · extract_lets r s4
    have h4 : (standing s4).Sound := h3 ▸ h
    split
    · exact h4
    · exact evaluateTank_sound _ h4

theorem forgetLevel_sound (h : (standing s).Sound) : (standing (forgetLevel s)).Sound :=
  setTank_sound .unknown (by simpa using h)

/-! ### The valves' reports (R163 to R168) -/

/-- After a change of the valves' reports the supervisor recomputes (R27). -/
theorem recompute_sound {u : State} {v : List (Option (Nat × Option Reported))} (h : (standing s).Sound)
    (hu : standing u = (standing s).withValves v) : (standing (recompute u)).Sound := by
  have hin : ∀ z ∈ (standing u).wanting, (standing u).inUse z = true := by rw [hu]; exact h.dispatched.inUse
  have ht := recompute_tested (s := u) hin
  rw [hu] at ht hin
  exact ht.sound ⟨h.guarded.locked, h.guarded.inhibited⟩ (Standing.reserved_fitted hin) h.dispatched.handed

/-- The reported position that the record of a slot shows is the one the supervisor sees. -/
theorem recordOf_reported (s : State) (slot : Nat) :
    (recordOf s slot).map (·.reported) = (slotGet (standing s).valves slot).bind (·.2) := by
  have hv : slotGet (standing s).valves slot = (slotGet s.sched.slots slot).map valveSight := slotGet_map _ _ _
  rw [hv, recordOf]
  cases slotGet s.sched.slots slot <;> rfl

theorem slotGet_modifySlot {α : Type} (xs : List (Option α)) (slot : Nat) (f : α → α) :
    slotGet (modifySlot xs slot f) slot = (slotGet xs slot).map f := by
  simp only [slotGet, modifySlot, List.getElem?_modify, if_true]
  cases xs[slot]? with
  | none => rfl
  | some o => cases o <;> rfl

theorem valve_modValve {e : PollEntry} {r : ValveRecord} (h : e.valve? = some r) (f : ValveRecord → ValveRecord) :
    (e.modValve f).valve? = some (f r) := by
  obtain ⟨_, _ | r'⟩ := e
  · cases h
  · cases h; rfl

/-- A slot's record changed: the valves' reports, or with the reported position kept nothing that the supervisor sees. -/
theorem standing_modRecord (slot : Nat) (f : ValveRecord → ValveRecord) (s : State) :
    (∃ v, standing (modRecord slot f s) = (standing s).withValves v) ∧
      ∀ r, recordOf s slot = some r → (f r).reported = r.reported → standing (modRecord slot f s) = standing s := by
  unfold modRecord
  split
  · exact ⟨⟨_, rfl⟩, fun _ _ _ => rfl⟩
  · next r hr =>
    have same : (f r).reported = r.reported →
        standing (modEntry slot (PollEntry.modValve f) s) = standing s := fun hf =>
      standing_modEntry_at s fun e he => by
        have hv : e.valve? = some r := by simpa [recordOf, he] using hr
        have haddr : (e.modValve f).addr = e.addr := by unfold PollEntry.modValve; split <;> rfl
        simp [valveSight, valve_modValve hv, hv, haddr, hf]
    dsimp only
    split
    · next hf => exact ⟨⟨_, rfl⟩, fun _ _ _ => same hf⟩
    · next hf =>
      refine ⟨⟨_, standing_redecide _ _⟩, fun r' hr' hf' => ?_⟩
      cases hr.symm.trans hr'
      exact absurd hf' hf

theorem changeRecord_sound (slot : Nat) (f : ValveRecord → ValveRecord) (h : (standing s).Sound) :
    (standing (changeRecord slot f s)).Sound := by
  obtain ⟨⟨v, hv⟩, hsame⟩ := standing_modRecord slot f s
  unfold changeRecord
  split
  · exact h
  · next r hr =>
    dsimp only
    split
    · next hf =>
      simp only [Bool.and_eq_true, decide_eq_true_eq] at hf
      rwa [hsame r hr hf.1]
    · exact recompute_sound h hv

theorem missExchange_sound (slot : Nat) (h : (standing s).Sound) : (standing (missExchange slot s)).Sound := by
  unfold missExchange
  extract_lets before s1 s2
  have h2 : standing s2 = standing (modEntry slot markMissed s1) := standing_redecide _ slot
  split
  · next hb =>
    have hkeep : standing (modEntry slot markMissed s1) = standing s1 := standing_modEntry_at s1 fun e he => by
      have haddr : (markMissed e).addr = e.addr := by
        unfold markMissed PollEntry.modValve
        dsimp only
        split_ifs <;> [split; skip] <;> rfl
      have hafter : slotGet (standing (modEntry slot markMissed s1)).valves slot = some (valveSight (markMissed e)) := by
        have := slotGet_map valveSight (modifySlot s1.sched.slots slot markMissed) slot
        rwa [slotGet_modifySlot, he] at this
      have hbefore : slotGet (standing s).valves slot = some (valveSight e) := by
        have := slotGet_map valveSight s1.sched.slots slot
        rwa [he] at this
      have hrep : before = (slotGet (standing s).valves slot).bind (·.2) := recordOf_reported s slot
      rw [recordOf_reported, h2, hafter, hrep, hbefore] at hb
      exact Prod.ext haddr hb
    rw [h2, hkeep]
    exact h
  · exact recompute_sound h (v := (modifySlot s1.sched.slots slot markMissed).map (Option.map valveSight)) h2

theorem pBreak_sound (h : (standing s).Sound) : (standing (pBreak s)).Sound := by
  have reports (f : ValveRecord → ValveRecord) (xs : List Nat) (u : State) :
      ∃ v, standing (forEach xs (fun i => modRecord i f) u) = (standing u).withValves v := by
    induction xs generalizing u with
    | nil => exact ⟨_, rfl⟩
    | cons x xs ih =>
      obtain ⟨v, hv⟩ := (standing_modRecord x f u).1
      obtain ⟨v', hv'⟩ := ih (modRecord x f u)
      exact ⟨v', hv'.trans (by rw [hv]; rfl)⟩
  unfold pBreak
  extract_lets s1
  have h1 : standing s1 = standing s := standing_failExchange s
  split
  · rwa [h1]
  · obtain ⟨v, hv⟩ := reports (fun r => { r with reported := .unknown }) (List.range s1.sched.slots.length) s1
    exact recompute_sound h (hv.trans (by rw [h1]))

theorem takeAnswer_sound (x : Exchange) (slot : Nat) (t : Telegram) (h : (standing s).Sound) :
    (standing (takeAnswer x slot t s)).Sound := by
  have sight (e : PollEntry) : valveSight (markAnswered s.sec e) = valveSight e := by
    unfold markAnswered
    dsimp only
    split
    · exact valveSight_modValve (by simp) _
    · rfl
  have route {u : State} (hu : (standing u).Sound) : (standing (routeAnswer x slot t u)).Sound := by
    unfold routeAnswer
    rw [standing_returnBuffer]
    split
    · exact takeSample_sound _ hu
    · split
      · exact changeRecord_sound _ _ hu
      · exact changeRecord_sound _ _ hu
  unfold takeAnswer
  rw [standing_redecide]
  refine route ?_
  rw [standing_settleNotices]
  exact (standing_modEntry _ sight slot).symm ▸ h

theorem takeFromP_sound (t : Telegram) (h : (standing s).Sound) : (standing (takeFromP t s)).Sound := by
  have stray : (standing (takeStray s)).Sound := by simpa [takeStray] using h
  have answer (x : Exchange) (slot : Nat) :
      (standing (if t.dest = 0 && t.kind = expectedKind s slot then takeAnswer x slot t s else takeStray s)).Sound := by
    split
    · exact takeAnswer_sound x slot t h
    · exact stray
  unfold takeFromP
  split
  · exact stray
  · split
    · exact stray
    · split
      · exact (standing_moveToQueue _ _ _ _).symm ▸ h
      · exact answer _ _
      · exact answer _ _

theorem silentWindow_sound (h : (standing s).Sound) : (standing (silentWindow s)).Sound := by
  unfold silentWindow
  split
  · exact h
  · split
    · exact h
    · split
      · rwa [standing_retryExchange]
      · exact missExchange_sound _ h

end

/-! ### The zone table (R20, R30) -/

section
variable {p : Standing} {z : Nat} {old new : ZoneEntry}

theorem Standing.inUse_withTable_other {z' : Nat} (h : z' ≠ z) : (p.withTable (p.table.set z new)).inUse z' = p.inUse z' := by
  simp [inUse, withTable, h.symm]

/-- An entry that keeps class and valve node keeps the circuits and the zones in use (R27). -/
theorem Standing.Sound.withTable (h : p.Sound) (hz : p.table[z]? = some old) (hc : old.cls = new.cls)
    (hv : old.valve = new.valve) : (p.withTable (p.table.set z new)).Sound := by
  obtain ⟨⟨hl, hi⟩, ⟨hhanded, hinUse, hserved, hpath⟩⟩ := h
  have entry {β : Type} (f : ZoneEntry → β) (hf : f old = f new) (i : Nat) :
      ((p.table.set z new)[i]?).map f = (p.table[i]?).map f := by
    rw [List.getElem?_set]
    split
    · next h =>
      subst h
      rw [if_pos (List.getElem?_eq_some_iff.mp hz).1, hz, Option.map_some, Option.map_some, hf]
    · rfl
  have huse : (p.withTable (p.table.set z new)).inUse = p.inUse := by
    funext i
    have := entry (fun e => decide (e.cls ≠ .unused)) (by rw [hc]) i
    have any (o : Option ZoneEntry) : (o.any fun e => decide (e.cls ≠ .unused)) =
        (o.map fun e => decide (e.cls ≠ .unused)).any id := by cases o <;> rfl
    rw [inUse, inUse, any, any]
    exact congrArg (Option.any id) this
  have hheat : (p.withTable (p.table.set z new)).heat = p.heat := by
    funext i
    have bind (o : Option ZoneEntry) : o.bind (·.valve) = (o.map (·.valve)).join := by cases o <;> rfl
    rw [heat, heat, bind, bind]
    exact congrArg (fun o : Option (Option Nat) => o.join.all p.opened) (entry (·.valve) hv i)
  have hlen : (p.table.set z new).length = p.table.length := List.length_set
  refine ⟨⟨hl, hi⟩, ⟨hhanded, fun i => by rw [huse]; exact hinUse i, by rw [hheat]; exact hserved, fun hc' => ?_⟩⟩
  have := hpath hc'
  rw [hasPath] at this ⊢
  rw [huse, hheat]
  simpa [Standing.withTable, hlen] using this

end

theorem applyZone_sound (z : Nat) (new : ZoneEntry) {s : State} (h : (standing s).Sound) :
    (standing (applyZone z new s)).Sound := by
  unfold applyZone
  split
  · exact h
  · next old hz =>
    extract_lets wanted _ s1 s2 s3
    have h2 : standing s2 = ((standing s).withTable (s.zone.table.set z new)).withZones (evaluated [z] s1).zone.wanting :=
      standing_settleNotices _
    have hin : ∀ z' ∈ (evaluated [z] s1).zone.wanting, zoneInUse s1 z' = true := evaluated_inUse fun z' hz' hne => by
      rw [List.mem_singleton] at hne
      exact (Standing.inUse_withTable_other hne).trans (h.dispatched.inUse z' (h.dispatched.handed.symm ▸ hz'))
    generalize (evaluated [z] s1).zone.wanting = w at h2 hin
    have hzone : s2.zone.wanting = w := congrArg Standing.zones h2
    have hsup : s2.sup.wanting = s.sup.wanting := congrArg Standing.wanting h2
    have h3 : ∃ v, standing s3 = (standing s2).withWanting v ∧ (s2.sup.wanting = w → standing s3 = standing s2) := by
      simp only [s3]
      split
      · exact ⟨s2.sup.wanting, rfl, fun _ => rfl⟩
      · exact ⟨_, standing_takeValveNode z old.valve s2.zone.wanting s2,
          fun hw => standing_takeValveNode_same z old.valve (hw.trans hzone.symm)⟩
    obtain ⟨v, h3, hkept⟩ := h3
    have hzone3 : s3.zone.wanting = w := by rw [← hzone]; exact congrArg Standing.zones h3
    rw [hzone3]
    split
    · next hw =>
      have ht := takeWanting_tested (w := w) (s := s3) fun z' hz' => by
        rw [zoneInUse_eq, h3, h2]; exact hin z' hz'
      rw [h3, h2] at ht
      exact ht.sound ⟨h.guarded.locked, h.guarded.inhibited⟩ (Standing.reserved_fitted hin) rfl
    · next hw =>
      have hsame : w = s.sup.wanting := (not_not.mp hw).trans h.dispatched.handed.symm
      have h4 : standing s3 = (standing s).withTable (s.zone.table.set z new) := by
        rw [hkept (hsup.trans hsame.symm), h2, not_not.mp hw]
        rfl
      split
      · have ht := recompute_tested (s := s3) fun z' hz' => by
          have hw' : s3.sup.wanting = w := (congrArg Standing.wanting h4).trans hsame.symm
          rw [zoneInUse_eq, h4]; exact hin z' (hw' ▸ hz')
        rw [h4] at ht
        exact ht.sound ⟨h.guarded.locked, h.guarded.inhibited⟩
          (Standing.reserved_fitted fun z' hz' => hin z' (hsame.symm ▸ hz')) h.dispatched.handed
      · next hk =>
        simp only [Bool.or_eq_true, decide_eq_true_eq, not_or, not_not] at hk
        rw [h4]
        exact h.withTable hz hk.2 hk.1

/-! ### The poll list (R158) -/

/-- A slot's entry replaced by one that is found no more and no less, and shows the same, keeps what a search finds. -/
theorem findSome?_filter_set_same {α β : Type} {f : α → Bool} {g : α → β} {xs : List (Option α)} {i : Nat} {o o' : Option α}
    (h : xs[i]? = some o) (hg : (o'.filter f).map g = (o.filter f).map g) :
    ((xs.set i o').findSome? (Option.filter f)).map g = (xs.findSome? (Option.filter f)).map g := by
  induction xs generalizing i with
  | nil => simp at h
  | cons x xs ih =>
    cases i with
    | zero =>
      obtain rfl : x = o := by simpa using h
      simp only [List.set_cons_zero, List.findSome?_cons]
      cases hx : Option.filter f x <;> cases ho : Option.filter f o' <;> simp_all
    | succ i =>
      have hi : xs[i]? = some o := by simpa using h
      cases hx : Option.filter f x <;> simp [hx, ih hi]

/-- The valve of an address is the valve of an entry with it. -/
theorem valveAt_spec {s : State} {addr : Nat} {r : ValveRecord} (h : valveAt s addr = some r) :
    ∃ i e, slotGet s.sched.slots i = some e ∧ e.addr = addr ∧ e.valve? = some r := by
  obtain ⟨i, hi, hr⟩ := Option.bind_eq_some_iff.mp h
  obtain ⟨e, he, hf⟩ := findSlot_isSome hi
  rw [he] at hr
  simp only [Bool.and_eq_true, decide_eq_true_eq] at hf
  exact ⟨i, e, he, hf.1, hr⟩

/-- A slot of the poll list written, so that every valve a zone names shows OPEN exactly if it did, keeps the supervisor sound. -/
theorem polled_sound {slot : Nat} {o : Option PollEntry} {ends : Bool} {stale : Option Nat} {s : State}
    (h : (standing s).Sound) (ho : ∀ z addr, zoneValve s z = some addr →
      (valveAt (polled slot o ends stale s) addr).any (fun r => r.reported = .opened) =
        (valveAt s addr).any (fun r => r.reported = .opened)) :
    (standing (polled slot o ends stale s)).Sound := by
  obtain ⟨⟨hl, hi⟩, ⟨hhanded, hinUse, hserved, hpath⟩⟩ := h
  have hheat : (standing (polled slot o ends stale s)).heat = (standing s).heat := by
    rw [← heatPath_eq, ← heatPath_eq]
    funext z
    have hv : zoneValve (polled slot o ends stale s) z = zoneValve s z := rfl
    unfold heatPath
    rw [hv]
    cases hz : zoneValve s z with
    | none => rfl
    | some addr => exact ho z addr hz
  refine ⟨⟨hl, hi⟩, ⟨hhanded, hinUse, by rw [hheat]; exact hserved, fun hc => ?_⟩⟩
  have := hpath hc
  rw [Standing.hasPath] at this ⊢
  rw [hheat]
  exact this

/-- An address that neither the entry in a slot nor the one put there is the valve of keeps its valve. -/
theorem valveAt_polled {slot addr : Nat} {o : Option PollEntry} {ends : Bool} {stale : Option Nat} {s : State}
    (h : ∀ e, slotGet s.sched.slots slot = some e → e.addr = addr → e.isGauge = true)
    (ho : ∀ e, o = some e → e.addr = addr → e.isGauge = true) :
    valveAt (polled slot o ends stale s) addr = valveAt s addr := by
  have filter_none (x : Option PollEntry) (hx : ∀ e, x = some e → e.addr = addr → e.isGauge = true) :
      x.filter (fun e => e.addr = addr && !e.isGauge) = none :=
    Option.filter_eq_none_iff.mpr fun e he => by simpa using hx e he
  rw [valveAt_eq, valveAt_eq]
  have hslots : (polled slot o ends stale s).sched.slots = s.sched.slots.set slot o := rfl
  rw [hslots]
  cases hx : s.sched.slots[slot]? with
  | none => rw [List.set_eq_of_length_le (List.getElem?_eq_none_iff.mp hx)]
  | some x =>
    have hxe : x.filter (fun e => e.addr = addr && !e.isGauge) = none := filter_none x fun e he =>
      h e (slotGet_eq_some.mpr (by rw [hx, he]))
    have := findSome?_filter_set_same (g := id) hx (by rw [filter_none o ho, hxe])
    rw [Option.map_id, id, id] at this
    rw [this]

/-- No zone names the entry of a slot as its valve node. -/
def Unnamed (slot : Nat) (s : State) : Prop := ∀ e, slotGet s.sched.slots slot = some e → namedByZone e s = false

theorem Unnamed.isGauge {slot z addr : Nat} {s : State} (h : Unnamed slot s) (hz : zoneValve s z = some addr) :
    ∀ e, slotGet s.sched.slots slot = some e → e.addr = addr → e.isGauge = true := by
  intro e he ha
  obtain ⟨ze, hze, hv⟩ := Option.bind_eq_some_iff.mp hz
  have := h e he
  simp only [namedByZone, Bool.and_eq_false_iff, Bool.not_eq_false', List.any_eq_false, decide_eq_true_eq] at this
  exact this.resolve_right fun hn => hn ze (List.mem_of_getElem? hze) (by rw [hv, ha])

theorem removed_sound {slot : Nat} {ends : Bool} {stale : Option Nat} {s : State} (h : (standing s).Sound)
    (hn : Unnamed slot s) : (standing (polled slot none ends stale s)).Sound :=
  polled_sound h fun z addr hz => by rw [valveAt_polled (hn.isGauge hz) (by simp)]

theorem newEntry_valve (c : PollCfg) (now : Nat) : (newEntry c now).valve? = if c.isValve then some (newValve now) else none := by
  cases h : c.isValve <;> simp [newEntry, decideDue, PollEntry.valve?, h]

/-- A new entry, at an address that no other slot holds, in a slot whose entry no zone names: its valve has not reported. -/
theorem added_sound {slot : Nat} {c : PollCfg} {ends : Bool} {stale : Option Nat} {s : State} (h : (standing s).Sound)
    (hn : Unnamed slot s) (hother : otherSlot (fun e => e.addr = c.addr) s.sched.slots slot = false) :
    (standing (polled slot (some (newEntry c s.tenths)) ends stale s)).Sound := by
  have alone {i : Nat} {e : PollEntry} (he : slotGet s.sched.slots i = some e) (ha : e.addr = c.addr) : i = slot := by
    by_contra hi
    have := otherSlot_iff (f := fun e => e.addr = c.addr).mpr ⟨i, e, hi, he, decide_eq_true ha⟩
    rw [hother] at this
    cases this
  refine polled_sound h fun z addr hz => ?_
  by_cases ha : c.addr = addr
  · have before : valveAt s addr = none := by
      by_contra hsome
      obtain ⟨r, hr⟩ := Option.ne_none_iff_exists'.mp hsome
      obtain ⟨i, e, he, hea, hv⟩ := valveAt_spec hr
      obtain rfl := alone he (hea.trans ha.symm)
      have hg := hn.isGauge hz e he hea
      cases hrole : e.role <;> simp [PollEntry.isGauge, PollEntry.valve?, hrole] at hg hv
    rw [before, Option.any_none, Bool.eq_false_iff, Ne, Option.any_eq_true]
    rintro ⟨r, hr, hopen⟩
    obtain ⟨i, e, he, hea, hv⟩ := valveAt_spec hr
    have hset : slotGet (s.sched.slots.set slot (some (newEntry c s.tenths))) i = some e := he
    rw [slotGet_set] at hset
    split at hset
    · split at hset
      · cases hset
        rw [newEntry_valve] at hv
        split at hv
        · cases hv; simp [newValve] at hopen
        · cases hv
      · cases hset
    · next hi => exact hi (alone hset (hea.trans ha.symm)).symm
  · rw [valveAt_polled (hn.isGauge hz) fun e he hea => ?_]
    cases he
    exact absurd hea ha

theorem applyPollWrite_sound {slot : Nat} {new : Option PollCfg} {s : State} (h : (standing s).Sound)
    (hb : breaksName slot new s = false)
    (hother : ∀ c, new = some c → otherSlot (fun e => e.addr = c.addr) s.sched.slots slot = false) :
    (standing (applyPollWrite slot new s)).Sound := by
  cases new with
  | none =>
    cases he : slotGet s.sched.slots slot with
    | none =>
      have : applyPollWrite slot none s = wakeSched s := by unfold applyPollWrite; rw [he]
      rwa [this]
    | some e =>
      rw [applyPollWrite_removed he]
      exact removed_sound h fun e' he' => by
        simpa [breaksName, he'] using hb
  | some c =>
    cases he : slotGet s.sched.slots slot with
    | none =>
      rw [applyPollWrite_new c he]
      exact added_sound h (fun e' he' => by simp [he] at he') (hother c rfl)
    | some e =>
      cases hs : samePollEntry e c with
      | true =>
        rw [applyPollWrite_changed he hs]
        have hsight : ∀ e', (if e.interval = c.interval then e else changeInterval c.interval s.tenths e) = e' →
            e'.addr = e.addr ∧ e'.valve? = e.valve? ∧ e'.isGauge = e.isGauge := by
          rintro _ rfl
          split <;> exact ⟨rfl, rfl, rfl⟩
        generalize (if e.interval = c.interval then e else changeInterval c.interval s.tenths e) = e' at hsight
        obtain ⟨haddr, hvalve, hgauge⟩ := hsight e' rfl
        refine polled_sound h fun z addr _ => ?_
        have hslots : (polled slot (some e') false s.level.staleFrom s).sched.slots = s.sched.slots.set slot (some e') := rfl
        have hfind := findSome?_filter_set_same (f := fun e => e.addr = addr && !e.isGauge) (g := PollEntry.valve?)
          (slotGet_eq_some.mp he) (o' := some e') (by
            cases hf : (decide (e.addr = addr) && !e.isGauge) <;> simp [Option.filter, haddr, hgauge, hf, hvalve])
        have bind (x : Option PollEntry) : x.bind PollEntry.valve? = (x.map PollEntry.valve?).join := by cases x <;> rfl
        rw [valveAt_eq, valveAt_eq, hslots, bind, bind, hfind]
      | false =>
        rw [applyPollWrite_replaced he hs]
        refine added_sound h (fun e' he' => ?_) (hother c rfl)
        cases he.symm.trans he'
        cases hname : namedByZone e s with
        | false => rfl
        | true =>
          have hg : e.isGauge = false := by
            simp only [namedByZone, Bool.and_eq_true, Bool.not_eq_true'] at hname
            exact hname.1
          simp only [breaksName, he, Option.any_some, hname, Bool.true_and, Bool.not_eq_false', Bool.and_eq_true,
            decide_eq_true_eq] at hb
          rw [samePollEntry, hg, hb.1, hb.2] at hs
          simp at hs

end Sys2Proof.Machine
end

section
/-! SUPPORT. What keeps the supervisor sound, continued: management requests, the relay unit, the ports and the resets (R62 to R64,
R129, R143 to R154, R170 to R174). -/

namespace Sys2Proof.Machine

section
variable {s : State}

/-! ### Writes (R172) -/

/-- A write leaves the supervisor sound, if its owner takes it. -/
def WriteSound (r : WriteResult) : Prop := ∀ x, r = some x → (standing x.2).Sound

theorem writeSound_some {b : Bool} {t : State} (h : (standing t).Sound) : WriteSound (some (b, t)) := by
  rintro _ ⟨⟩; exact h

theorem writeSound_none : WriteSound none := by rintro _ ⟨⟩

theorem writeNum_sound {w lo hi : Nat} {data : List Byte} {k : Nat → State} (h : ∀ v, (standing (k v)).Sound) :
    WriteSound (writeNum w lo hi data k) := by
  unfold writeNum
  split
  · exact writeSound_some (h _)
  · exact writeSound_none

theorem writeEnrol_sound (idx : Nat) (data : List Byte) (h : (standing s).Sound) : WriteSound (writeEnrol idx data s) := by
  unfold writeEnrol
  split
  · exact writeSound_some (applyEnrol_sound _ _ h)
  · dsimp only
    split
    · exact writeSound_none
    · split
      · exact writeSound_none
      · exact writeSound_some (applyEnrol_sound _ _ h)
  · exact writeSound_none

theorem writeZone_sound (z : Nat) (data : List Byte) (h : (standing s).Sound) : WriteSound (writeZone z data s) := by
  unfold writeZone
  split
  · split
    · extract_lets setpoint ceiling leadIn valveIn new given
      split
      · exact writeSound_some (applyZone_sound _ _ h)
      · exact writeSound_none
    · exact writeSound_none
  · exact writeSound_none

theorem writeSetback_sound (data : List Byte) (h : (standing s).Sound) : WriteSound (writeSetback data s) :=
  writeNum_sound fun _ => evaluateZones_sound _ h

theorem writePoll_sound (idx : Nat) (data : List Byte) (h : (standing s).Sound) : WriteSound (writePoll idx data s) := by
  unfold writePoll
  split
  · split
    · exact writeSound_none
    · next hb => exact writeSound_some (applyPollWrite_sound h (by simpa using hb) (by simp))
  · dsimp only
    split
    · exact writeSound_none
    · split
      · exact writeSound_none
      · next hc =>
        simp only [Bool.or_eq_true, not_or, Bool.not_eq_true] at hc
        refine writeSound_some (applyPollWrite_sound h hc.2 ?_)
        rintro _ ⟨⟩
        exact hc.1.1.1
  · exact writeSound_none

theorem writeStaged_sound (idx : Nat) (data : List Byte) (h : (standing s).Sound) : WriteSound (writeStaged idx data s) := by
  unfold writeStaged
  split
  · exact writeNum_sound fun _ => h
  · split
    · exact writeSound_some h
    · exact writeSound_none

theorem writeTankSet_sound (idx : Nat) (data : List Byte) (h : (standing s).Sound) : WriteSound (writeTankSet idx data s) := by
  have scaling (set : LevelSet) : (standing (applyScaling set s)).Sound := by
    unfold applyScaling; split
    · exact h
    · rwa [standing_scalingChange]
  have shape (set : LevelSet) : (standing (applyShape set s)).Sound := by
    unfold applyShape; split <;> exact h
  have levels (w lo hi : Nat) (k : Nat → AcctSet) : WriteSound (writeLevels w lo hi data k s) := fun x hx =>
    writeNum_sound (k := fun v => setAcctSet (k v) s) (fun _ => h) x (Option.filter_eq_some_iff.mp hx).1
  unfold writeTankSet
  dsimp only
  split
  case h_1 =>
    split
    · split_ifs
      · exact writeSound_some (scaling _)
      · exact writeSound_some (scaling _)
      · exact writeSound_none
    · exact writeSound_none
  case h_6 =>
    split
    · exact writeSound_some (shape _)
    · exact writeSound_none
  case h_7 => exact writeNum_sound fun _ => shape _
  case h_2 | h_3 | h_4 => exact writeNum_sound fun _ => scaling _
  case h_9 | h_10 | h_11 => exact levels _ _ _ _
  all_goals exact writeNum_sound fun _ => h

theorem writeBurnerSet_sound (idx : Nat) (data : List Byte) (h : (standing s).Sound) :
    WriteSound (writeBurnerSet idx data s) := by
  have applied {cond : State → Bool} {effect : State → State} (he : ∀ u, standing (effect u) = standing u) (u : State)
      (hu : (standing u).Sound) : (standing (applyWhen cond effect u)).Sound := by
    unfold applyWhen
    split
    · rwa [he]
    · exact hu
  unfold writeBurnerSet
  dsimp only
  split
  · exact writeNum_sound fun _ => testSupervisor_sound h
  · exact writeNum_sound fun _ => testSupervisor_sound h
  · exact writeNum_sound fun _ => applied standing_dropPump _ h
  · exact writeNum_sound fun _ => applied standing_endHoldExtension _ h

theorem writeRecoverySet_sound (idx : Nat) (data : List Byte) (h : (standing s).Sound) :
    WriteSound (writeRecoverySet idx data s) := by
  unfold writeRecoverySet
  dsimp only
  split
  · exact writeNum_sound fun _ => checkDue_sound h
  · exact writeNum_sound fun _ => checkDue_sound h
  · exact writeNum_sound fun _ => h
  · exact writeNum_sound fun _ => h
  · exact writeNum_sound fun _ => h
  · split
    · exact writeSound_some h
    · exact writeSound_none

theorem writeRelaySet_sound (idx : Nat) (data : List Byte) (h : (standing s).Sound) :
    WriteSound (writeRelaySet idx data s) := by
  unfold writeRelaySet
  dsimp only
  split_ifs <;> exact writeNum_sound fun _ => h

theorem writeMask_sound (data : List Byte) (h : (standing s).Sound) : WriteSound (writeMask data s) := by
  unfold writeMask
  split
  · exact writeSound_some (by rwa [standing_settleNotices, standing_setMgmt])
  · exact writeSound_none

theorem writeItem_sound (o : Obj) (i : Nat) (data : List Byte) (h : (standing s).Sound) :
    WriteSound (writeItem o i data s) := by
  unfold writeItem
  split
  · unfold writeCounter
    split
    · split
      · exact writeSound_some (by rwa [standing_clearCounters])
      · exact writeSound_none
    · exact writeSound_none
  · split
    · exact writeEnrol_sound i data h
    · split
      · exact writeSetback_sound data h
      · exact writeZone_sound i data h
    · exact writePoll_sound i data h
    · exact writeStaged_sound i data h
    · exact writeTankSet_sound i data h
    · exact writeBurnerSet_sound i data h
    · exact writeRecoverySet_sound i data h
    · exact writeRelaySet_sound i data h
    · exact writeMask_sound data h
    · exact writeSound_none

/-! ### Actions and requests (R170, R173) -/

theorem actReset_sound (h : (standing s).Sound) : (standing (actReset s).1).Sound := by
  unfold actReset
  split
  · next hw =>
    split
    · exact h
    · exact h.withRecov (by simp [Standing.blocks, standing, hw]) .pulsing
  · next hw => exact h.withRecov (by simp [Standing.blocks, standing, hw]) .pulsing
  all_goals exact h

theorem actClearLock_sound (h : (standing s).Sound) : (standing (actClearLock s).1).Sound := by
  unfold actClearLock
  split
  · next hl => exact clearLock_sound h (by simp [Standing.blocks, standing, hl])
  · exact h

theorem doAction_sound (a : Action) (room : Room) (src idx : Byte) (data : List Byte) (h : (standing s).Sound) :
    (standing (doAction a room src idx data s).1).Sound := by
  unfold doAction
  split
  · exact h
  · cases a with
    | swapStrap =>
      dsimp only
      unfold actSwap
      split
      · exact h
      · exact swapBanks_sound h
    | store => simpa using h
    | clearNotice => simpa [actClear] using h
    | resetBurner => exact actReset_sound h
    | clearHardLock => exact actClearLock_sound h
    | holdTank => exact h
    | forgetLevel => exact forgetLevel_sound h
    | restart => exact h

theorem handle_sound (op obj idx : Byte) (room : Room) (src : Byte) (data : List Byte) (h : (standing s).Sound) :
    (standing (handle op obj idx room src data s).1).Sound := by
  unfold handle
  split
  · exact h
  · exact h
  · unfold handleWrite
    split
    · exact h
    · split_ifs
      · exact h
      · exact h
      · exact h
      · exact h
      · split
        · exact h
        · next e => exact writeItem_sound _ _ _ h _ e
  · unfold handleAction
    split
    · exact h
    · split_ifs
      · exact h
      · exact h
      · exact h
      · exact doAction_sound _ _ _ _ _ h

theorem request_sound (op : Op) (obj idx : Byte) (q : Req) (h : (standing s).Sound) :
    (standing (request op obj idx q s)).Sound :=
  (standing_respond _ _ _ _ _ _ _).symm ▸ handle_sound op.code obj idx q.room q.src q.data h

/-! ### The relay unit (R143 to R151) -/

theorem removeNode_sound (slot addr : Nat) (f : RelayCounters → RelayCounters) (h : (standing s).Sound) :
    (standing (removeNode slot addr f s)).Sound :=
  nodeChanged_sound addr h

theorem learn_sound (addr : Nat) (room : Room) (h : (standing s).Sound) : (standing (learn addr room s)).Sound := by
  unfold learn
  split
  · unfold learnNew
    split
    · exact nodeChanged_sound addr h
    · split
      · exact nodeChanged_sound addr (removeNode_sound _ _ _ h)
      · exact h
  · split
    · exact h
    · exact nodeChanged_sound addr h

theorem takeDemand_sound (room : Room) (t : Telegram) (h : (standing s).Sound) : (standing (takeDemand room t s)).Sound := by
  unfold takeDemand
  split
  · rwa [standing_returnBuffer]
  · split
    · rwa [standing_returnBuffer]
    · extract_lets e part stored done
      have hdone : (standing done).Sound := by
        simp only [done, standing_returnBuffer]
        exact evaluateZones_sound _ h
      obtain ⟨i, hi⟩ := statusPlant_fst stored done
      rw [standing_generate, hi, standing_setFreeIdx]
      exact hdone

theorem takeRequest_sound (room : Room) (t : Telegram) (h : (standing s).Sound) : (standing (takeRequest room t s)).Sound := by
  unfold takeRequest
  split
  · rw [standing_respond, standing_returnBuffer]
    exact handle_sound _ _ _ _ _ _ h
  · rwa [standing_returnBuffer]

theorem takeFromRoom_sound (room : Room) (t : Telegram) (h : (standing s).Sound) :
    (standing (takeFromRoom room t s)).Sound := by
  have heard : (standing (countStorm t.src.toNat (learn t.src.toNat room s))).Sound := learn_sound _ room h
  unfold takeFromRoom
  generalize countStorm t.src.toNat (learn t.src.toNat room s) = u at heard
  dsimp only
  split
  · rwa [standing_discardExcess]
  · unfold resolve
    split_ifs
    · rwa [standing_discard]
    · exact takeDemand_sound room t heard
    · exact takeRequest_sound room t heard
    · rwa [standing_discard]
    · rwa [standing_relayOn]

theorem ageNodes_sound (h : (standing s).Sound) : (standing (ageNodes s)).Sound := by
  have all (xs : List Nat) (u : State) (hu : (standing u).Sound) : (standing (forEach xs ageSlot u)).Sound := by
    induction xs generalizing u with
    | nil => exact hu
    | cons x xs ih =>
      refine ih (ageSlot x u) ?_
      unfold ageSlot
      split
      · exact hu
      · split
        · exact removeNode_sound _ _ _ hu
        · exact hu
  exact all _ s h

/-! ### The ports (R126 to R136) -/

@[simp] theorem standing_beginAssembly (port : Port) (s : State) : standing (beginAssembly port s) = standing s := by
  unfold beginAssembly
  dsimp only
  split <;> simp

@[simp] theorem standing_dropAssembly (port : Port) (s : State) : standing (dropAssembly port s) = standing s := by
  unfold dropAssembly
  split
  · rfl
  · dsimp only
    split <;> simp

@[simp] theorem standing_earlyCollision (port : Port) (s : State) : standing (earlyCollision port s) = standing s := by
  unfold earlyCollision
  dsimp only
  split <;> simp

@[simp] theorem standing_lateCollision (port : Port) (s : State) : standing (lateCollision port s) = standing s := by
  simp [lateCollision]

@[simp] theorem standing_pMismatch (s : State) : standing (pMismatch s) = standing s := by
  unfold pMismatch
  dsimp only
  split_ifs <;> simp

@[simp] theorem standing_txSent (port : Port) (s : State) : standing (txSent port s) = standing s := by
  unfold txSent
  dsimp only
  split <;> simp

theorem telegramEnd_sound (port : Port) (chars : List RxChar) (h : (standing s).Sound) :
    (standing (telegramEnd port chars s)).Sound := by
  have delivers (t : Telegram) {u : State} (hu : (standing u).Sound) : (standing (deliver port t u)).Sound := by
    unfold deliver
    split
    · exact takeFromRoom_sound _ t hu
    · exact takeFromP_sound t hu
  unfold telegramEnd
  split
  · rwa [standing_modPort]
  · unfold endAssembly
    dsimp only
    split_ifs
    · exact delivers _ (by simpa using h)
    · simpa using h
    · simpa using h
    · simpa using h

theorem enterBreak_sound (port : Port) (h : (standing s).Sound) : (standing (enterBreak port s)).Sound := by
  unfold enterBreak
  extract_lets s1 flushed s2
  have h2 : standing s2 = standing s := by simp [s2, s1]
  rw [standing_settleNotices]
  cases port with
  | h => exact h2 ▸ h
  | y => exact h2 ▸ h
  | p => exact pBreak_sound (h2 ▸ h)

@[simp] theorem standing_leaveBreak (port : Port) (s : State) : standing (leaveBreak port s) = standing s := by
  unfold leaveBreak
  rw [standing_settleNotices]
  cases port <;> simp

/-! ### The resets (R43, R66, R67) -/

/-- A reset finds HARD_LOCK or no episode (R66, R67). -/
theorem recoveryAfterReset_state (img : StoreImage) (r : Option SafetyRecord) :
    (recoveryAfterReset img r).state = .hardLock ∨ (recoveryAfterReset img r).state = .closed := by
  cases r with
  | none => exact .inl rfl
  | some r =>
    cases hf : r.flag <;> simp [recoveryAfterReset, hf]

theorem resetPart_sound (s : State) : (standing (resetPart s)).Sound := by
  have hd : (standing (loaded (storeFound s) (safetyFound s) s)).Dispatched :=
    ⟨rfl, fun z hz => absurd hz List.not_mem_nil, rfl, fun hc => by cases hc⟩
  have hst := recoveryAfterReset_state ((storeFound s).getD factoryImage) (safetyFound s)
  unfold resetPart settleReset
  extract_lets s1
  have h1 : standing s1 = standing (loaded (storeFound s) (safetyFound s) s) := by
    simp only [s1]
    split <;> simp
  have hrecov : s1.recov.state = (recoveryAfterReset ((storeFound s).getD factoryImage) (safetyFound s)).state :=
    congrArg Standing.recov h1
  rw [standing_settleNotices]
  rw [← h1] at hd
  split
  · exact hd.lock
  · next hn =>
    have hc : s1.recov.state = .closed := by
      rw [hrecov] at hn ⊢
      exact hst.resolve_left hn
    have htank : s1.acct.tank = .unknown := congrArg Standing.tank h1
    exact ⟨⟨fun hb => by simp [Standing.blocks, standing, hc] at hb, fun ht => by
      have : s1.acct.tank = .empty := ht
      rw [htank] at this
      cases this⟩, hd⟩

end

end Sys2Proof.Machine
end

section
/-! Every step keeps the supervisor sound (R31). -/

namespace Sys2Proof.Machine

/-- A command leaves the supervisor sound. -/
def StepSound (o : Host.Outcome State Fault Refusal) : Prop := ∀ t, o = .next t → (standing t).Sound

theorem stepSound_next {t : State} (h : (standing t).Sound) : StepSound (.next t) := by
  rintro _ ⟨⟩; exact h

section
variable {s : State} {cause : Bool} {effect : State → State}

/-- An event leaves the supervisor sound if its effect does. -/
theorem act_sound (h : (standing s).Sound) (he : cause = true → (standing (effect s)).Sound) :
    StepSound (act cause effect s) := by
  cases cause with
  | false => exact stepSound_next h
  | true => exact stepSound_next (by rw [if_pos rfl, standing_finish]; exact he rfl)

/-- An event whose effect leaves the standing as it is. -/
theorem act_standing (h : (standing s).Sound) (he : standing (effect s) = standing s) : StepSound (act cause effect s) :=
  act_sound h fun _ => he ▸ h

theorem requested_sound (op : Op) (obj idx : Byte) (q : Req) (h : (standing s).Sound) :
    StepSound (requested op obj idx q s) :=
  act_sound h fun _ => request_sound op obj idx q h

/-- While CALL is asserted the supervisor may take any state of its own (R31, R34). -/
theorem Standing.Sound.withCall {p : Standing} (h : p.Sound) (hc : p.call = true) (st : SupState) :
    (p.withState st).Sound := by
  have notLocked : p.state ≠ .locked ∧ p.state ≠ .inhibited := by
    constructor <;> intro hs <;> simp [Standing.call, hs] at hc
  refine ⟨⟨fun hb => absurd (h.guarded.locked hb) notLocked.1, fun ht => ?_⟩,
    h.dispatched.handed, h.dispatched.inUse, h.dispatched.served, fun _ => h.dispatched.path hc⟩
  exact absurd (h.guarded.inhibited ht) (by simp [notLocked])

theorem runRise_sound (h : (standing s).Sound) : (standing (runRise s)).Sound := by
  unfold runRise
  extract_lets _ s1 _ s2
  rw [standing_recRunEdge]
  simp only [s2]
  split
  · next hs =>
    rw [standing_startHoldExtension]
    exact h.withCall (by simp [Standing.call, standing, show s.sup.state = .calling from hs]) .firing
  · next hs => exact h.withCall (by simp [Standing.call, standing, show s.sup.state = .holding from hs]) .firing
  · exact h

theorem runFall_sound (h : (standing s).Sound) : (standing (runFall s)).Sound := by
  unfold runFall
  extract_lets _ s1 s2 _ _ s3 s4
  have h4 : standing s4 = standing s := standing_recRunEdge (markMinOff s3) false
  have hstate : s4.sup.state = s.sup.state := congrArg Standing.state h4
  rw [← h4] at h
  split
  · next hs => exact h.withCall (by simp [Standing.call, standing, hs]) .holding
  · exact h

end

/-- Every command keeps the supervisor sound. -/
theorem exec_sound (c : Instr) {s : State} (h : (standing s).Sound) : StepSound (exec c s) := by
  cases c with dsimp only [exec]
  | powerOn => exact stepSound_next (resetPart_sound s)
  | pinReset => exact stepSound_next (resetPart_sound s)
  | restartTaken =>
    refine stepSound_next ?_
    split
    · exact resetPart_sound s
    · exact h
  | rxFirstCharacter port => exact act_standing h (standing_beginAssembly port s)
  | rxTelegramEnd port chars => exact act_sound h fun _ => telegramEnd_sound port chars h
  | startupGraceExpiry =>
    unfold execStartupGraceExpiry
    exact act_sound h fun _ => evaluateAll_sound (s := s.setZone { s.zone with grace := false }) h
  | hourWindowBoundary =>
    unfold execHourWindowBoundary
    exact act_sound h fun _ => evaluateAll_sound h
  | dutyPortionEnd z => exact act_sound h fun _ => evaluateZones_sound _ h
  | runSenseChange level => exact act_standing h rfl
  | lockoutSenseChange level => exact act_standing h rfl
  | runRise => exact act_sound h fun _ => runRise_sound h
  | runFall => exact act_sound h fun _ => runFall_sound h
  | lockoutTaken => exact act_sound h fun _ => lockoutTaken_sound h
  | lockoutReleased => exact act_sound h fun _ => recLockoutReleased_sound h
  | minOffElapsed => exact act_sound h fun _ => testSupervisor_sound h
  | minOnExpiry => exact act_sound h fun _ => testSupervisor_sound h
  | startWindowExpiry => exact act_standing h (standing_raiseEvent _ _)
  | pumpOverrunExpiry => exact act_standing h (standing_dropPump s)
  | holdExtendExpiry => exact act_standing h rfl
  | retryDue =>
    refine act_sound h fun hd => ?_
    obtain ⟨r, hr⟩ := standing_decideAttempt s
    exact hr ▸ h.withRecov (attemptDue_blocks hd) r
  | safetyWriteStart => exact act_standing h rfl
  | safetyWriteComplete =>
    refine act_sound h fun _ => ?_
    rw [completeSafetyWrite, standing_startNextWrite]
    exact recWriteDone_sound h
  | resetPulseEnd =>
    refine act_sound h fun hp => enterConfirming_sound h ?_
    simp only [Bool.and_eq_true, decide_eq_true_eq] at hp
    simp [Standing.blocks, standing, hp.1]
  | confirmTimeout =>
    refine act_sound h fun hp => ?_
    simp only [Bool.and_eq_true, decide_eq_true_eq] at hp
    obtain ⟨r, hr⟩ := standing_attemptNotCleared s
    exact hr ▸ h.withRecov (by simp [Standing.blocks, standing, hp.1]) r
  | provingComplete => exact act_sound h fun _ => h.withRecov_free (r := .closed) rfl
  | resetHistoryLapse => exact act_standing h rfl
  | deliveryTimeout => exact act_standing h (standing_endDelivery s _)
  | staleTimerExpiry => exact act_standing h rfl
  | serviceHoldExpiry => exact act_standing h rfl
  | breakEntry port => exact act_sound h fun _ => enterBreak_sound port h
  | breakExit port => exact act_standing h (standing_leaveBreak port s)
  | quietWaitMet port => exact act_standing h (standing_modPort s _ _)
  | earlyCollision r ch => exact act_standing h (standing_earlyCollision _ s)
  | lateCollision r ch => exact act_standing h (standing_lateCollision _ s)
  | backoffEnd r => exact act_standing h (standing_modPort s _ _)
  | pTxMismatch => exact act_standing h (standing_pMismatch s)
  | pRetryPauseEnd => exact act_standing h (standing_modPort s _ _)
  | txSent port => exact act_standing h (standing_txSent port s)
  | holdOffRepeat => exact act_standing h (standing_broadcastHoldOff _ _)
  | nodeAgingCheck => exact act_sound h fun _ => ageNodes_sound h
  | stormIntervalStart => exact act_standing h rfl
  | broadcastIntervalStart => exact act_standing h rfl
  | pollDue => exact act_standing h rfl
  | responseWindowClose => exact act_sound h fun _ => silentWindow_sound h
  | valveTravelExpiry slot => exact act_sound h fun _ => changeRecord_sound slot _ h
  | noticeRepeat => exact act_standing h (standing_composeNotices _)
  | read obj idx q => exact requested_sound _ _ _ q h
  | enrolWrite idx q => exact requested_sound _ _ _ q h
  | zoneWrite idx q => exact requested_sound _ _ _ q h
  | reserveSetbackWrite q => exact requested_sound _ _ _ q h
  | pollWrite idx q => exact requested_sound _ _ _ q h
  | strapStagedWrite idx q => exact requested_sound _ _ _ q h
  | scalingWrite item q => exact requested_sound _ _ _ q h
  | filterShapeWrite item q => exact requested_sound _ _ _ q h
  | tankLevelsWrite item q => exact requested_sound _ _ _ q h
  | burnerSetWrite item q => exact requested_sound _ _ _ q h
  | recoverySetWrite item q => exact requested_sound _ _ _ q h
  | relaySettingsWrite item q => exact requested_sound _ _ _ q h
  | noticeMaskWrite q => exact requested_sound _ _ _ q h
  | counterClear obj idx q => exact requested_sound _ _ _ q h
  | mgmtWrite obj idx q => exact requested_sound _ _ _ q h
  | swapStrap idx q => exact requested_sound _ _ _ q h
  | store idx q => exact requested_sound _ _ _ q h
  | storeWriteStart => exact act_standing h (standing_startStoreWrite s)
  | storeComplete verified => exact act_standing h (standing_endStore s verified)
  | clearNotice idx q => exact requested_sound _ _ _ q h
  | resetBurner idx q => exact requested_sound _ _ _ q h
  | clearHardLock idx q => exact requested_sound _ _ _ q h
  | holdTank idx q => exact requested_sound _ _ _ q h
  | forgetLevel idx q => exact requested_sound _ _ _ q h
  | restart idx q => exact requested_sound _ _ _ q h
  | segmentLineChange port level => exact act_standing h (standing_modPort s _ _)

theorem step_sound {s : State} (h : (standing s).Sound) : StepSound (step s) := by
  unfold step
  split
  · unfold idle
    split
    · exact stepSound_next h
    · rintro _ ⟨⟩
  · exact exec_sound _ (by rwa [standing_setPending])

/-- With CALL asserted the supervisor is neither LOCKED nor INHIBITED, so nothing forbids the call (R31). -/
theorem SupervisorSound.callSafe {s : State} (h : SupervisorSound s) : CallSafe s := by
  intro hc
  have notLocked : s.sup.state ≠ .locked ∧ s.sup.state ≠ .inhibited := by
    constructor <;> intro hs <;> simp [callAsserted, hs] at hc
  refine ⟨?_, fun ht => ?_, h.path hc⟩
  · by_contra hb
    exact notLocked.1 (h.locked (by simpa using hb))
  · exact (h.inhibited ht).elim notLocked.1 notLocked.2

/-- Settles O57: soundness is a property of the standing, and every step keeps it; a sound supervisor calls only safely. -/
theorem stepKeepsCallSafe : Obligations.StepKeepsCallSafe :=
  ⟨fun s t h hstep => (supervisorSound_iff t).mpr (step_sound ((supervisorSound_iff s).mp h) t hstep),
    fun _ h => h.callSafe⟩

end Sys2Proof.Machine
end

section
/-! SUPPORT. A command that changes the burner's blocks alone and ends settled, the debounce stages, and the parts of the supervisor's
operations (R22, R36, R41, R58). -/

namespace Sys2Proof.Machine

/-! ### Commands that end settled -/

/-- A change of the burner's and the oil's blocks that touches no condition kind keeps a settled state settled (R176, R177). -/
theorem Settled.withBlocks {s : State} (h : Settled s) (sup : Supervisor) {recov : Recovery} {level : Level}
    {acct : Accounting} (hr : recov.state = .hardLock ↔ s.recov.state = .hardLock) (hl : level.status = s.level.status)
    (ha : acct.tank = s.acct.tank) : Settled { s with sup := sup, recov := recov, level := level, acct := acct } := by
  have hlock : hardLockCond { s with sup := sup, recov := recov, level := level, acct := acct } = hardLockCond s := by
    simp only [hardLockCond, hr]
  refine h.congr rfl ?_ rfl rfl
  simp only [enabledSet, pendingSet, conditionSet, hlock, reserveCond, emptyCond, levelStaleCond, hl, ha]
  rfl

/-- An event that occurs and leaves the state settled does nothing more. -/
theorem act_next {cause : Bool} {effect : State → State} {s t : State} (hc : cause = true) (he : effect s = t)
    (hs : Settled t) : act cause effect s = .next t := by
  rw [act, if_pos hc, he, finish_of_settled hs]

/-- An event that occurs, and the end of its command. -/
theorem act_finish {cause : Bool} {effect : State → State} {s : State} (hc : cause = true) :
    act cause effect s = .next (finish (effect s)) := by
  rw [act, if_pos hc]

/-! ### The debounce stages (R22) -/

/-- A debounce timer that has run its stable time while the raw input differs from the debounced value has run out. -/
theorem debounced_of {d : Debounce} {level : Bool} {since stable now : Nat}
    (hd : d = { raw := level, value := !level, timer := some since }) (h : since + stable ≤ now) :
    debounced d level stable now = true := by
  subst hd
  cases level <;> simp [debounced, ranOut, h]

theorem ranOut_of {start : Option Nat} {since len now : Nat} (hs : start = some since) (h : since + len ≤ now) :
    ranOut start len now = true := by
  simp [ranOut, hs, h]

/-! ### The parts of the supervisor's operations -/

/-- The hold extension starts, or with HOLD_EXTEND 0 clears BURNER_START at once (R41). -/
theorem startHoldExtension_eq (s : State) : startHoldExtension s =
    { s with
      sup := { s.sup with holdExt := if s.sup.set.holdExtend = 0 then none else some s.tenths }
      level := { s.level with burnerStart := if s.sup.set.holdExtend = 0 then false else s.level.burnerStart } } := by
  unfold startHoldExtension
  split <;> rfl

/-- A RUN edge moves the proving start in PROVING, and nothing else (R58). -/
theorem recRunEdge_eq (rise : Bool) (s : State) : recRunEdge rise s =
    { s with recov := { s.recov with
      episode := if s.recov.state = .proving then
          s.recov.episode.map fun e => { e with proving := if rise then some s.tenths else none }
        else s.recov.episode } } := by
  unfold recRunEdge
  split <;> rfl

/-! ### Events -/

/-- An event is raised and the command ends: EVENTS takes its bit, and else only an exchange and the notices follow (R176). -/
theorem raiseEvent_finish (k : Notice) (s : State) :
    Finishes (s.setMgmt { s.mgmt with events := s.mgmt.events ||| k.set }) (finish (raiseEvent k s)) ∧
    (finish (raiseEvent k s)).mgmt.events = s.mgmt.events ||| k.set ∧
    (finish (raiseEvent k s)).mgmt.mask = s.mgmt.mask ∧ (finish (raiseEvent k s)).mgmt.job = s.mgmt.job := by
  have h := (settleNotices_reports (s.setMgmt { s.mgmt with events := s.mgmt.events ||| k.set })).finishes.trans
    (finish_finishes (raiseEvent k s))
  obtain ⟨line, timer, hm⟩ := h.mgmt
  exact ⟨h, by rw [hm]; rfl, by rw [hm]; rfl, by rw [hm]; rfl⟩

end Sys2Proof.Machine
end

section
/-! The burner lines and the supervisor's timers (R22 to R24, R31 to R35, R39 to R41). -/

namespace Sys2Proof.Machine

/-- Settles O10: the event is the change of the stage, and no condition kind rests on it. -/
theorem senseChangesMoveTheDebounce : Obligations.SenseChangesMoveTheDebounce := by
  intro level s hs
  constructor
  · intro h
    change execRunSenseChange level s = _
    unfold execRunSenseChange
    exact act_next (decide_eq_true h) rfl (hs.withBlocks _ .rfl rfl rfl)
  · intro h
    change execLockoutSenseChange level s = _
    unfold execLockoutSenseChange
    exact act_next (decide_eq_true h) rfl (hs.withBlocks _ .rfl rfl rfl)

/-- Settles O11: in CALLING the rise ends the start window and starts the hold extension, in HOLDING it brings FIRING back, and in
the other states the run record alone moves. -/
theorem runRiseStartsTheRun : Obligations.RunRiseStartsTheRun := by
  intro since s hs hrun hsince
  change execRunRise s = _
  unfold execRunRise
  refine act_next (debounced_of hrun hsince) ?_ (hs.withBlocks _ .rfl rfl rfl)
  unfold runRise
  rw [recRunEdge_eq]
  cases hst : s.sup.state with
  | calling => simp [hst, callAsserted, startHoldExtension_eq, riseRecord, hrun, settleDebounce, State.setSup, State.tenths]
  | holding => simp [hst, callAsserted, riseRecord, hrun, settleDebounce, State.setSup, State.tenths]
  | _ => simp [hst, callAsserted, riseRecord, hrun, settleDebounce, State.setSup, State.tenths]

/-- Settles O12: the burn is credited, counted and closed in the order of R24. -/
theorem runFallCreditsTheBurn : Obligations.RunFallCreditsTheBurn := by
  intro since x s hs hrun hsince hx
  change execRunFall s = _
  unfold execRunFall
  refine act_next (debounced_of hrun hsince) ?_ (hs.withBlocks _ .rfl rfl rfl)
  subst hx
  by_cases hst : s.sup.state = .firing <;>
    simp [runFall, recRunEdge_eq, hst, hrun, settleDebounce, creditBurn, creditUnit, markMinOff, State.setSup, State.setAcct,
      State.tenths]

/-- Settles O15: the test of the transitions finds min-off elapsed and a zone served. -/
theorem minOffElapsedStartsTheCall : Obligations.MinOffElapsedStartsTheCall := by
  intro s hs hrun hmin hst hserved
  have helapsed : minOffElapsed s = true := by simp [minOffElapsed, hrun, hmin]
  have hcalls : testSupervisor s = enterCalling s := by
    rcases hst with hst | hst <;> simp [testSupervisor, hst, hserved, helapsed]
  change execMinOffElapsed s = _
  unfold execMinOffElapsed
  refine act_next helapsed (hcalls.trans ?_) (hs.withBlocks _ .rfl rfl rfl)
  simp [enterCalling, hrun, setBurnerStart, State.setSup, State.setLevel]

/-- Settles O19: each expiry ends its cause, and no condition kind rests on a hold cause. -/
theorem holdTimersLeaveTheirCauses : Obligations.HoldTimersLeaveTheirCauses := by
  intro since s hs
  constructor
  · intro hext hdue
    change execHoldExtendExpiry s = _
    unfold execHoldExtendExpiry
    exact act_next (ranOut_of hext hdue) rfl (hs.withBlocks _ .rfl rfl rfl)
  · intro hfrom hdue
    change execServiceHoldExpiry s = _
    unfold execServiceHoldExpiry
    exact act_next (ranOut_of hfrom hdue) rfl (hs.withBlocks _ .rfl rfl rfl)

/-- Settles O17: the event is raised and reported; CALL rests on the supervisor's state, which stays. -/
theorem startWindowRaisesStartOverdue : Obligations.StartWindowRaisesStartOverdue := by
  intro since s hst hwin hdue
  have hcause : (s.sup.state = .calling && ranOut s.sup.startWindow startWindowTenths s.tenths) = true := by
    rw [hst, ranOut_of (len := startWindowTenths) hwin hdue]; rfl
  change ∃ t, execStartWindowExpiry s = _ ∧ _
  unfold execStartWindowExpiry
  refine ⟨_, act_finish hcause, ?_⟩
  obtain ⟨h, hevents, hmask, hjob⟩ := raiseEvent_finish .startOverdue (s.setSup { s.sup with startWindow := none })
  generalize finish (raiseEvent .startOverdue (s.setSup { s.sup with startWindow := none })) = t at *
  have hcall : callAsserted t = true := by simp [callAsserted, h.sup, hst]
  exact ⟨h.sup, hcall, hevents, hmask, hjob, h.nv, ⟨h.now, h.pending, h.freeIdx⟩, h.relay, h.zone, h.recov,
    ⟨h.level, h.vol, h.acct⟩, h.keepsNodes, ⟨h.portH, h.portY, h.portP⟩⟩

end Sys2Proof.Machine
end

section
/-! SUPPORT. What a written valve is desired to be, and the drop of PUMP and of CALL, each said once (R29, R36, R40, R159). -/

namespace Sys2Proof.Machine

/-! ### Written valves (R29, R159) -/

theorem findSlot_map {α β : Type} (f : β → Bool) (g : α → β) (xs : List (Option α)) :
    findSlot f (xs.map (Option.map g)) = findSlot (fun a => f (g a)) xs := by
  induction xs with
  | nil => rfl
  | cons o xs ih => cases o <;> simp [findSlot, ih]

/-- The slot of an address's valve can be told from what the poll list knows of its nodes. -/
theorem KeepsNodes.valveSlot {s t : State} (h : KeepsNodes s t) (addr : Nat) : valveSlot t addr = valveSlot s addr := by
  have told (e : PollEntry) : (decide (e.addr = addr) && !e.isGauge) =
      (decide ((nodeSeen e).1 = addr) && (nodeSeen e).2.2.2.2.2.isSome) := by
    cases hr : e.role <;> simp [nodeSeen, PollEntry.valve?, PollEntry.isGauge, hr]
  have hs (u : State) : Machine.valveSlot u addr =
      findSlot (fun n => decide (n.1 = addr) && n.2.2.2.2.2.isSome) (u.sched.slots.map (Option.map nodeSeen)) := by
    rw [findSlot_map, Machine.valveSlot]
    exact congrArg (findSlot · _) (funext told)
  rw [hs, hs, show t.sched.slots.map (Option.map nodeSeen) = _ from h]

theorem valveAt_record (s : State) (addr : Nat) : valveAt s addr = (valveSlot s addr).bind (recordOf s) := rfl

theorem changeDesired_desired (pos : ValvePos) (now : Nat) (r : ValveRecord) : (changeDesired pos now r).desired = pos := by
  unfold changeDesired stopTravelIfThere
  split <;> rfl

theorem recordOf_redecide (slot i : Nat) (s : State) : recordOf (redecide slot s) i = recordOf s i := by
  have hslots : (redecide slot s).sched.slots = modifySlot s.sched.slots slot decideDue := by
    unfold redecide
    dsimp only
    split <;> rfl
  have hm := slotGet_map_congr (map_modifySlot (g := PollEntry.valve?) (f := decideDue) (fun _ => rfl) s.sched.slots slot) i
  rw [recordOf, recordOf, hslots]
  generalize slotGet (modifySlot s.sched.slots slot decideDue) i = o at hm
  cases o <;> cases h : slotGet s.sched.slots i <;> simp_all

/-- After a write every record is as it was or desired as written, and the record of the address is desired so (R159). -/
theorem recordOf_writeDesired {addr i : Nat} {pos : ValvePos} {s : State} {r : ValveRecord}
    (h : recordOf (writeDesired addr pos s) i = some r) :
    r.desired = pos ∨ recordOf s i = some r ∧ valveSlot s addr ≠ some i := by
  unfold writeDesired at h
  split at h
  · next hn => exact .inr ⟨h, by simp [hn]⟩
  · next j hj =>
    split at h
    · next hn => exact .inr ⟨h, fun hi => by rw [hj] at hi; cases hi; cases hn.symm.trans h⟩
    · next r' hr' =>
      by_cases hi : j = i
      · subst hi
        split at h
        · next hd => cases hr'.symm.trans h; exact .inl hd
        · obtain ⟨e, he, hv⟩ := Option.bind_eq_some_iff.mp hr'
          have hw : recordOf (redecide j (modEntry j (PollEntry.modValve (changeDesired pos s.tenths)) s)) j = some r := h
          rw [recordOf_redecide, recordOf, modEntry, setSlots, State.setSched_sched, slotGet_modifySlot, he] at hw
          cases (valve_modValve hv _).symm.trans hw
          exact .inl (changeDesired_desired ..)
      · refine .inr ⟨?_, fun h => hi (Option.some.inj (hj.symm.trans h))⟩
        split at h
        · exact h
        · have hw : recordOf (redecide j (modEntry j (PollEntry.modValve (changeDesired pos s.tenths)) s)) i = some r := h
          rw [recordOf_redecide] at hw
          simpa [recordOf, modEntry, setSlots, slotGet, modifySlot, List.getElem?_modify, hi] using hw

/-- The valve of an address, if there is one, is desired CLOSED. -/
def DesiredClosed (s : State) (addr : Nat) : Prop := ∀ r, valveAt s addr = some r → r.desired = .closed

theorem writeDesired_closes (addr : Nat) (s : State) : DesiredClosed (writeDesired addr .closed s) addr := by
  intro r h
  obtain ⟨i, hi, hr⟩ := Option.bind_eq_some_iff.mp ((valveAt_record ..).symm.trans h)
  rw [(writeDesired_commands addr .closed s).nodes.valveSlot] at hi
  rcases recordOf_writeDesired hr with hd | ⟨-, hne⟩
  · exact hd
  · exact absurd hi hne

theorem DesiredClosed.writeDesired {s : State} {addr : Nat} (h : DesiredClosed s addr) (addr' : Nat) :
    DesiredClosed (writeDesired addr' .closed s) addr := by
  intro r hr
  obtain ⟨i, hi, hr⟩ := Option.bind_eq_some_iff.mp ((valveAt_record ..).symm.trans hr)
  rw [(writeDesired_commands addr' .closed s).nodes.valveSlot] at hi
  rcases recordOf_writeDesired hr with hd | ⟨hs, -⟩
  · exact hd
  · exact h r (by rw [valveAt_record, hi]; exact hs)

theorem DesiredClosed.writeZoneValve {s : State} {addr : Nat} (h : DesiredClosed s addr) (z : Nat) :
    DesiredClosed (writeZoneValve .closed z s) addr := by
  unfold Machine.writeZoneValve
  split
  · exact h
  · exact h.writeDesired _

theorem DesiredClosed.forEach {s : State} {addr : Nat} (h : DesiredClosed s addr) (zs : List Nat) :
    DesiredClosed (forEach zs (Machine.writeZoneValve .closed) s) addr := by
  induction zs generalizing s with
  | nil => exact h
  | cons z zs ih => exact ih (h.writeZoneValve z)

/-- The valves of a set of zones are written CLOSED one after the other, and all of them end so. -/
theorem forEach_closes {z addr : Nat} {zs : List Nat} {s : State} (hz : z ∈ zs) (hv : zoneValve s z = some addr) :
    DesiredClosed (forEach zs (writeZoneValve .closed) s) addr := by
  induction zs generalizing s with
  | nil => cases hz
  | cons x zs ih =>
    rcases List.mem_cons.mp hz with rfl | hz
    · have hw : writeZoneValve .closed z s = writeDesired addr .closed s := by rw [writeZoneValve, hv]
      exact DesiredClosed.forEach (s := writeZoneValve .closed z s) (hw ▸ writeDesired_closes addr s) zs
    · refine ih (s := writeZoneValve .closed x s) hz ?_
      rw [(writeZoneValve_commands .closed x s).frame]
      exact hv

/-- The end of a command leaves the valve records as they are. -/
theorem Finishes.valveAt {s t : State} (h : Finishes s t) (addr : Nat) : valveAt t addr = valveAt s addr := by
  rw [valveAt_record, valveAt_record, h.keepsNodes.valveSlot]
  refine congrArg _ (funext fun i => ?_)
  have hm := congrArg (Option.bind · PollEntry.valve?) (slotGet_map_congr h.slots i)
  simp only [Option.bind_map] at hm
  exact hm

/-! ### The drop of PUMP and of CALL (R36, R40) -/

/-- PUMP drops: the held set is released, and the supervisor's other parts stay. -/
theorem dropPump_eq (s : State) : ∃ c, Commands s c ∧
    dropPump s = c.setSup { s.sup with pump := false, overrun := none, heldSet := [] } := by
  obtain ⟨c, hc, -, he⟩ := releaseHeld_eq (s.setSup { s.sup with pump := false, overrun := none })
  refine ⟨s.setSched c.sched, ⟨rfl, hc.nodes⟩, ?_⟩
  rw [dropPump, he, hc.frame]
  rfl

/-- The supervisor once CALL has dropped to `next` (R36, R39 to R41). -/
def callDropped (next : SupState) (s : State) : Supervisor :=
  { s.sup with
    state := next, minOn := none, startWindow := none
    pump := if s.sup.set.pumpOverrun = 0 then false else s.sup.pump
    overrun := if s.sup.set.pumpOverrun = 0 then none else some s.tenths
    heldSet := if s.sup.set.pumpOverrun = 0 then [] else s.sup.heldSet
    minOffRef := if s.sup.rr.seen then s.sup.minOffRef else s.tenths
    holdExt := if s.sup.rr.seen then s.sup.holdExt else if s.sup.set.holdExtend = 0 then none else some s.tenths }

/-- The level filter once CALL has dropped: a call without a run ends BURNER_START at once with HOLD_EXTEND 0 (R41). -/
def levelDropped (s : State) : Level :=
  { s.level with
    burnerStart := if s.sup.rr.seen = false ∧ s.sup.set.holdExtend = 0 then false else s.level.burnerStart }

/-- A call without a run is a min-off reference and starts the hold extension (R36, R39, R41). -/
theorem unseenRun_eq (s : State) : (if s.sup.rr.seen then s else startHoldExtension (markMinOff s)) =
    (s.setSup { s.sup with
      minOffRef := if s.sup.rr.seen then s.sup.minOffRef else s.tenths
      holdExt := if s.sup.rr.seen then s.sup.holdExt else if s.sup.set.holdExtend = 0 then none else some s.tenths }).setLevel
      (levelDropped s) := by
  cases hs : s.sup.rr.seen
  · simp [hs, levelDropped, startHoldExtension_eq, markMinOff, State.setSup, State.setLevel, State.tenths]
  · simp [hs, levelDropped, State.setSup, State.setLevel]

/-- CALL drops; valves move only when the overrun is 0. -/
theorem dropCall_eq (next : SupState) (s : State) : ∃ c, Commands s c ∧ (s.sup.set.pumpOverrun ≠ 0 → c = s) ∧
    dropCall next s = (c.setSup (callDropped next s)).setLevel (levelDropped s) := by
  by_cases hp : s.sup.set.pumpOverrun = 0
  · obtain ⟨c, hc, he⟩ := dropPump_eq (s.setSup { s.sup with state := next, minOn := none, startWindow := none })
    refine ⟨s.setSched c.sched, ⟨rfl, hc.nodes⟩, fun h => absurd hp h, ?_⟩
    unfold dropCall
    extract_lets _ s1 _ s2
    rw [unseenRun_eq, show s2 = _ from (if_pos hp).trans he, hc.frame]
    simp only [callDropped, levelDropped, hp, if_true]
    rfl
  · refine ⟨s, .refl s, fun _ => rfl, ?_⟩
    unfold dropCall
    extract_lets _ s1 _ s2
    rw [unseenRun_eq, show s2 = s1.setSup { s1.sup with overrun := some s1.tenths } from if_neg hp]
    simp only [callDropped, levelDropped, hp, if_false]
    rfl

/-- A call in hand ends when no zone is served and MIN_ON has passed, with a path or without (R35). -/
theorem testSupervisor_drops {s : State} (hc : callAsserted s = true) (hs : s.sup.served = [])
    (hp : minOnPassed s = true) : testSupervisor s = dropCall .idle s := by
  simp only [callAsserted, Bool.or_eq_true, decide_eq_true_eq] at hc
  rcases hc with (hst | hst) | hst <;> simp [testSupervisor, hst, hs, hp]

theorem callAsserted_states {s : State} (h : callAsserted s = true) : s.sup.state ≠ .locked ∧ s.sup.state ≠ .inhibited := by
  constructor <;> intro hs <;> simp [callAsserted, hs] at h

end Sys2Proof.Machine
end

section
/-! The end of a call and of the overrun (R29, R35, R36, R39 to R41). -/

namespace Sys2Proof.Machine

/-- Settles O16: the test of the transitions drops CALL, and with PUMP_OVERRUN 0 the end of the command follows the valves. -/
theorem minOnExpiryEndsTheCall : Obligations.MinOnExpiryEndsTheCall := by
  intro since s hs hcall hserved hmin hdue
  have hpassed : minOnPassed s = true := ranOut_of hmin hdue
  have hdrop : testSupervisor s = dropCall .idle s := testSupervisor_drops hcall hserved hpassed
  have hcause : (callAsserted s && minOnPassed s) = true := by rw [hcall, hpassed]; rfl
  obtain ⟨c, -, hc, he⟩ := dropCall_eq .idle s
  change (_ → execMinOnExpiry s = _) ∧ (_ → ∃ t, execMinOnExpiry s = _ ∧ _)
  unfold execMinOnExpiry
  constructor
  · intro hover
    obtain rfl := hc hover
    refine act_next hcause (hdrop.trans (he.trans ?_)) (hs.withBlocks _ .rfl rfl rfl)
    simp [callDropped, levelDropped, hover, State.setSup, State.setLevel]
  · intro hover
    have hst := callAsserted_states hcall
    have hsteers := testSupervisor_steers s
    have hfin := finish_finishes (testSupervisor s)
    refine ⟨_, act_finish hcause, hsteers.dispatch.trans hfin.dispatch, hfin.zone.trans hsteers.zone, ?_⟩
    rw [hfin.sup, hdrop, he]
    simp [callDropped, hover]

/-- Settles O18: PUMP drops, each held valve is written CLOSED, and the end of the command leaves the records. -/
theorem overrunEndStopsThePump : Obligations.OverrunEndStopsThePump := by
  intro since s hover hdue
  have hcause : overrunDue s = true := ranOut_of hover hdue
  change ∃ t, execPumpOverrunExpiry s = _ ∧ _
  unfold execPumpOverrunExpiry
  have hfin := finish_finishes (dropPump s)
  obtain ⟨c, hc, he⟩ := dropPump_eq s
  refine ⟨_, act_finish hcause, (dropPump_steers s).dispatch.trans hfin.dispatch, hfin.zone.trans (dropPump_steers s).zone,
    ?_, ?_, ?_⟩
  · rw [hfin.level, he, hc.frame]; rfl
  · rw [hfin.sup, he]; rfl
  · intro z hz addr hv r hr
    rw [hfin.valveAt] at hr
    exact forEach_closes (s := s.setSup { s.sup with pump := false, overrun := none }) hz hv r hr

end Sys2Proof.Machine
end

section
/-! SUPPORT. What a lockout taken does to the recovery unit outside WAIT_RETRY, and how the supervisor goes to LOCKED (R26, R37,
R46 to R50). -/

namespace Sys2Proof.Machine

/-! ### A lockout at the recovery unit -/

/-- The lockout record of an episode at this moment (R46). -/
def lockoutRecord (number : Nat) (cause : Cause) (sup : SupState) (seen : Bool) (s : State) : LockoutRecord :=
  { episode := number, time := s.sec, cause := cause, sup := sup, seen := seen, tank := s.acct.tank
    v15 := s.vol.record.map (·.v15), temp := s.level.temp }

/-- The number of the episode that a lockout opens or joins (R48 to R50). -/
def lockoutNumber (r : Recovery) : Nat :=
  if r.state = .closed then (r.counter + 1) % 65536 else (r.episode.map (·.number)).getD 0

/-- The episode that a lockout opens or joins, as it stood (R48 to R50). -/
def lockoutEpisode (cause : Cause) (r : Recovery) : Option Episode :=
  if r.state = .closed then some { number := lockoutNumber r, k := 1, cause := cause } else r.episode

/-- A lockout opens an episode in CLOSED and resumes it in PROVING; in the other states it joins it (R48 to R50). -/
def lockoutOpens (r : Recovery) : Prop := r.state = .closed ∨ r.state = .proving

/-- The recovery unit once a lockout has been taken outside WAIT_RETRY (R46 to R50). -/
structure LockedOut (cause : Cause) (sup : SupState) (seen : Bool) (s : State) (r : Recovery) : Prop where
  rest : r = { s.recov with log := r.log, counter := r.counter, state := r.state, episode := r.episode }
  log : r.log = logAppend 8 s.recov.log (lockoutRecord (lockoutNumber s.recov) cause sup seen s)
  counter : r.counter = if s.recov.state = .closed then lockoutNumber s.recov else s.recov.counter
  opened : lockoutOpens s.recov → r.state = (if cause = .fuelEmpty then .fuelWait else .waitRetry) ∧
    r.episode = (lockoutEpisode cause s.recov).map fun e =>
      { e with cause := cause, ref := if cause = .fuelEmpty then none else some s.tenths, ret := none, proving := none }
  joined : ¬ lockoutOpens s.recov → r.state = s.recov.state ∧
    r.episode = (lockoutEpisode cause s.recov).map fun e => { e with cause := cause }

/-- LOCKOUT is raised with the record appended to the log, and nothing else moves but the notices (R46, R176). -/
theorem appendLockout_spec (cause : Cause) (sup : SupState) (seen : Bool) (s : State) (r : Recovery) :
    ∃ u, appendLockout cause sup seen (s.setRecov r) = u ∧ u.tenths = s.tenths ∧
      u.recov = { r with
        log := logAppend 8 r.log (lockoutRecord ((r.episode.map (·.number)).getD 0) cause sup seen s) } ∧
      Reports ((s.setRecov u.recov).setMgmt { s.mgmt with events := s.mgmt.events ||| Notice.lockout.set }) u := by
  have h := settleNotices_reports ((s.setRecov { r with
    log := logAppend 8 r.log (lockoutRecord ((r.episode.map (·.number)).getD 0) cause sup seen s) }).setMgmt
      { s.mgmt with events := s.mgmt.events ||| Notice.lockout.set })
  have hr : (appendLockout cause sup seen (s.setRecov r)).recov = _ := h.recov
  exact ⟨_, rfl, congrArg (· / ticksPerTenth) h.now, hr, hr ▸ h⟩

@[simp] theorem State.setRecov_tenths (s : State) (r : Recovery) : (s.setRecov r).tenths = s.tenths := rfl

/-- Where a lockout that opens or resumes an episode leads (R48, R49). -/
theorem afterLockout_eq (cause : Cause) (s : State) : afterLockout cause s =
    s.setRecov { s.recov with
      state := if cause = .fuelEmpty then .fuelWait else .waitRetry
      episode := s.recov.episode.map fun e =>
        { e with ref := if cause = .fuelEmpty then none else some s.tenths, ret := none } } := by
  unfold afterLockout
  split <;> simp [*, enterFuelWait, enterWaitRetry, modEpisode, State.setRecov, State.tenths]

theorem checkDue_of_state {s : State} (h : s.recov.state ≠ .waitRetry) : checkDue s = s := by
  simp [checkDue, attemptDue, h]

/-- A lockout taken in CLOSED opens an episode (R48). -/
theorem recLockoutTaken_closed (sup : SupState) (call seen : Bool) {s : State} (h : s.recov.state = .closed) :
    recLockoutTaken sup call seen s = afterLockout (lockoutCause call seen s)
      (appendLockout (lockoutCause call seen s) sup seen (s.setRecov { s.recov with
        counter := lockoutNumber s.recov, episode := lockoutEpisode (lockoutCause call seen s) s.recov })) := by
  simp [recLockoutTaken, h, lockoutNumber, lockoutEpisode]

/-- A lockout taken in PROVING resumes the episode (R49). -/
theorem recLockoutTaken_proving (sup : SupState) (call seen : Bool) {s : State} (h : s.recov.state = .proving) :
    recLockoutTaken sup call seen s = afterLockout (lockoutCause call seen s)
      (modEpisode (fun e => { e with cause := lockoutCause call seen s, proving := none })
        (appendLockout (lockoutCause call seen s) sup seen s)) := by
  simp [recLockoutTaken, h]

/-- A lockout taken in another state joins the episode (R50). -/
theorem recLockoutTaken_joins (sup : SupState) (call seen : Bool) {s : State} (h : ¬ lockoutOpens s.recov) :
    recLockoutTaken sup call seen s = checkDue (setCause (lockoutCause call seen s)
      (appendLockout (lockoutCause call seen s) sup seen s)) := by
  cases hs : s.recov.state <;> simp [recLockoutTaken, hs] <;> exact absurd hs (by simp_all [lockoutOpens])

/-- A lockout is taken outside WAIT_RETRY: the recovery unit moves as said, LOCKOUT is raised, and the notices may follow. -/
theorem recLockoutTaken_eq (sup : SupState) (call seen : Bool) {s : State} (h : s.recov.state ≠ .waitRetry) :
    ∃ u r, Reports ((s.setRecov u.recov).setMgmt { s.mgmt with events := s.mgmt.events ||| Notice.lockout.set }) u ∧
      LockedOut (lockoutCause call seen s) sup seen s r ∧ recLockoutTaken sup call seen s = u.setRecov r := by
  have hu := appendLockout_spec (lockoutCause call seen s) sup seen s
  by_cases hc : s.recov.state = .closed
  · rw [recLockoutTaken_closed sup call seen hc, afterLockout_eq]
    obtain ⟨u, he, ht, hr, hrep⟩ := hu { s.recov with
      counter := lockoutNumber s.recov, episode := lockoutEpisode (lockoutCause call seen s) s.recov }
    rw [he]
    refine ⟨u, _, hrep, ?_, rfl⟩
    rw [hr, ht]
    refine ⟨rfl, ?_, ?_, fun _ => ⟨rfl, ?_⟩, fun hn => absurd (.inl hc) hn⟩ <;>
      simp [lockoutNumber, lockoutEpisode, hc]
  obtain ⟨u, he, ht, hr, hrep⟩ := hu s.recov
  rw [show s.setRecov s.recov = s from rfl] at he
  by_cases hp : s.recov.state = .proving
  · rw [recLockoutTaken_proving sup call seen hp, afterLockout_eq, modEpisode, he]
    refine ⟨u, _, hrep, ?_, rfl⟩
    simp only [State.setRecov_recov, State.setRecov_tenths, hr, ht]
    refine ⟨rfl, ?_, ?_, fun _ => ⟨rfl, ?_⟩, fun hn => absurd (.inr hp) hn⟩ <;>
      simp [lockoutNumber, lockoutEpisode, hp, Function.comp_def]
  · have hn : ¬ lockoutOpens s.recov := by simp [lockoutOpens, hc, hp]
    rw [recLockoutTaken_joins sup call seen hn, he, checkDue_of_state (by simpa [setCause, modEpisode, hr] using h), setCause,
      modEpisode]
    refine ⟨u, _, hrep, ?_, rfl⟩
    rw [hr]
    refine ⟨rfl, ?_, ?_, fun ho => absurd ho hn, fun _ => ⟨rfl, ?_⟩⟩ <;>
      simp [lockoutNumber, lockoutEpisode, hc]

/-! ### The supervisor goes to LOCKED -/

/-- The supervisor once it has gone to LOCKED (R37). -/
def supLocked (s : State) : Supervisor :=
  if callAsserted s then callDropped .locked s else { s.sup with state := .locked }

theorem supLocked_congr {s t : State} (hs : t.sup = s.sup) (ht : t.tenths = s.tenths) : supLocked t = supLocked s := by
  have hc : callAsserted t = callAsserted s := by rw [callAsserted, hs]; rfl
  simp only [supLocked, callDropped, hc, hs, ht]

/-- What goes to LOCKED with the supervisor as it was. -/
theorem supLocked_keeps (s : State) : (supLocked s).state = .locked ∧ (supLocked s).lockout = s.sup.lockout ∧
    (supLocked s).rr = s.sup.rr ∧ (supLocked s).run = s.sup.run ∧ (supLocked s).set = s.sup.set ∧
    (supLocked s).wanting = s.sup.wanting ∧ (supLocked s).served = s.sup.served := by
  unfold supLocked
  split <;> exact ⟨rfl, rfl, rfl, rfl, rfl, rfl, rfl⟩

/-- What the drop of CALL does to the lines and timers of the supervisor that goes to LOCKED (R36). -/
theorem supLocked_call {s : State} (h : callAsserted s = true) : (supLocked s).minOn = none ∧
    (supLocked s).startWindow = none ∧
    (s.sup.set.pumpOverrun ≠ 0 → (supLocked s).overrun = some s.tenths ∧ (supLocked s).pump = s.sup.pump) ∧
    (s.sup.set.pumpOverrun = 0 → (supLocked s).overrun = none ∧ (supLocked s).pump = false) ∧
    (supLocked s).minOffRef = if s.sup.rr.seen then s.sup.minOffRef else s.tenths := by
  rw [supLocked, if_pos h]
  exact ⟨rfl, rfl, fun hp => ⟨if_neg hp, if_neg hp⟩, fun hp => ⟨if_pos hp, if_pos hp⟩, rfl⟩

/-- The supervisor goes to LOCKED; only the drop of CALL moves valves and BURNER_START. -/
theorem enterLocked_eq (s : State) : ∃ c b, Commands s c ∧
    enterLocked s = (c.setSup (supLocked s)).setLevel { s.level with burnerStart := b } := by
  unfold enterLocked supLocked
  split
  · next h =>
    have hc : callAsserted s = false := by simp [callAsserted, h]
    refine ⟨s, s.level.burnerStart, .refl s, ?_⟩
    rw [hc, ← h]
    rfl
  · split
    · obtain ⟨c, hc, -, he⟩ := dropCall_eq .locked s
      exact ⟨c, _, hc, he⟩
    · exact ⟨s, s.level.burnerStart, .refl s, rfl⟩

/-- The supervisor has taken the lockout's debounced value (R22). -/
def lockoutSeen (s : State) : State := s.setSup { s.sup with lockout := { raw := true, value := true, timer := none } }

/-- A lockout is taken outside WAIT_RETRY: LOCKOUT is raised (`u`), valves may be commanded (`c`), and the recovery unit and the
supervisor stand as said (R26). -/
theorem lockoutTaken_eq {since : Nat} {s : State} (hin : s.sup.lockout = { raw := true, value := false, timer := some since })
    (hst : s.recov.state ≠ .waitRetry) : ∃ u c r b,
      Reports (((lockoutSeen s).setRecov u.recov).setMgmt { s.mgmt with events := s.mgmt.events ||| Notice.lockout.set }) u ∧
      Commands (u.setRecov r) c ∧
      LockedOut (lockoutCause (callAsserted s) s.sup.rr.seen s) s.sup.state s.sup.rr.seen s r ∧
      lockoutTaken s = (c.setSup (supLocked (lockoutSeen s))).setLevel { s.level with burnerStart := b } := by
  have hseen : s.setSup { s.sup with lockout := settleDebounce s.sup.lockout } = lockoutSeen s := by
    rw [hin]; rfl
  obtain ⟨u, r, hrep, hout, he⟩ :=
    recLockoutTaken_eq s.sup.state (callAsserted s) s.sup.rr.seen (s := lockoutSeen s) hst
  obtain ⟨c, b, hc, hlocked⟩ := enterLocked_eq (u.setRecov r)
  refine ⟨u, c, r, b, hrep, hc, ⟨hout.rest, hout.log, hout.counter, hout.opened, hout.joined⟩, ?_⟩
  have htenths : u.tenths = (lockoutSeen s).tenths := congrArg (· / ticksPerTenth) hrep.now
  calc lockoutTaken s
      = enterLocked (recLockoutTaken s.sup.state (callAsserted s) s.sup.rr.seen (lockoutSeen s)) := by rw [← hseen]; rfl
    _ = (c.setSup (supLocked (u.setRecov r))).setLevel { u.level with burnerStart := b } := by rw [he, hlocked]; rfl
    _ = (c.setSup (supLocked (lockoutSeen s))).setLevel { s.level with burnerStart := b } := by
      rw [supLocked_congr (s := lockoutSeen s) (t := u.setRecov r) hrep.sup htenths, hrep.level]; rfl

end Sys2Proof.Machine
end

section
/-! A lockout taken (R26, R36, R37, R46 to R50). -/

namespace Sys2Proof.Machine

/-- Settles O13: the recovery unit records the lockout, the supervisor goes to LOCKED, and the command ends. -/
theorem lockoutTakenOpensAnEpisode : Obligations.LockoutTakenOpensAnEpisode := by
  intro since number cause old ref s hin hdue hcause hnumber hold href hst
  change ∃ t, execLockoutTaken s = _ ∧ _
  unfold execLockoutTaken
  refine ⟨_, act_finish (debounced_of hin hdue), ?_⟩
  obtain ⟨u, c, r, b, hrep, hc, hout, he⟩ := lockoutTaken_eq hin hst
  rw [show lockoutCause (callAsserted s) s.sup.rr.seen s = cause by rw [hcause]; simp [lockoutCause]] at hout
  have hfin := finish_finishes (lockoutTaken s)
  rw [he, hc.frame] at hfin ⊢
  generalize finish _ = t at hfin ⊢
  obtain ⟨hrest, hlog, hcounter, hopened, hjoined⟩ := hout
  obtain ⟨hstate, hlockout, hrr, hrun, hset, hwanting, hserved⟩ := supLocked_keeps (lockoutSeen s)
  have hcall := supLocked_call (s := lockoutSeen s)
  have hevents : t.mgmt.events = s.mgmt.events ||| 0x0001 ∧ t.mgmt.mask = s.mgmt.mask := by
    obtain ⟨_, _, hm⟩ := hrep.mgmt
    obtain ⟨_, _, hm'⟩ := hfin.mgmt
    rw [hm', State.setLevel_mgmt, State.setSup_mgmt, State.setSched_mgmt, State.setRecov_mgmt, hm]
    exact ⟨rfl, rfl⟩
  have hnodes : KeepsNodes s t := (Reports.finishes hrep).keepsNodes.trans (KeepsNodes.trans hc.nodes hfin.keepsNodes)
  have hports : PortsOffered s t :=
    PortsOffered.trans (b := u) ⟨hrep.portH, hrep.portY, hrep.portP⟩ ⟨hfin.portH, hfin.portY, hfin.portP⟩
  have hclock : KeepsClock s t :=
    ⟨hfin.now.trans hrep.now, hfin.pending.trans hrep.pending, hfin.freeIdx.trans hrep.freeIdx⟩
  rw [show t.recov = r from hfin.recov, show t.sup = supLocked (lockoutSeen s) from hfin.sup]
  subst hnumber hold href
  refine ⟨hlog, hcounter, (congrArg Recovery.set hrest :), (congrArg Recovery.safe hrest :),
    (congrArg Recovery.pulseEnd hrest :), (congrArg Recovery.confirmFrom hrest :), hopened,
    fun hc hp => hjoined fun ho => ho.elim hc hp, hstate, hlockout, hrr, hrun, hset, hwanting, hserved, hcall, hevents.1,
    hevents.2, hclock, hfin.relay.trans hrep.relay, hfin.zone.trans hrep.zone, hfin.vol.trans hrep.vol,
    hfin.acct.trans hrep.acct, hfin.nv.trans hrep.nv, hnodes, hports, ?_⟩
  rw [hfin.level]
  rfl

end Sys2Proof.Machine
end

section
/-! SUPPORT. The end of an attempt, PROVING, and the supervisor's way out of LOCKED (R37, R57 to R59). -/

namespace Sys2Proof.Machine

/-- IDLE is entered before min-off has elapsed: a zone served waits for it (R32). -/
theorem enterIdle_waits {s : State} (h : minOffElapsed s = false) :
    enterIdle s = s.setSup { s.sup with state := if s.sup.served = [] then .idle else .waitOff } := by
  have hidle : minOffElapsed (s.setSup { s.sup with state := .idle }) = false := h
  rw [enterIdle, testSupervisor]
  by_cases hserved : s.sup.served = []
  · simp [hserved]
  · simp [hserved, hidle]
    rfl

theorem minOffElapsed_markMinOff {s : State} (hmin : 0 < s.sup.set.minOff) : minOffElapsed (markMinOff s) = false := by
  have hpending : ¬ s.tenths + s.sup.set.minOff * 10 ≤ s.tenths := by omega
  have hd : decide (s.tenths + s.sup.set.minOff * 10 ≤ s.tenths) = false := decide_eq_false hpending
  change (!s.sup.rr.active && decide (s.tenths + s.sup.set.minOff * 10 ≤ s.tenths)) = false
  rw [hd, Bool.and_false]

/-- The supervisor leaves LOCKED: with min-off measured from this moment no call begins at once (R37, R39). -/
theorem leaveLocked_eq {s : State} (h : s.sup.state = .locked) (hmin : 0 < s.sup.set.minOff) :
    leaveLocked s = s.setSup { s.sup with
      minOffRef := s.tenths
      state := if s.acct.tank = .empty then .inhibited else if s.sup.served = [] then .idle else .waitOff } := by
  have htank : (markMinOff s).acct.tank = s.acct.tank := rfl
  rw [leaveLocked, if_pos h]
  dsimp only
  rw [enterIdle_waits (minOffElapsed_markMinOff hmin), htank]
  split <;> rfl

/-- The episode enters PROVING, and the supervisor leaves LOCKED (R58, R59). -/
theorem enterProving_eq {s : State} {e : Episode} (he : s.recov.episode = some e) (h : s.sup.state = .locked)
    (hmin : 0 < s.sup.set.minOff) : enterProving s =
      { s with
        sup := { s.sup with
          minOffRef := s.tenths
          state := if s.acct.tank = .empty then .inhibited else if s.sup.served = [] then .idle else .waitOff }
        recov := { s.recov with
          state := .proving, confirmFrom := none
          episode := some { e with
            ref := none, ret := none, proving := if s.sup.rr.active then some s.tenths else none } } } := by
  unfold enterProving
  dsimp only
  generalize hu : modEpisode _ _ = u
  rw [leaveLocked_eq (s := u) (hu ▸ h) (hu ▸ hmin), ← hu]
  simp [modEpisode, he, State.setRecov, State.setSup, State.tenths]

/-- The episode once its attempt in hand has ended: an automatic one raises k (R57). -/
def attemptEnded (e : Episode) : Episode :=
  { e with k := if e.attempt.any (·.automatic) then bump8 e.k else e.k, attempt := none }

/-- The history once the attempt in hand has ended CLEARED (R57). -/
def historyCleared (a : Option Attempt) (es : List HistEntry) : List HistEntry :=
  match a with
  | none => es
  | some a => es.modify a.pos fun h => { h with outcome := .cleared }

/-- An attempt in hand ends CLEARED, and PROVING follows (R57). -/
theorem attemptCleared_eq {s : State} {e : Episode} (he : s.recov.episode = some e) : attemptCleared s =
    enterProving (s.setRecov { s.recov with
      safe := { s.recov.safe with history := historyCleared e.attempt s.recov.safe.history }
      episode := some (attemptEnded e) }) := by
  have hhand : attemptInHand s = e.attempt := by rw [attemptInHand, he]; rfl
  unfold attemptCleared
  rw [hhand]
  cases ha : e.attempt with
  | none =>
    have hsame : attemptEnded e = e := by
      obtain ⟨number, k, cause, ref, _, ret, proving⟩ := e
      cases ha
      rfl
    rw [hsame, ← he]
    rfl
  | some a =>
    cases hauto : a.automatic <;>
      simp [endAttempt, bumpK, setOutcome, setHistory, modEpisode, historyCleared, attemptEnded, he, ha, hauto, State.setRecov]

/-- A lockout released while the episode waits or confirms: the attempt in hand ends, PROVING is entered, and the supervisor leaves
LOCKED (R55, R57, R59). -/
theorem recLockoutReleased_proves {s : State} {e : Episode}
    (hst : s.recov.state = .waitRetry ∨ s.recov.state = .fuelWait ∨ s.recov.state = .confirming)
    (he : s.recov.episode = some e) (h : s.sup.state = .locked) (hmin : 0 < s.sup.set.minOff) :
    recLockoutReleased s =
      { s with
        sup := { s.sup with
          minOffRef := s.tenths
          state := if s.acct.tank = .empty then .inhibited else if s.sup.served = [] then .idle else .waitOff }
        recov := { s.recov with
          state := .proving, confirmFrom := none
          safe := { s.recov.safe with history := historyCleared e.attempt s.recov.safe.history }
          episode := some { attemptEnded e with
            ref := none, ret := none, proving := if s.sup.rr.active then some s.tenths else none } } } := by
  have hcleared : recLockoutReleased s = attemptCleared s := by
    rcases hst with hst | hst | hst <;> simp [recLockoutReleased, hst]
  rw [hcleared, attemptCleared_eq he]
  generalize hu : s.setRecov _ = u
  rw [enterProving_eq (s := u) (e := attemptEnded e) (hu ▸ rfl) (hu ▸ h) (hu ▸ hmin), ← hu]
  rfl

/-- A lockout released in the other states is none of the recovery unit's business. -/
theorem recLockoutReleased_stays {s : State}
    (hst : s.recov.state = .closed ∨ s.recov.state = .proving ∨ s.recov.state = .pulsing ∨ s.recov.state = .hardLock) :
    recLockoutReleased s = s := by
  rcases hst with hst | hst | hst | hst <;> simp [recLockoutReleased, hst]

end Sys2Proof.Machine
end

section
/-! A lockout released (R26, R37, R55, R57, R59). -/

namespace Sys2Proof.Machine

/-- Settles O14: the debounced value settles, and the recovery unit acts on the release or not. -/
theorem lockoutReleaseEndsTheWait : Obligations.LockoutReleaseEndsTheWait := by
  intro since s hs hin hdue
  have hcause := debounced_of (level := false) hin hdue
  have hseen : settleDebounce s.sup.lockout = { raw := false, value := false, timer := none } := by rw [hin]; rfl
  change (∀ e, _ → _ → _ → _ → execLockoutReleased s = _) ∧ (_ → execLockoutReleased s = _)
  unfold execLockoutReleased
  constructor
  · intro e hst he hlocked hmin
    refine act_next hcause ?_ (hs.withBlocks _ ?_ rfl rfl)
    · rw [hseen]
      generalize hu : s.setSup _ = u
      rw [recLockoutReleased_proves (s := u) (e := e) (hu ▸ hst) (hu ▸ he) (hu ▸ hlocked) (hu ▸ hmin), ← hu]
      rfl
    · rcases hst with h | h | h <;> simp [h]
  · intro hst
    refine act_next hcause ?_ (hs.withBlocks _ .rfl rfl rfl)
    rw [hseen]
    exact recLockoutReleased_stays (s := s.setSup _) hst

end Sys2Proof.Machine
end

section
/-! The state after reset (R43, R66, R67). -/

namespace Sys2Proof.Machine

theorem enabledSet_reset : enabledSet State.reset = 0 := by decide

/-- With no zone wanting heat and CALL not asserted the supervisor is in step (R27, R31, R37, R38). -/
theorem supervisorSound_of_quiet {s : State} (hb : blocking s = false) (he : s.acct.tank ≠ .empty)
    (hw : s.sup.wanting = []) (hz : s.zone.wanting = []) (hs : s.sup.served = []) (hc : callAsserted s = false) :
    SupervisorSound s where
  locked := by simp [hb]
  inhibited := fun h => absurd h he
  handed := by rw [hw, hz]
  inUse := by simp [hw]
  served := by rw [hs, hw]; rfl
  path := by simp [hc]

/-- Settles O60: each part is evaluated at the one state. -/
theorem resetIsSound : Obligations.ResetIsSound := by
  have hsup : SupervisorSound State.reset := supervisorSound_of_quiet rfl (by decide) rfl rfl rfl rfl
  have hports : ∀ port, SendsItsHead (State.reset.port port) := by
    intro port h
    cases port <;> cases h
  have hbuffers : BuffersSound State.reset :=
    ⟨rfl, ⟨Nat.zero_le _, Nat.zero_le _, Nat.zero_le _⟩, Nat.zero_le _, hports .h, hports .y, hports .p⟩
  have hline : NoticeSettled State.reset := iff_of_false Bool.false_ne_true fun h => h enabledSet_reset
  have hbudget : BudgetKept State.reset := Nat.zero_le _
  have hepisode : EpisodeSound State.reset := iff_of_true rfl rfl
  have hlock : HardLockSound State.reset := iff_of_false Bool.false_ne_true (by decide)
  have hmemory : MemorySound State.reset := fun _ => ⟨rfl, fun _ _ _ => nofun⟩
  have hdeliveries : DeliveriesSound State.reset := ⟨Nat.zero_le _, fun d hd => absurd hd List.not_mem_nil⟩
  have hresidue : ResidueSound State.reset := Nat.zero_lt_succ _
  have hpulse : PulseSafe State.reset := fun h => absurd h Bool.false_ne_true
  exact ⟨hsup, hbuffers, ⟨rfl, hline, fun _ => rfl⟩, hbudget, hepisode, hlock, hmemory, hdeliveries, hresidue, hpulse⟩

end Sys2Proof.Machine
end

section
/-! SUPPORT. The state that a reset leaves, before its notices settle, and the restored history (R43, R66, R67, R174). -/

namespace Sys2Proof.Machine

/-- The supervisor after a reset with this recovery unit: LOCKED with a restored HARD_LOCK (R43). -/
def supervisorRestored (img : StoreImage) (recov : Recovery) (runRaw lockoutRaw : Bool) : Supervisor :=
  { supervisorAfterReset img runRaw lockoutRaw with state := if recov.state = .hardLock then .locked else .idle }

/-- The stores after a reset: with no safety record found a safety write starts at once (R65, R67). -/
def storesRestored (store : Option StoreImage) (safety : Option SafetyRecord) (recov : Recovery) : NonVolatile :=
  { store := store, safety := safety, writing := if safety.isNone then some recov.safe else none, waiting := false }

/-- What a reset leaves is what it loads, with the supervisor and the stores as the recovery unit asks, and the notices settled. -/
theorem settleReset_loaded (img : StoreImage) (store : Option StoreImage) (safety : Option SafetyRecord) (s : State)
    (himg : img = store.getD factoryImage) : settleReset (loaded store safety s) =
      settleNotices { loaded store safety s with
        sup := supervisorRestored img (recoveryAfterReset img safety) s.sup.run.raw s.sup.lockout.raw
        nv := storesRestored store safety (recoveryAfterReset img safety) } := by
  subst himg
  cases safety with
  | none => rfl
  | some r =>
    by_cases hl : (recoveryAfterReset (store.getD factoryImage) (some r)).state = .hardLock
    · have hlock : supervisorRestored (store.getD factoryImage) (recoveryAfterReset (store.getD factoryImage) (some r))
          s.sup.run.raw s.sup.lockout.raw =
          { supervisorAfterReset (store.getD factoryImage) s.sup.run.raw s.sup.lockout.raw with state := .locked } := by
        rw [supervisorRestored, if_pos hl]
      rw [hlock]
      exact congrArg settleNotices (if_pos hl)
    · have hidle : supervisorRestored (store.getD factoryImage) (recoveryAfterReset (store.getD factoryImage) (some r))
          s.sup.run.raw s.sup.lockout.raw =
          supervisorAfterReset (store.getD factoryImage) s.sup.run.raw s.sup.lockout.raw := by
        rw [supervisorRestored, if_neg hl]; rfl
      rw [hidle]
      exact congrArg settleNotices (if_neg hl)

theorem lapseOldest_map {α : Type} {f : HistEntry → α} (h : ∀ e, f { e with kind := .lapsed } = f e) (n : Nat)
    (es : List HistEntry) : (lapseOldest n es).map f = es.map f := by
  induction es generalizing n with
  | nil => cases n <;> rfl
  | cons e es ih =>
    cases n with
    | zero => rfl
    | succ n =>
      unfold lapseOldest
      split <;> simp [ih, h]

/-- A restored history keeps the episodes of its entries (R66). -/
theorem restoreHistory_episodes (budget : Nat) (es : List HistEntry) :
    (restoreHistory budget es).map (·.episode) = es.map (·.episode) := by
  rw [restoreHistory, lapseToBudget, lapseOldest_map (fun _ => rfl), List.map_map]
  rfl

end Sys2Proof.Machine
end

section
/-! The burner units after a reset (R22, R43, R66, R67). -/

namespace Sys2Proof.Machine

/-- The parts of the recovery unit that a reset sets whatever record it finds. -/
theorem recoveryAfterReset_rest (img : StoreImage) (safety : Option SafetyRecord) :
    (recoveryAfterReset img safety).log = [] ∧ (recoveryAfterReset img safety).set = img.recovery ∧
    (recoveryAfterReset img safety).pulseEnd = none ∧ (recoveryAfterReset img safety).confirmFrom = none := by
  cases safety with
  | none => exact ⟨rfl, rfl, rfl, rfl⟩
  | some r => cases hf : r.flag <;> simp [recoveryAfterReset, hf]

/-- The safety record restored is the one found, with its history restored (R66). -/
theorem recoveryAfterReset_safe (img : StoreImage) (r : SafetyRecord) : (recoveryAfterReset img (some r)).safe =
    { r with history := restoreHistory img.recovery.budget r.history } := by
  cases hf : r.flag <;> simp [recoveryAfterReset, hf]

/-- With the flag clear the unit is CLOSED, and the counter goes on from the last entry (R66). -/
theorem recoveryAfterReset_clear (img : StoreImage) {r : SafetyRecord} (hf : r.flag = false) :
    (recoveryAfterReset img (some r)).state = .closed ∧ (recoveryAfterReset img (some r)).episode = none ∧
    (recoveryAfterReset img (some r)).counter = (r.history.getLast?.map (·.episode)).getD 0 := by
  have hlast := congrArg List.getLast? (restoreHistory_episodes img.recovery.budget r.history)
  rw [List.getLast?_map, List.getLast?_map] at hlast
  simp [recoveryAfterReset, hf, hlast]

/-- With the flag set the hard lock is restored (R66). -/
theorem recoveryAfterReset_locked (img : StoreImage) {r : SafetyRecord} (hf : r.flag = true) :
    (recoveryAfterReset img (some r)).state = .hardLock ∧ (recoveryAfterReset img (some r)).counter = r.episode ∧
    (recoveryAfterReset img (some r)).episode = some { number := r.episode, k := 1, cause := r.cause } := by
  simp [recoveryAfterReset, hf]

theorem exec_of_takesReset {c : Instr} {s : State} (h : TakesReset c s) : exec c s = .next (resetPart s) := by
  rcases h with rfl | rfl | ⟨rfl, hr, hh⟩
  · rfl
  · rfl
  · change execRestartTaken s = _
    simp [execRestartTaken, hr, hh]

/-- Settles O4: the parts of the state that a reset loads. -/
theorem resetRestoresTheBurnerUnits : Obligations.ResetRestoresTheBurnerUnits := by
  intro c s img hc himg
  refine ⟨_, exec_of_takesReset hc, ?_⟩
  have h := settleNotices_reports { loaded (storeFound s) (safetyFound s) s with
    sup := supervisorRestored img (recoveryAfterReset img (safetyFound s)) s.sup.run.raw s.sup.lockout.raw
    nv := storesRestored (storeFound s) (safetyFound s) (recoveryAfterReset img (safetyFound s)) }
  rw [← settleReset_loaded img _ _ s himg] at h
  have hrecov : (resetPart s).recov = recoveryAfterReset img (safetyFound s) := by rw [himg]; exact h.recov
  have hsup : (resetPart s).sup = _ := h.sup
  have hnv : (resetPart s).nv = _ := h.nv
  have hst := recoveryAfterReset_state img (safetyFound s)
  obtain ⟨hlog, hset, hpulse, hconfirm⟩ := recoveryAfterReset_rest img (safetyFound s)
  rw [callAsserted, resetOut, hrecov, hnv, hsup]
  refine ⟨rfl, ?_, ?_, hlog, hset, hpulse, hconfirm, fun r hr => ?_, fun hr => ?_⟩
  · rcases hst with h | h <;> simp [supervisorRestored, h]
  · rcases hst with h | h <;> simp [h]
  · rw [hr, recoveryAfterReset_safe]
    exact ⟨rfl, rfl, rfl, rfl, rfl, rfl, rfl, recoveryAfterReset_clear img, recoveryAfterReset_locked img⟩
  · rw [hr]
    exact ⟨rfl, rfl, rfl, rfl, rfl, rfl, rfl⟩

end Sys2Proof.Machine
end

section
/-! SUPPORT. Writes of a number, the lapses of the history, the settings that the supervisor keeps, and the decision at a due time
(R42, R51, R52, R54, R172). -/

namespace Sys2Proof.Machine

/-! ### Writes of a number (R170, R172) -/

section
variable {o : Obj} {obj idx : Byte} {q : Req} {s : State} {w v lo hi taken : Nat} {c : Instr}

/-- A number in its field is clamped and taken: the answer says whether as written, the end of the command follows, and nothing
more from a settled state. -/
theorem number_taken (k : Nat → State) (hm : MayWrite s q) (ho : objOf obj = some o) (hix : idx.toNat ≤ o.lastIndex)
    (hw : (o.isCounter idx.toNat || o.isSetting idx.toNat) = true) (hc : exec c s = requested .write obj idx q s)
    (hd : q.data = beBytes w v) (hv : v < 256 ^ w) (hlo : lo ≤ hi) (ht : taken = min hi (max lo v))
    (hk : writeItem o idx.toNat q.data s = writeNum w lo hi q.data k) :
    answerOf .write obj idx q s = takenAs v taken ∧ (∃ t, exec c s = .next t ∧ Finishes (k taken) t) ∧
      (Settled (k taken) → Answers c 2 obj idx q (takenAs v taken) s (k taken)) := by
  have h : writeItem o idx.toNat q.data s = some (decide (taken ≠ v), k taken) := by
    rw [hk, hd, writeNum_beBytes hv, clampNat_eq hlo, ht]
  obtain ⟨hanswer, hexec⟩ := write_taken hm ho hix hw h
  have hanswers := write_answers hm ho hix hw hc h
  rw [writeReply_decide] at hanswer hanswers
  exact ⟨hanswer, ⟨_, hc.trans hexec, (respond_offers ..).finishes.trans (finish_finishes _)⟩, hanswers⟩

/-- A setting of the burner that is a number. -/
theorem burnerSet_taken (item : BurnerItem) (k : Nat → State) (hm : MayWrite s q) (hd : q.data = beBytes w v)
    (hv : v < 256 ^ w) (hlo : lo ≤ hi) (ht : taken = min hi (max lo v))
    (hk : writeItem .burnerSet (burnerIndex item).toNat q.data s = writeNum w lo hi q.data k) :
    answerOf .write 17 (burnerIndex item) q s = takenAs v taken ∧
      (∃ t, exec (.burnerSetWrite item q) s = .next t ∧ Finishes (k taken) t) ∧
      (Settled (k taken) → Answers (.burnerSetWrite item q) 2 17 (burnerIndex item) q (takenAs v taken) s (k taken)) :=
  number_taken (o := .burnerSet) k hm rfl (by cases item <;> decide) (by cases item <;> rfl) rfl hd hv hlo ht hk

/-- A setting of the recovery that is a number. -/
theorem recoverySet_taken (item : RecoveryItem) (k : Nat → State) (hm : MayWrite s q) (hd : q.data = beBytes w v)
    (hv : v < 256 ^ w) (hlo : lo ≤ hi) (ht : taken = min hi (max lo v))
    (hk : writeItem .recoverySet (recoveryIndex item).toNat q.data s = writeNum w lo hi q.data k) :
    answerOf .write 19 (recoveryIndex item) q s = takenAs v taken ∧
      (∃ t, exec (.recoverySetWrite item q) s = .next t ∧ Finishes (k taken) t) ∧
      (Settled (k taken) →
        Answers (.recoverySetWrite item q) 2 19 (recoveryIndex item) q (takenAs v taken) s (k taken)) :=
  number_taken (o := .recoverySet) k hm rfl (by cases item <;> decide) (by cases item <;> rfl) rfl hd hv hlo ht hk

end

/-! ### The history (R54) -/

theorem lapseEntry_eq (window now : Nat) (e : HistEntry) : lapseEntry window now e =
    if e.kind = .automatic ∧ e.time + window ≤ now then { e with kind := .lapsed } else e := by
  simp only [lapseEntry, Bool.and_eq_true, decide_eq_true_eq]

/-- An AUTOMATIC entry lapses, any other stays. -/
def lapseAutomatic (e : HistEntry) : HistEntry := if e.kind = .automatic then { e with kind := .lapsed } else e

/-- Lapsing the oldest entries lapses the AUTOMATIC ones of a first part of the history. -/
theorem lapseOldest_eq (n : Nat) (es : List HistEntry) :
    ∃ m, lapseOldest n es = (es.take m).map lapseAutomatic ++ es.drop m := by
  induction es generalizing n with
  | nil => exact ⟨0, by cases n <;> rfl⟩
  | cons e es ih =>
    cases n with
    | zero => exact ⟨0, rfl⟩
    | succ n =>
      unfold lapseOldest
      split
      · next h =>
        obtain ⟨m, hm⟩ := ih n
        exact ⟨m + 1, by simp [hm, lapseAutomatic, h]⟩
      · next h =>
        obtain ⟨m, hm⟩ := ih (n + 1)
        exact ⟨m + 1, by simp [hm, lapseAutomatic, h]⟩

theorem autoCount_lapseOldest (n : Nat) (es : List HistEntry) : autoCount (lapseOldest n es) = autoCount es - n := by
  induction es generalizing n with
  | nil => cases n <;> simp [lapseOldest, autoCount]
  | cons e es ih =>
    cases n with
    | zero => rfl
    | succ n =>
      unfold lapseOldest
      unfold autoCount at ih ⊢
      split
      · next h => simp [h, ih]
      · next h => simp [h, ih]

theorem autoCount_lapseToBudget (budget : Nat) (es : List HistEntry) :
    autoCount (lapseToBudget budget es) = min budget (autoCount es) := by
  rw [lapseToBudget, autoCount_lapseOldest]
  omega

/-! ### The supervisor's settings -/

theorem dropCall_set (next : SupState) (s : State) : (dropCall next s).sup.set = s.sup.set := by
  obtain ⟨c, -, -, he⟩ := dropCall_eq next s
  rw [he]; rfl

theorem enterCalling_set (s : State) : (enterCalling s).sup.set = s.sup.set := by
  unfold enterCalling
  dsimp only
  split
  · rw [startHoldExtension_eq]; rfl
  · rfl

/-- The transitions keep the settings. -/
theorem testSupervisor_set (s : State) : (testSupervisor s).sup.set = s.sup.set := by
  have inCall : (if !pathExists s then dropCall .idle s
      else if s.sup.served.isEmpty && minOnPassed s then dropCall .idle s else s).sup.set = s.sup.set := by
    split
    · exact dropCall_set _ s
    · split
      · exact dropCall_set _ s
      · rfl
  unfold testSupervisor
  cases s.sup.state with
  | idle =>
    dsimp only
    split
    · rfl
    · split
      · exact enterCalling_set s
      · rfl
  | waitOff =>
    dsimp only
    split
    · rfl
    · split
      · exact enterCalling_set s
      · rfl
  | calling => exact inCall
  | firing => exact inCall
  | holding => exact inCall
  | locked => rfl
  | inhibited => rfl

/-- The transitions tested with other settings: outside the supervisor little moves. -/
theorem retested_steers (set : BurnerSet) (s : State) : Steers s (testSupervisor (setBurnerSet set s)) :=
  (setSup_steers_same s (by rfl)).trans (testSupervisor_steers _)

/-- A call in hand with a path and a zone served goes on (R35). -/
theorem testSupervisor_goesOn {s : State} (hc : callAsserted s = true) (hp : pathExists s = true) (hs : s.sup.served ≠ []) :
    testSupervisor s = s := by
  simp only [callAsserted, Bool.or_eq_true, decide_eq_true_eq] at hc
  rcases hc with (hst | hst) | hst <;> simp [testSupervisor, hst, hs, hp]

/-- In WAIT_OFF with a zone served CALL rises when min-off has elapsed (R32). -/
theorem testSupervisor_waits {s : State} (hst : s.sup.state = .waitOff) (hs : s.sup.served ≠ []) :
    testSupervisor s = if minOffElapsed s then enterCalling s else s := by
  simp [testSupervisor, hst, hs]

theorem enterCalling_state {s : State} (h : s.sup.rr.active = false) : (enterCalling s).sup.state = .calling := by
  simp [enterCalling, h, setBurnerStart]

/-- A timer whose length has just been set has not run out. -/
theorem ranOut_false {start : Option Nat} {len now : Nat} (h : ∀ from_, start = some from_ → now < from_ + len) :
    ranOut start len now = false := by
  cases start with
  | none => rfl
  | some from_ => simpa [ranOut] using h from_ rfl

/-! ### The decision at a due time (R52) -/

/-- A request of a safety write moves nothing of the recovery unit but the mark of the attempt in hand (R65). -/
theorem requestSafetyWrite_recov (s : State) : (requestSafetyWrite s).recov.state = s.recov.state ∧
    (requestSafetyWrite s).recov.set = s.recov.set ∧
    (attemptInHand (requestSafetyWrite s)).isSome = (attemptInHand s).isSome := by
  unfold requestSafetyWrite
  split
  · refine ⟨rfl, rfl, ?_⟩
    cases h : s.recov.episode <;> simp [startSafetyWrite, modEpisode, attemptInHand, h]
  · exact ⟨rfl, rfl, rfl⟩

theorem enterHardLock_recov (s : State) :
    (enterHardLock s).recov.state = .hardLock ∧ (enterHardLock s).recov.set = s.recov.set := by
  unfold enterHardLock
  dsimp only
  rw [(settleNotices_reports _).recov, (requestSafetyWrite_recov _).1, (requestSafetyWrite_recov _).2.1]
  exact ⟨rfl, rfl⟩

/-- An attempt begun is in hand. -/
theorem attemptInHand_startAttempt (automatic : Bool) {s : State} (h : s.recov.episode.isSome = true) :
    (attemptInHand (startAttempt automatic s)).isSome = true := by
  obtain ⟨e, he⟩ := Option.isSome_iff_exists.mp h
  simp [startAttempt, setHistory, modEpisode, attemptInHand, he]

/-- The decision keeps the settings; with the tank EMPTY the episode waits for fuel, else it is hard-locked or an attempt is in
hand (R52, R61). -/
theorem decideAttempt_recov {s : State} (h : attemptDue s = true) : (decideAttempt s).recov.set = s.recov.set ∧
    (s.acct.tank = .empty → (decideAttempt s).recov.state = .fuelWait) ∧
    (s.acct.tank ≠ .empty → (decideAttempt s).recov.state = .hardLock ∨
      ((decideAttempt s).recov.state = .waitRetry ∧ (attemptInHand (decideAttempt s)).isSome = true)) := by
  simp only [attemptDue, Bool.and_eq_true, decide_eq_true_eq] at h
  obtain ⟨⟨hst, -⟩, hdue⟩ := h
  have hepisode : s.recov.episode.isSome = true := by
    cases he : s.recov.episode with
    | none => simp [he] at hdue
    | some e => rfl
  by_cases htank : s.acct.tank = .empty
  · rw [decideAttempt, if_pos htank]
    exact ⟨rfl, fun _ => rfl, fun h => absurd htank h⟩
  · rw [decideAttempt, if_neg htank]
    dsimp only
    split
    · obtain ⟨hlock, hset⟩ := enterHardLock_recov (applyLapses s)
      exact ⟨hset, fun h => absurd h htank, fun _ => .inl hlock⟩
    · obtain ⟨hstate, hset, hhand⟩ := requestSafetyWrite_recov (startAttempt true (applyLapses s))
      exact ⟨hset, fun h => absurd h htank,
        fun _ => .inr ⟨hstate.trans hst, hhand.trans (attemptInHand_startAttempt true (s := applyLapses s) hepisode)⟩⟩

end Sys2Proof.Machine
end

section
/-! The settings of the burner and of the recovery (R42, R51, R54). -/

namespace Sys2Proof.Machine

section
variable {s t : State} {since taken : Nat}

/-- What a write of MIN_ON does: a call in hand that nothing wants ends if it is now old enough, one with a path and a zone served
goes on (R35, R42). -/
theorem minOn_retested (hfin : Finishes (testSupervisor (setBurnerSet { s.sup.set with minOn := taken } s)) t) :
    DispatchFrame s t ∧ t.zone = s.zone ∧ t.sup.set = { s.sup.set with minOn := taken } ∧
    (callAsserted s = true → s.sup.served = [] → s.sup.minOn = some since → since + taken * 10 ≤ s.tenths →
      callAsserted t = false) ∧
    (callAsserted s = true → pathExists s = true → s.sup.served ≠ [] →
      t.sup = { s.sup with set := t.sup.set } ∧ t.level = s.level) := by
  have hsteers := retested_steers { s.sup.set with minOn := taken } s
  refine ⟨hsteers.dispatch.trans hfin.dispatch, hfin.zone.trans hsteers.zone, ?_, ?_, ?_⟩
  · rw [hfin.sup, testSupervisor_set]; rfl
  · intro hcall hserved hmin hdue
    have hdrop := testSupervisor_drops (s := setBurnerSet { s.sup.set with minOn := taken } s) hcall hserved
      (ranOut_of hmin hdue)
    rw [callAsserted_eq, hfin.standing, hdrop, standing_dropCall]
    rfl
  · intro hcall hpath hserved
    have hsame := testSupervisor_goesOn (s := setBurnerSet { s.sup.set with minOn := taken } s) hcall hpath hserved
    rw [hfin.sup, hfin.level, hsame]
    exact ⟨rfl, rfl⟩

/-- What a write of MIN_OFF does: in WAIT_OFF with a zone served CALL rises if min-off has now elapsed (R32, R39, R42). -/
theorem minOff_retested (hfin : Finishes (testSupervisor (setBurnerSet { s.sup.set with minOff := taken } s)) t) :
    DispatchFrame s t ∧ t.zone = s.zone ∧ t.sup.set = { s.sup.set with minOff := taken } ∧
    (s.sup.state = .waitOff → s.sup.served ≠ [] → s.sup.rr.active = false →
      (s.sup.minOffRef + taken * 10 ≤ s.tenths → t.sup.state = .calling) ∧
      (s.tenths < s.sup.minOffRef + taken * 10 → t.sup = { s.sup with set := t.sup.set } ∧ t.level = s.level)) := by
  have hsteers := retested_steers { s.sup.set with minOff := taken } s
  refine ⟨hsteers.dispatch.trans hfin.dispatch, hfin.zone.trans hsteers.zone, ?_, ?_⟩
  · rw [hfin.sup, testSupervisor_set]; rfl
  · intro hst hserved hrun
    have htest := testSupervisor_waits (s := setBurnerSet { s.sup.set with minOff := taken } s) hst hserved
    have helapsed : minOffElapsed (setBurnerSet { s.sup.set with minOff := taken } s) =
        decide (s.sup.minOffRef + taken * 10 ≤ s.tenths) := by
      change (!s.sup.rr.active && decide (s.sup.minOffRef + taken * 10 ≤ s.tenths)) = _
      rw [hrun]; rfl
    rw [hfin.sup, hfin.level, htest, helapsed]
    constructor
    · intro hdue
      rw [if_pos (decide_eq_true hdue)]
      exact enterCalling_state hrun
    · intro hdue
      rw [if_neg (by simpa using hdue)]
      exact ⟨rfl, rfl⟩

/-- What a write of PUMP_OVERRUN does: an overrun that has now run out ends (R40, R42). -/
theorem pumpOverrun_tested
    (hfin : Finishes (applyWhen overrunDue dropPump (setBurnerSet { s.sup.set with pumpOverrun := taken } s)) t) :
    DispatchFrame s t ∧ t.zone = s.zone ∧ t.level = s.level ∧
    (s.sup.overrun = some since → since + taken * 10 ≤ s.tenths →
      t.sup = { s.sup with
        set := { s.sup.set with pumpOverrun := taken }, pump := false, overrun := none, heldSet := [] }) ∧
    ((∀ from_, s.sup.overrun = some from_ → s.tenths < from_ + taken * 10) →
      t.sup = { s.sup with set := { s.sup.set with pumpOverrun := taken } }) := by
  have hkeep : Steers s (setBurnerSet { s.sup.set with pumpOverrun := taken } s) := setSup_steers_same s (by rfl)
  by_cases hdue : overrunDue (setBurnerSet { s.sup.set with pumpOverrun := taken } s) = true
  · obtain ⟨c, hc, he⟩ := dropPump_eq (setBurnerSet { s.sup.set with pumpOverrun := taken } s)
    have hsteers := hkeep.trans (dropPump_steers _)
    rw [applyWhen, if_pos hdue] at hfin
    refine ⟨hsteers.dispatch.trans hfin.dispatch, hfin.zone.trans hsteers.zone, ?_, fun _ _ => ?_, fun hrun => ?_⟩
    · rw [hfin.level, he, hc.frame]; rfl
    · rw [hfin.sup, he]; rfl
    · exact absurd hdue (Bool.eq_false_iff.mp (ranOut_false (len := taken * 10) hrun))
  · rw [applyWhen, if_neg hdue] at hfin
    exact ⟨hkeep.dispatch.trans hfin.dispatch, hfin.zone, hfin.level,
      fun hover hran => absurd (ranOut_of (len := taken * 10) hover hran) hdue, fun _ => hfin.sup⟩

end

/-- RETRY_BASE and CAP are taken alike: the due time is then tested (R51, R52). -/
theorem spacing_taken {item : RecoveryItem} {idx : Byte} {q : Req} {v taken : Nat} {s u : State} (hs : Settled s)
    (hm : MayWrite s q) (hv : v < 65536) (hd : q.data = beBytes 2 v)
    (h : (item = .retryBase ∧ idx = 0 ∧ taken = min 1800 (max 30 v) ∧
        u = { s with recov := { s.recov with set := { s.recov.set with retryBase := taken } } }) ∨
      (item = .cap ∧ idx = 1 ∧ s.recov.set.retryBase ≤ 14400 ∧ taken = min 14400 (max s.recov.set.retryBase v) ∧
        u = { s with recov := { s.recov with set := { s.recov.set with cap := taken } } })) :
    answerOf .write 19 idx q s = takenAs v taken ∧
      (∃ t, exec (.recoverySetWrite item q) s = .next t ∧ Finishes (checkDue u) t) ∧
      (Settled (checkDue u) → Answers (.recoverySetWrite item q) 2 19 idx q (takenAs v taken) s (checkDue u)) ∧
      Settled u ∧ u.acct = s.acct := by
  rcases h with ⟨rfl, rfl, ht, rfl⟩ | ⟨rfl, rfl, hbase, ht, rfl⟩
  · obtain ⟨hanswer, hexec, hanswers⟩ := recoverySet_taken .retryBase
      (fun v => checkDue (setRecoverySet { s.recov.set with retryBase := v } s)) hm hd hv (by decide) ht rfl
    exact ⟨hanswer, hexec, hanswers, hs.withBlocks s.sup .rfl rfl rfl, rfl⟩
  · obtain ⟨hanswer, hexec, hanswers⟩ := recoverySet_taken .cap
      (fun v => checkDue (setRecoverySet { s.recov.set with cap := v } s)) hm hd hv hbase ht rfl
    exact ⟨hanswer, hexec, hanswers, hs.withBlocks s.sup .rfl rfl rfl, rfl⟩

/-- Settles O52: each setting is taken, and what it measures is tested at once. -/
theorem burnerAndRecoverySettings : Obligations.BurnerAndRecoverySettings := by
  intro q v since s hs hm
  refine ⟨?minOn, ?minOff, ?overrun, ?holdExtend, ?spacing, ?window, ?budget⟩
  case minOn =>
    intro taken hv hd ht
    obtain ⟨hanswer, ⟨t, hexec, hfin⟩, -⟩ := burnerSet_taken .minOn
      (fun v => testSupervisor (setBurnerSet { s.sup.set with minOn := v } s)) hm hd hv (by decide) ht rfl
    exact ⟨hanswer, t, hexec, minOn_retested hfin⟩
  case minOff =>
    intro taken hv hd ht
    obtain ⟨hanswer, ⟨t, hexec, hfin⟩, -⟩ := burnerSet_taken .minOff
      (fun v => testSupervisor (setBurnerSet { s.sup.set with minOff := v } s)) hm hd hv (by decide) ht rfl
    exact ⟨hanswer, t, hexec, minOff_retested hfin⟩
  case overrun =>
    intro taken hv hd ht
    obtain ⟨hanswer, ⟨t, hexec, hfin⟩, -⟩ := burnerSet_taken .pumpOverrun
      (fun v => applyWhen overrunDue dropPump (setBurnerSet { s.sup.set with pumpOverrun := v } s)) hm hd hv
      (Nat.zero_le 600) (ht.trans (by simp)) rfl
    exact ⟨hanswer, t, hexec, pumpOverrun_tested hfin⟩
  case holdExtend =>
    intro taken hv hd ht
    obtain ⟨-, -, hanswers⟩ := burnerSet_taken .holdExtend
      (fun v => applyWhen holdExtDue endHoldExtension (setBurnerSet { s.sup.set with holdExtend := v } s)) hm hd hv
      (Nat.zero_le 300) (ht.trans (by simp)) rfl
    constructor
    · intro hext hdue
      have hended : applyWhen holdExtDue endHoldExtension (setBurnerSet { s.sup.set with holdExtend := taken } s) = _ :=
        if_pos (ranOut_of (len := taken * 10) hext hdue)
      rw [hended] at hanswers
      exact hanswers (hs.withBlocks _ .rfl rfl rfl)
    · intro hext
      have hkept : applyWhen holdExtDue endHoldExtension (setBurnerSet { s.sup.set with holdExtend := taken } s) = _ :=
        if_neg (Bool.eq_false_iff.mp (ranOut_false (len := taken * 10) hext))
      rw [hkept] at hanswers
      exact hanswers (hs.withBlocks _ .rfl rfl rfl)
  case spacing =>
    intro item idx taken u hv hd hitem
    obtain ⟨hanswer, ⟨t, hexec, hfin⟩, hanswers, hsettled, hacct⟩ := spacing_taken hs hm hv hd hitem
    constructor
    · intro hdue
      have hkept : checkDue u = u := if_neg (Bool.eq_false_iff.mp hdue)
      rw [hkept] at hanswers
      exact hanswers hsettled
    · intro hdue
      have hdecided : checkDue u = decideAttempt u := if_pos hdue
      rw [hdecided] at hfin
      have hhand : attemptInHand t = attemptInHand (decideAttempt u) := by rw [attemptInHand, hfin.recov]; rfl
      rw [← hacct]
      refine ⟨hanswer, t, hexec, ?_⟩
      rw [hhand, hfin.recov]
      exact decideAttempt_recov hdue
  case window =>
    intro taken hv hd ht
    obtain ⟨-, -, hanswers⟩ := recoverySet_taken .window
      (fun v => applyLapses (setRecoverySet { s.recov.set with window := v } s)) hm hd hv (by decide) ht rfl
    have hhistory : s.recov.safe.history.map (lapseEntry taken s.sec) = s.recov.safe.history.map _ :=
      List.map_congr_left fun e _ => lapseEntry_eq taken s.sec e
    rw [← hhistory]
    exact hanswers (hs.withBlocks _ .rfl rfl rfl)
  case budget =>
    intro taken hv hd ht
    obtain ⟨-, -, hanswers⟩ := recoverySet_taken .budget
      (fun v => enforceBudget (applyLapses (setRecoverySet { s.recov.set with budget := v } s))) hm hd hv (by decide) ht rfl
    have haged : s.recov.safe.history.map (lapseEntry s.recov.set.window s.sec) = s.recov.safe.history.map _ :=
      List.map_congr_left fun e _ => lapseEntry_eq s.recov.set.window s.sec e
    obtain ⟨n, hn⟩ := lapseOldest_eq (autoCount (s.recov.safe.history.map (lapseEntry s.recov.set.window s.sec)) - taken)
      (s.recov.safe.history.map (lapseEntry s.recov.set.window s.sec))
    exact ⟨_, _, n, haged, autoCount_lapseToBudget taken _, hn, hanswers (hs.withBlocks _ .rfl rfl rfl)⟩

end Sys2Proof.Machine
end

section
/-! SUPPORT. The recovery unit's operations, each said once as the state it makes: lapses, attempts, safety writes, the end of an
attempt, the hard lock (R52 to R57, R61, R65). -/

namespace Sys2Proof.Machine

/-! ### The history and the attempts (R53, R54, R57) -/

/-- Every AUTOMATIC entry as old as WINDOW becomes LAPSED (R54). -/
theorem applyLapses_eq (s : State) : applyLapses s =
    { s with recov := { s.recov with safe := { s.recov.safe with history := s.recov.safe.history.map fun h =>
      if h.kind = .automatic ∧ h.time + s.recov.set.window ≤ s.sec then { h with kind := .lapsed } else h } } } := by
  have hlapse : lapseEntry s.recov.set.window s.sec = _ := funext (lapseEntry_eq s.recov.set.window s.sec)
  rw [applyLapses, hlapse]
  rfl

/-- An attempt begins: its entry is appended, and it is in hand (R53). -/
theorem startAttempt_eq (automatic : Bool) {s : State} {e : Episode} {entry : HistEntry} {h : List HistEntry}
    (he : s.recov.episode = some e)
    (hentry : entry = { time := s.sec, kind := if automatic then .automatic else .service, episode := e.number,
                        outcome := .pending })
    (hh : h = appendEntry s.recov.safe.history entry) : startAttempt automatic s =
    { s with recov := { s.recov with
      safe := { s.recov.safe with history := h }
      episode := some { e with attempt := some { automatic := automatic, pos := h.length - 1, carried := false } } } } := by
  subst hh hentry
  simp [startAttempt, setHistory, modEpisode, he, State.setRecov]

/-- The attempt in hand ends: its entry takes the outcome, and an automatic one raises k (R57). -/
theorem endAttempt_eq (o : AttemptOutcome) {s : State} {e : Episode} {a : Attempt} (he : s.recov.episode = some e)
    (ha : e.attempt = some a) : endAttempt a o s =
    { s with recov := { s.recov with
      safe := { s.recov.safe with history := s.recov.safe.history.modify a.pos fun h => { h with outcome := o } }
      episode := some (attemptEnded e) } } := by
  cases hauto : a.automatic <;>
    simp [endAttempt, bumpK, setOutcome, setHistory, modEpisode, attemptEnded, he, ha, hauto, State.setRecov]

/-- An attempt is due in WAIT_RETRY once the spacing has passed since the reference (R51, R52). -/
theorem attemptDue_of {s : State} {e : Episode} {since : Nat} (hst : s.recov.state = .waitRetry)
    (he : s.recov.episode = some e) (ha : e.attempt = none) (href : e.ref = some since)
    (hdue : since + spacing s.recov.set e.cause e.k * 10 ≤ s.tenths) : attemptDue s = true := by
  simp [attemptDue, attemptInHand, dueTime, hst, he, ha, href, hdue]

theorem enterWaitRetry_eq (s : State) : enterWaitRetry s =
    { s with recov := { s.recov with
      state := .waitRetry, episode := s.recov.episode.map fun e => { e with ref := some s.tenths, ret := none } } } := rfl

theorem enterFuelWait_eq (s : State) : enterFuelWait s =
    { s with recov := { s.recov with
      state := .fuelWait, episode := s.recov.episode.map fun e => { e with ref := none, ret := none } } } := rfl

/-! ### Safety writes (R65, R175) -/

/-- A safety write that starts carries the attempt in hand (R55, log 23). -/
theorem startSafetyWrite_eq (s : State) : startSafetyWrite s =
    { s with
      nv := { s.nv with writing := some s.recov.safe, waiting := false }
      recov := { s.recov with episode := s.recov.episode.map fun e =>
        { e with attempt := e.attempt.map fun a => { a with carried := true } } } } := rfl

/-- A requested safety write starts on an idle memory that none waits for, else it waits (R65). -/
theorem requestSafetyWrite_eq {s : State} {idle : Bool} (h : idle = (memoryIdle s && !s.nv.waiting)) :
    requestSafetyWrite s =
      { s with
        nv := if idle then { s.nv with writing := some s.recov.safe, waiting := false } else { s.nv with waiting := true }
        recov := { s.recov with episode := s.recov.episode.map fun e =>
          { e with attempt := e.attempt.map fun a => { a with carried := a.carried || idle } } } } := by
  rw [requestSafetyWrite, ← h]
  cases idle with
  | true => simp [startSafetyWrite_eq]
  | false => simp [State.setNv]

/-- A start of a write of non-volatile memory moves no notice. -/
theorem startNextWrite_settled {s : State} (h : Settled s) : Settled (startNextWrite s) := by
  rcases startNextWrite_cases s with ⟨-, he⟩ | ⟨-, -, he⟩ | ⟨-, -, he⟩
  · rwa [he]
  · rw [he, startSafetyWrite_eq]
    exact h.congr rfl rfl rfl rfl
  · rw [he, startStoreWrite_mgmt]
    exact h.congr rfl rfl rfl rfl

/-- Only a STORE that waits can start its write (R175). -/
theorem startStoreWrite_none {s : State} (h : ∀ room src idx, s.mgmt.job ≠ .waiting room src idx) :
    startStoreWrite s = s := by
  unfold startStoreWrite
  split
  · next hj => exact absurd hj (h _ _ _)
  · rfl

/-! ### The hard lock (R61) -/

/-- The episode is hard-locked: its number and cause go to the safety record, which is written, and the notices follow (R61). -/
theorem enterHardLock_reports {s : State} {e : Episode} {safe : SafetyRecord} {idle : Bool} (he : s.recov.episode = some e)
    (ha : e.attempt = none) (hsafe : safe = { s.recov.safe with flag := true, episode := e.number, cause := e.cause })
    (hidle : idle = (memoryIdle s && !s.nv.waiting)) :
    Reports
      { s with
        recov := { s.recov with state := .hardLock, safe := safe, episode := some { e with ref := none } }
        nv := if idle then { s.nv with writing := some safe, waiting := false } else { s.nv with waiting := true } }
      (enterHardLock s) := by
  subst hsafe hidle
  rw [enterHardLock, requestSafetyWrite_eq rfl]
  simp only [modEpisode, he, ha, State.setRecov, Option.map_some, Option.map_none, Option.getD_some]
  exact settleNotices_reports _

end Sys2Proof.Machine
end

section
/-! The due time of an automatic attempt, and the lapses of the history (R51 to R55, R61, R65). -/

namespace Sys2Proof.Machine

/-- Settles O20: the decision is fuel, then budget, then attempt (R52). -/
theorem dueTimeDecidesTheAttempt : Obligations.DueTimeDecidesTheAttempt := by
  intro since e base lapsed idle s hs hst he ha href hbase hdue hlapsed hidle
  subst hbase
  have hcause : attemptDue s = true := attemptDue_of hst he ha href hdue
  have hlapses := applyLapses_eq s
  rw [← hlapsed] at hlapses
  refine ⟨fun htank => ?fuel, fun htank hbudget => ?lock, fun htank hbudget => ?attempt⟩
  case fuel =>
    refine act_next hcause ?_ (hs.withBlocks s.sup (by simp [hst]) rfl rfl)
    rw [decideAttempt, if_pos htank, enterFuelWait_eq, he]
    rfl
  case lock =>
    have hdecide : decideAttempt s = enterHardLock (applyLapses s) := by
      rw [decideAttempt, if_neg htank, hlapses]
      exact if_pos hbudget
    have hlock := enterHardLock_reports (s := applyLapses s) he ha rfl hidle
    have hquiet : (enterHardLock (applyLapses s)).sched.wake = false := hlock.sched ▸ hs.quiet
    have h := hlock.trans (reports_of_quiet hquiet)
    rw [hlapses] at h
    refine ⟨_, _, act_finish hcause, rfl, ?_⟩
    rw [hdecide, hlapses]
    generalize finish (enterHardLock _) = t at h ⊢
    obtain ⟨line, timer, hmgmt⟩ := h.mgmt
    exact ⟨h.recov, h.nv, by simp [hardLockCond, h.recov], by rw [hmgmt], ⟨h.now, h.pending, h.freeIdx⟩, h.relay, h.zone,
      h.sup, ⟨h.level, h.vol, h.acct⟩, h.sched, ⟨h.portH, h.portY, h.portP⟩⟩
  case attempt =>
    have hdecide : decideAttempt s = requestSafetyWrite (startAttempt true (applyLapses s)) := by
      rw [decideAttempt, if_neg htank, hlapses]
      exact if_neg (Nat.not_le.mpr hbudget)
    have hwrite := requestSafetyWrite_eq (s := startAttempt true (applyLapses s)) hidle
    rw [startAttempt_eq true (s := applyLapses s) he rfl rfl, hlapses] at hwrite
    rw [startAttempt_eq true (s := applyLapses s) he rfl rfl, hlapses, hwrite] at hdecide
    exact ⟨_, _, _, rfl, rfl, rfl, act_next hcause hdecide (hs.congr rfl rfl rfl rfl)⟩

/-- Settles O23: the lapses are applied, and the end of the command leaves the blocks. -/
theorem oldAttemptsLapse : Obligations.OldAttemptsLapse := by
  intro s
  refine ⟨_, act_finish rfl, ?_⟩
  rw [applyLapses_eq]
  have h := (wakeSched_finishes _).trans (finish_finishes (wakeSched { s with recov := { s.recov with
    safe := { s.recov.safe with history := s.recov.safe.history.map fun h =>
      if h.kind = .automatic ∧ h.time + s.recov.set.window ≤ s.sec then { h with kind := .lapsed } else h } } }))
  exact ⟨h.recov, ⟨h.now, h.pending, h.freeIdx⟩, h.relay, h.zone, h.sup, ⟨h.level, h.vol, h.acct⟩, ⟨h.nv, h.mgmt⟩,
    h.keepsNodes, ⟨h.portH, h.portY, h.portP⟩⟩

end Sys2Proof.Machine
end

section
/-! SUPPORT. What the recovery unit does when a safety write ends, how PROVING is entered from any state of the supervisor, and
the ends of a pulse (R37, R55 to R58, R64). -/

namespace Sys2Proof.Machine

/-- RETRY_DUE takes the decision if an attempt is due, and nothing else (R52). -/
theorem exec_retryDue {s : State} (hs : Settled s) : exec .retryDue s = .next (finish (checkDue s)) := by
  change act (attemptDue s) decideAttempt s = _
  rw [act, checkDue]
  split
  · rfl
  · rw [finish_of_settled hs]

/-! ### The end of a safety write (R55) -/

/-- Only a safety write that carries the attempt in hand is waited for (R55, log 23). -/
theorem recWriteDone_leaves {s : State} (h : ∀ a, attemptInHand s = some a → a.carried = false) : recWriteDone s = s := by
  unfold recWriteDone
  split
  · rfl
  · next a ha => simp [h a ha]

section
variable {s : State} {e : Episode} {pos : Nat}

/-- The write that carries an automatic attempt ends with LOCKOUT active: the pulse starts (R55, R56). -/
theorem recWriteDone_pulses (hst : s.recov.state = .waitRetry) (he : s.recov.episode = some e)
    (ha : e.attempt = some { automatic := true, pos := pos, carried := true }) (ht : s.acct.tank ≠ .empty)
    (hl : s.sup.lockout.value = true) : recWriteDone s =
      { s with recov := { s.recov with
        state := .pulsing, pulseEnd := some (s.tenths + s.recov.set.resetWidth), episode := some { e with ref := none } } } := by
  have hhand : attemptInHand s = e.attempt := by rw [attemptInHand, he]; rfl
  simp [recWriteDone, hhand, ha, hst, ht, hl, modEpisode, enterPulsing, he, State.setRecov, State.tenths]

/-- With the tank EMPTY the attempt ends NOT_CLEARED and the episode waits for fuel (R55, R57, R60). -/
theorem recWriteDone_fuel (hst : s.recov.state = .waitRetry) (he : s.recov.episode = some e)
    (ha : e.attempt = some { automatic := true, pos := pos, carried := true }) (ht : s.acct.tank = .empty) :
    recWriteDone s =
      { s with recov := { s.recov with
        state := .fuelWait
        safe := { s.recov.safe with history := s.recov.safe.history.modify pos fun h => { h with outcome := .notCleared } }
        episode := some { e with attempt := none, k := bump8 e.k, ref := none, ret := none } } } := by
  have hhand : attemptInHand s = e.attempt := by rw [attemptInHand, he]; rfl
  simp [recWriteDone, hhand, ha, hst, ht, endAttempt_eq _ he ha, enterFuelWait_eq, attemptEnded]

end

/-! ### PROVING (R37, R58) -/

/-- A supervisor that is no longer blocked steers from a state other than LOCKED (R37). -/
theorem leaveLocked_steers (s : State) :
    ∃ sup : Supervisor, sup.state ≠ .locked ∧ Steers (s.setSup sup) (leaveLocked s) := by
  unfold leaveLocked
  split
  · dsimp only
    split
    · exact ⟨{ s.sup with minOffRef := s.tenths, state := .inhibited }, by simp, .refl _⟩
    · exact ⟨{ s.sup with minOffRef := s.tenths, state := .idle }, by simp, testSupervisor_steers _⟩
  · next h => exact ⟨s.sup, h, .refl s⟩

/-- PROVING is entered, and the supervisor is out of LOCKED; else only what it steers moves (R37, R58). -/
theorem enterProving_steers {s : State} {e : Episode} (he : s.recov.episode = some e) :
    ∃ sup : Supervisor, sup.state ≠ .locked ∧
      Steers
        { s with
          sup := sup
          recov := { s.recov with
            state := .proving, confirmFrom := none
            episode := some { e with
              ref := none, ret := none, proving := if s.sup.rr.active then some s.tenths else none } } }
        (enterProving s) := by
  obtain ⟨sup, hl, h⟩ := leaveLocked_steers { s with recov := { s.recov with
    state := .proving, confirmFrom := none
    episode := some { e with ref := none, ret := none, proving := if s.sup.rr.active then some s.tenths else none } } }
  refine ⟨sup, hl, ?_⟩
  have hproving : enterProving s = leaveLocked _ := rfl
  rw [hproving]
  simp only [modEpisode, State.setRecov_recov, he, Option.map_some]
  exact h

/-! ### The ends of a pulse (R56, R57, R64) -/

/-- An attempt in hand ends CLEARED and PROVING is entered, whatever the supervisor's state (R57). -/
theorem attemptCleared_steers {s : State} {e : Episode} (he : s.recov.episode = some e) :
    ∃ sup : Supervisor, sup.state ≠ .locked ∧
      Steers
        { s with
          sup := sup
          recov := { s.recov with
            state := .proving, confirmFrom := none
            safe := { s.recov.safe with history := historyCleared e.attempt s.recov.safe.history }
            episode := some { attemptEnded e with
              ref := none, ret := none, proving := if s.sup.rr.active then some s.tenths else none } } }
        (attemptCleared s) := by
  rw [attemptCleared_eq he]
  exact enterProving_steers (s := s.setRecov { s.recov with
    safe := { s.recov.safe with history := historyCleared e.attempt s.recov.safe.history }
    episode := some (attemptEnded e) }) rfl

/-- A pulse that ends with LOCKOUT released has cleared it (R56, R57). -/
theorem enterConfirming_released {s : State} (hl : s.sup.lockout.value = false) : enterConfirming s =
    attemptCleared (s.setRecov { s.recov with state := .confirming, pulseEnd := none, confirmFrom := some s.tenths }) :=
  if_neg (by simp [hl])

/-- An attempt that has not cleared LOCKOUT has ended, and the episode has not yet gone on (R57). -/
def notCleared (e : Episode) (a : Attempt) (s : State) : State :=
  { s with recov := { s.recov with
    confirmFrom := none
    safe := { s.recov.safe with history := s.recov.safe.history.modify a.pos fun h => { h with outcome := .notCleared } }
    episode := some (attemptEnded e) } }

section
variable {s : State} {e : Episode} {a : Attempt}

theorem attemptNotCleared_eq (he : s.recov.episode = some e) (ha : e.attempt = some a) : attemptNotCleared s =
    if a.automatic then enterWaitRetry (notCleared e a s)
    else
      match e.ret with
      | some .fuelWait =>
        if s.acct.tank = .empty then enterFuelWait (notCleared e a s) else enterWaitRetry (notCleared e a s)
      | _ => checkDue (modEpisode (fun e => { e with ret := none })
          ((notCleared e a s).setRecov { (notCleared e a s).recov with state := .waitRetry })) := by
  have hhand : attemptInHand (s.setRecov { s.recov with confirmFrom := none }) = some a := by
    rw [attemptInHand, State.setRecov_recov, he]; exact ha
  have hret : (s.setRecov { s.recov with confirmFrom := none }).recov.episode.bind (·.ret) = e.ret := by
    rw [State.setRecov_recov, he]; rfl
  have hend : endAttempt a .notCleared (s.setRecov { s.recov with confirmFrom := none }) = notCleared e a s :=
    endAttempt_eq .notCleared (s := s.setRecov { s.recov with confirmFrom := none }) he ha
  unfold attemptNotCleared
  dsimp only
  rw [hhand]
  dsimp only
  rw [hend, hret]
  rfl

/-- An automatic attempt that has not cleared LOCKOUT raises k, and the episode waits again from now (R52, R57). -/
theorem attemptNotCleared_automatic (he : s.recov.episode = some e) (ha : e.attempt = some a) (hauto : a.automatic = true) :
    attemptNotCleared s =
      { s with recov := { s.recov with
        state := .waitRetry, confirmFrom := none, safe := (notCleared e a s).recov.safe
        episode := some { e with attempt := none, k := bump8 e.k, ref := some s.tenths, ret := none } } } := by
  have hended : attemptEnded e = { e with attempt := none, k := bump8 e.k } := by simp [attemptEnded, ha, hauto]
  rw [attemptNotCleared_eq he ha, if_pos hauto, enterWaitRetry_eq, notCleared, hended]
  rfl

/-- A service attempt that has not cleared LOCKOUT keeps k, and the episode returns where it came from (R64). -/
theorem attemptNotCleared_service {ret : ReturnState} (he : s.recov.episode = some e) (ha : e.attempt = some a)
    (hauto : a.automatic = false) (hret : e.ret = some ret) :
    (ret = .waitRetry → attemptNotCleared s = checkDue
      { s with recov := { s.recov with
        state := .waitRetry, confirmFrom := none, safe := (notCleared e a s).recov.safe
        episode := some { e with attempt := none, ret := none } } }) ∧
    (ret = .fuelWait → s.acct.tank = .empty → attemptNotCleared s =
      { s with recov := { s.recov with
        state := .fuelWait, confirmFrom := none, safe := (notCleared e a s).recov.safe
        episode := some { e with attempt := none, ref := none, ret := none } } }) ∧
    (ret = .fuelWait → s.acct.tank ≠ .empty → attemptNotCleared s =
      { s with recov := { s.recov with
        state := .waitRetry, confirmFrom := none, safe := (notCleared e a s).recov.safe
        episode := some { e with attempt := none, ref := some s.tenths, ret := none } } }) := by
  have hended : attemptEnded e = { e with attempt := none } := by simp [attemptEnded, ha, hauto]
  rw [attemptNotCleared_eq he ha, if_neg (by simp [hauto]), hret, notCleared, hended]
  refine ⟨?_, ?_, ?_⟩
  · rintro rfl
    rfl
  · rintro rfl ht
    exact if_pos ht
  · rintro rfl ht
    exact if_neg ht

end

end Sys2Proof.Machine
end

section
/-! Safety writes and the pulse they come before; the pulse's end, confirmation and proving (R52, R55 to R58, R64, R65, R175). -/

namespace Sys2Proof.Machine

/-- Settles O21: the end of a write is told to the recovery unit by `recWriteDone`, and the next write then starts. -/
theorem safetyWritesComeBeforeThePulse : Obligations.SafetyWritesComeBeforeThePulse := by
  intro s hs
  have written (r : SafetyRecord) : Settled (s.setNv { s.nv with safety := some r, writing := none }) :=
    hs.congr rfl rfl rfl rfl
  have hcompletes {r : SafetyRecord} {u : State} (hw : s.nv.writing = some r)
      (hu : recWriteDone (s.setNv { s.nv with safety := some r, writing := none }) = u) (hsettled : Settled u) :
      exec .safetyWriteComplete s = .next (startNextWrite u) := by
    refine act_next (by rw [hw]; rfl) ?_ (startNextWrite_settled hsettled)
    rw [completeSafetyWrite, hw, hu]
  refine ⟨fun t ht hwait hidle => ?starts, fun h => ?stays,
    fun r e pos hw hst he ha => ⟨fun ht hl => ?pulse, fun ht => ?fuel⟩, fun r hw h => ?leaves⟩
  case starts =>
    have hstart : startSafetyWrite s = t := ht ▸ startSafetyWrite_eq s
    refine ⟨by rw [startNextWrite, if_pos hidle, if_pos hwait, hstart], ?_⟩
    refine act_next (by rw [hwait, hidle]; rfl) hstart ?_
    rw [ht]
    exact hs.congr rfl rfl rfl rfl
  case stays =>
    rcases h with h | ⟨hwait, hjob⟩
    · simp [startNextWrite, h]
    · simp [startNextWrite, hwait, startStoreWrite_none hjob]
  case pulse =>
    exact hcompletes hw (recWriteDone_pulses (s := s.setNv _) hst he ha ht hl)
      ((written r).withBlocks s.sup (by simp [hst]) rfl rfl)
  case fuel =>
    exact hcompletes hw (recWriteDone_fuel (s := s.setNv _) hst he ha ht)
      ((written r).withBlocks s.sup (by simp [hst]) rfl rfl)
  case leaves => exact hcompletes hw (recWriteDone_leaves (s := s.setNv _) h) (written r)

/-- Settles O22: a release found at the pulse's end enters PROVING, a confirmation that runs out ends the attempt NOT_CLEARED, and
the return of a service pulse to WAIT_RETRY is the test of RETRY_DUE. -/
theorem pulseConfirmationAndProving : Obligations.PulseConfirmationAndProving := by
  intro since s hs
  have hpulse (hst : s.recov.state = .pulsing) (hend : s.recov.pulseEnd = some since) (hdue : since ≤ s.tenths) :
      (s.recov.state = .pulsing && ranOut s.recov.pulseEnd 0 s.tenths) = true := by
    rw [hst, ranOut_of (len := 0) hend hdue]; rfl
  have hconfirm (hst : s.recov.state = .confirming) (hfrom : s.recov.confirmFrom = some since)
      (hdue : since + 100 ≤ s.tenths) :
      (s.recov.state = .confirming && ranOut s.recov.confirmFrom confirmTenths s.tenths) = true := by
    rw [hst, ranOut_of (len := confirmTenths) hfrom hdue]; rfl
  refine ⟨fun hst hend hdue hl => ?confirming, fun e hst hend hdue hl he => ?released,
    fun e pos carried hst hfrom hdue he ha => ?failed,
    fun e pos carried ret safe hst hfrom hdue he ha hret hsafe => ?service, fun e hst hrun he hfrom hdue => ?proved⟩
  case confirming => exact act_next (hpulse hst hend hdue) (if_pos hl) (hs.withBlocks s.sup (by simp [hst]) rfl rfl)
  case released =>
    obtain ⟨sup, -, hsteers⟩ := attemptCleared_steers (e := e) (s := s.setRecov { s.recov with
      state := .confirming, pulseEnd := none, confirmFrom := some s.tenths }) he
    rw [← enterConfirming_released hl] at hsteers
    have hfin := finish_finishes (enterConfirming s)
    refine ⟨_, act_finish (hpulse hst hend hdue), ?_⟩
    generalize finish (enterConfirming s) = t at hfin ⊢
    have hrecov := hfin.recov.trans hsteers.recov
    have h := hsteers.dispatch.trans hfin.dispatch
    refine ⟨by rw [hrecov], by rw [resetOut, hrecov]; rfl, by rw [hrecov]; rfl, h.clock, h.relay,
      hfin.zone.trans hsteers.zone, h.vol, h.acct, h.stores.1, h.nodes, h.ports⟩
  case failed =>
    exact act_next (hconfirm hst hfrom hdue) (attemptNotCleared_automatic he ha rfl)
      (hs.withBlocks s.sup (by simp [hst]) rfl rfl)
  case service =>
    subst hsafe
    obtain ⟨hwaits, hfuel, hoil⟩ := attemptNotCleared_service he ha rfl hret
    refine ⟨fun hr => ?_, fun hr ht => ?_, fun hr ht => ?_⟩
    · have hact := act_finish (effect := attemptNotCleared) (s := s) (hconfirm hst hfrom hdue)
      rw [hwaits hr] at hact
      exact hact.trans (exec_retryDue (hs.withBlocks s.sup (by simp [hst]) rfl rfl)).symm
    · exact act_next (hconfirm hst hfrom hdue) (hfuel hr ht) (hs.withBlocks s.sup (by simp [hst]) rfl rfl)
    · exact act_next (hconfirm hst hfrom hdue) (hoil hr ht) (hs.withBlocks s.sup (by simp [hst]) rfl rfl)
  case proved =>
    have hcause : (s.recov.state = .proving && s.sup.rr.active &&
        ranOut (s.recov.episode.bind (·.proving)) provingTenths s.tenths) = true := by
      rw [he, Option.bind_some, ranOut_of (len := provingTenths) hfrom hdue, hst, hrun]; rfl
    exact act_next hcause rfl (hs.withBlocks s.sup (by simp [hst]) rfl rfl)

end Sys2Proof.Machine
end

section
/-! SUPPORT. Writes that change one block alone and are answered: numbers, tank levels, strapping points, the wax temperature
and the counters (R51, R89, R106, R172). -/

namespace Sys2Proof.Machine

section
variable {o : Obj} {obj idx : Byte} {q : Req} {s : State} {w v lo hi taken : Nat} {c : Instr}

/-- A number is clamped, taken and answered, where its owner leaves the state settled. -/
theorem number_answers (k : Nat → State) (hm : MayWrite s q) (ho : objOf obj = some o) (hix : idx.toNat ≤ o.lastIndex)
    (hw : (o.isCounter idx.toNat || o.isSetting idx.toNat) = true) (hc : exec c s = requested .write obj idx q s)
    (hd : q.data = beBytes w v) (hv : v < 256 ^ w) (hlo : lo ≤ hi) (ht : taken = min hi (max lo v))
    (hk : writeItem o idx.toNat q.data s = writeNum w lo hi q.data k) (hs : Settled (k taken)) :
    Answers c 2 obj idx q (takenAs v taken) s (k taken) :=
  (number_taken k hm ho hix hw hc hd hv hlo ht hk).2.2 hs

/-- A setting of the tank that is a number. -/
theorem tankNumber_answers (k : Nat → State) (hm : MayWrite s q) (hix : idx.toNat ≤ 15) (hd : q.data = beBytes w v)
    (hv : v < 256 ^ w) (hlo : lo ≤ hi) (ht : taken = min hi (max lo v))
    (hk : writeItem .tankSet idx.toNat q.data s = writeNum w lo hi q.data k) (hs : Settled (k taken)) :
    Answers (.mgmtWrite 10 idx q) 2 10 idx q (takenAs v taken) s (k taken) :=
  number_answers (o := .tankSet) k hm rfl hix rfl rfl hd hv hlo ht hk hs

/-- A setting of the relay unit (R156). -/
theorem relaySet_answers (item : RelayItem) (k : Nat → State) (hm : MayWrite s q) (hd : q.data = beBytes w v)
    (hv : v < 256 ^ w) (hlo : lo ≤ hi) (ht : taken = min hi (max lo v))
    (hk : writeItem .relayCounters (relayIndex item).toNat q.data s = writeNum w lo hi q.data k) (hs : Settled (k taken)) :
    Answers (.relaySettingsWrite item q) 2 24 (relayIndex item) q (takenAs v taken) s (k taken) :=
  number_answers (o := .relayCounters) k hm rfl (by cases item <;> decide) (by cases item <;> rfl) rfl hd hv hlo ht hk hs

/-- A write that its owner refuses does nothing more than to answer BAD_VALUE. -/
theorem refused_answers (hs : Settled s) (hm : MayWrite s q) (ho : objOf obj = some o) (hix : idx.toNat ≤ o.lastIndex)
    (hw : (o.isCounter idx.toNat || o.isSetting idx.toNat) = true) (hc : exec c s = requested .write obj idx q s)
    (h : writeItem o idx.toNat q.data s = none) : Answers c 2 obj idx q (.bare .badValue) s s := by
  have hr : request .write obj idx q s = respond q.room q.src 2 obj idx (.bare .badValue) s := by
    rw [request, handle_write hm ho hix hw none h]; rfl
  rw [Answers, hc]
  exact act_next rfl hr ((respond_offers ..).settled hs)

/-- A tank level is taken where EMPTY_LEVEL would lie below RESERVE_LEVEL, and refused where it would not (R106). -/
theorem tankLevel_answers (item : LevelsItem) (k : Nat → AcctSet) (hs : Settled s) (hm : MayWrite s q)
    (hd : q.data = beBytes 4 v) (hv : v < 4294967296) (hlo : lo ≤ hi) (ht : taken = min hi (max lo v))
    (hk : writeItem .tankSet (levelsIndex item).toNat q.data s = writeLevels 4 lo hi q.data k s) :
    ((k taken).emptyLevel < (k taken).reserveLevel →
      Answers (.tankLevelsWrite item q) 2 10 (levelsIndex item) q (takenAs v taken) s
        { s with acct := { s.acct with set := k taken } }) ∧
    ((k taken).reserveLevel ≤ (k taken).emptyLevel →
      Answers (.tankLevelsWrite item q) 2 10 (levelsIndex item) q (.bare .badValue) s s) := by
  have hix : (levelsIndex item).toNat ≤ Obj.tankSet.lastIndex := by cases item <;> decide
  have hwritten : writeItem .tankSet (levelsIndex item).toNat q.data s =
      (some (decide (taken ≠ v), setAcctSet (k taken) s)).filter fun r =>
        decide (r.2.acct.set.emptyLevel < r.2.acct.set.reserveLevel) := by
    rw [hk, writeLevels, hd, writeNum_beBytes (by simpa using hv), clampNat_eq hlo, ht]
  constructor
  · intro hlt
    have htaken := hwritten.trans (if_pos (decide_eq_true hlt))
    rw [← writeReply_decide]
    exact write_answers (o := .tankSet) hm rfl hix rfl rfl htaken (hs.congr rfl rfl rfl rfl)
  · intro hle
    have hbad : ¬ decide ((k taken).emptyLevel < (k taken).reserveLevel) = true := by simpa using hle
    exact refused_answers (o := .tankSet) hs hm rfl hix rfl rfl (hwritten.trans (if_neg hbad))

/-- A write of 0 to a counter index clears its counters (R172). -/
theorem counter_cleared (hm : MayWrite s q) (ho : objOf obj = some o) (hix : idx.toNat ≤ o.lastIndex)
    (hw : o.isCounter idx.toNat = true) (hd : q.data = [0]) (hs : Settled (clearCounters o idx.toNat s)) :
    Answers (.counterClear obj idx q) 2 obj idx q (.bare .ok) s (clearCounters o idx.toNat s) := by
  have hwritten : writeItem o idx.toNat q.data s = some (false, clearCounters o idx.toNat s) := by
    have hcounter : writeItem o idx.toNat q.data s = writeCounter o idx.toNat q.data s := if_pos hw
    rw [hcounter, hd]; rfl
  exact write_answers (clamped := false) hm ho hix (by rw [hw]; rfl) rfl hwritten hs

/-- A relay counter is cleared by its number (R156). -/
theorem relayCounter_cleared {i : Byte} (hi : i.toNat ≤ 16) (hs : Settled s) (hm : MayWrite s q) (hd : q.data = [0]) :
    Answers (.counterClear 24 i q) 2 24 i q (.bare .ok) s
      { s with relay := { s.relay with ctr := clearRelayCounter i.toNat s.relay.ctr } } := by
  have hclear : clearCounters .relayCounters i.toNat s =
      { s with relay := { s.relay with ctr := clearRelayCounter i.toNat s.relay.ctr } } := by
    rw [clearCounters, if_neg (by omega), if_neg (by omega)]
    rfl
  have hcounter : Obj.isCounter .relayCounters i.toNat = true := decide_eq_true (by omega)
  rw [← hclear]
  refine counter_cleared (o := .relayCounters) hm rfl (show i.toNat ≤ 22 by omega) hcounter hd ?_
  rw [hclear]
  exact hs.congr rfl rfl rfl rfl

/-- A strapping point of the STAGED bank is a depth and a clamped volume (R89). -/
theorem writeItem_point {i d v : Nat} (hi : i < 32) (hd : d < 65536) (hv : v < 4294967296) (s : State) :
    writeItem .strapStaged i (beBytes 2 d ++ beBytes 4 v) s = some (decide (min 1000000 v ≠ v),
      { s with vol := setStaged { stagedBank s.vol with
        points := (stagedBank s.vol).points.set i { depth := d, vol := min 1000000 v } } s.vol }) := by
  obtain ⟨d1, d0, hdepth⟩ : ∃ d1 d0, beBytes 2 d = [d1, d0] := ⟨_, _, rfl⟩
  obtain ⟨v3, v2, v1, v0, hvol⟩ : ∃ v3 v2 v1 v0, beBytes 4 v = [v3, v2, v1, v0] := ⟨_, _, _, _, rfl⟩
  have hd' : ofBytes [d1, d0] = d := hdepth ▸ ofBytes_beBytes (w := 2) hd
  have hv' : ofBytes [v3, v2, v1, v0] = v := hvol ▸ ofBytes_beBytes (w := 4) hv
  have hclamp : clampNat 0 1000000 v = min 1000000 v := by rw [clampNat_eq (by omega), Nat.zero_max]
  have hwritten : writeItem .strapStaged i ([d1, d0] ++ [v3, v2, v1, v0]) s = _ :=
    if_neg (t := writeNum 1 0 32 _ _) (Nat.ne_of_lt hi)
  rw [hdepth, hvol, hwritten, hd', hv', hclamp]
  rfl

end

end Sys2Proof.Machine
end

section
/-! The plain settings and the counters (R51, R73, R89, R96, R106, R113, R116, R156, R172). -/

namespace Sys2Proof.Machine

/-- Settles O51: each write changes a setting or a counter of one block, on which no condition kind rests. -/
theorem plainWritesAreTaken : Obligations.PlainWritesAreTaken := by
  intro q v s hs hm
  refine ⟨fun hv hd => ?two, fun hv hd => ?one, fun hv hd => ?four, fun d i hi hd hv hdata => ?point,
    fun x hlo hhi hd => ?wax, fun hd => ?counters⟩
  case two =>
    exact ⟨relaySet_answers .ageLimit (fun v => setRelaySet { s.relay.set with ageLimit := v } s) hm hd hv (by decide) rfl rfl
        (hs.congr rfl rfl rfl rfl),
      tankNumber_answers (fun v => modLevel (fun f => { f with set := { s.level.set with slew := v } }) s) hm (by decide) hd hv
        (Nat.zero_le 5000) (by simp) rfl (hs.congr rfl rfl rfl rfl),
      tankNumber_answers (fun v => s.setVol { s.vol with coef := v }) hm (by decide) hd hv (Nat.zero_le 2000) (by simp) rfl
        (hs.congr rfl rfl rfl rfl),
      tankNumber_answers (fun v => setAcctSet { s.acct.set with nozzleRate := v } s) hm (by decide) hd hv (by decide) rfl rfl
        (hs.congr rfl rfl rfl rfl)⟩
  case one =>
    refine ⟨relaySet_answers .nodeCap (fun v => setRelaySet { s.relay.set with nodeCap := v } s) hm hd hv (by decide) rfl rfl
        (hs.congr rfl rfl rfl rfl),
      ?bcastCap,
      tankNumber_answers (fun v => setAcctSet { s.acct.set with period := v } s) hm (by decide) hd hv (by decide) rfl rfl
        (hs.congr rfl rfl rfl rfl),
      tankNumber_answers (fun v => setAcctSet { s.acct.set with tolPct := v } s) hm (by decide) hd hv (Nat.zero_le 100)
        (by simp) rfl (hs.congr rfl rfl rfl rfl),
      number_answers (o := .strapStaged) (fun n => modStaged (fun b => { b with n := n }) s) hm rfl (by decide) rfl rfl hd hv
        (Nat.zero_le 32) (by simp) rfl (hs.congr rfl rfl rfl rfl),
      (recoverySet_taken .resetWidth (fun v => setRecoverySet { s.recov.set with resetWidth := v } s) hm hd hv (by decide) rfl
        rfl).2.2 (hs.congr rfl rfl rfl rfl)⟩
    case bcastCap =>
      have hsame : takenAs v v = .bare .ok := by simp [takenAs]
      rw [← hsame]
      exact relaySet_answers .bcastCap (fun v => setRelaySet { s.relay.set with bcastCap := v } s) hm hd hv (Nat.zero_le 255)
        (by omega) rfl (hs.congr rfl rfl rfl rfl)
  case four =>
    have hreserve := tankLevel_answers .reserveLevel (fun v => { s.acct.set with reserveLevel := v }) hs hm hd hv (by decide) rfl
      rfl
    have hempty := tankLevel_answers (taken := min 999999 v) .emptyLevel (fun v => { s.acct.set with emptyLevel := v }) hs hm hd
      hv (Nat.zero_le 999999) (by simp) rfl
    have hhyst := tankLevel_answers (taken := min 100000 v) .hyst (fun v => { s.acct.set with hyst := v }) hs hm hd hv
      (Nat.zero_le 100000) (by simp) rfl
    exact ⟨tankNumber_answers (fun v => setAcctSet { s.acct.set with tolFixed := v } s) hm (by decide) hd hv
        (Nat.zero_le 100000) (by simp) rfl (hs.congr rfl rfl rfl rfl),
      tankNumber_answers (fun v => setAcctSet { s.acct.set with delivMin := v } s) hm (by decide) hd hv (by decide) rfl rfl
        (hs.congr rfl rfl rfl rfl), hreserve.1, hreserve.2, hempty.1, hempty.2, hhyst.1⟩
  case point =>
    rw [← writeReply_decide]
    exact write_answers (o := .strapStaged) hm rfl (show i.toNat ≤ 32 by omega) rfl rfl
      (hdata ▸ writeItem_point hi hd hv s) (hs.congr rfl rfl rfl rfl)
  case wax =>
    have hwritten : writeItem .recoverySet (5 : Byte).toNat q.data s =
        some (decide (min 100 (max (-200) x) ≠ x),
          setRecoverySet { s.recov.set with waxTemp := min 100 (max (-200) x) } s) := by
      have hlen : (beSigned 2 x).length = 2 := length_beBytes 2 _
      have hnum : writeItem .recoverySet (5 : Byte).toNat (beSigned 2 x) s = _ := if_pos (e := none) hlen
      rw [hd, hnum, ofSigned_beSigned_two hlo hhi, clampInt_eq (by omega)]
    have hreply : writeReply (decide (min 100 (max (-200) x) ≠ x)) =
        .bare (if min 100 (max (-200) x) = x then .ok else .clamped) := by
      by_cases h : min 100 (max (-200) x) = x <;> simp [writeReply, h]
    rw [← hreply]
    exact write_answers (o := .recoverySet) hm rfl (by decide) rfl rfl hwritten (hs.congr rfl rfl rfl rfl)
  case counters =>
    refine ⟨counter_cleared (o := .ident) hm rfl (by decide) rfl hd (hs.congr rfl rfl rfl rfl),
      counter_cleared (o := .poll) hm rfl (by decide) rfl hd (hs.congr rfl rfl rfl rfl),
      counter_cleared (o := .level) hm rfl (by decide) rfl hd (hs.congr rfl rfl rfl rfl),
      counter_cleared (o := .burnerState) hm rfl (by decide) rfl hd (hs.congr rfl rfl rfl rfl),
      counter_cleared (o := .portCounters) hm rfl (by decide) rfl hd (hs.congr rfl rfl rfl rfl),
      counter_cleared (o := .portCounters) hm rfl (by decide) rfl hd (hs.congr rfl rfl rfl rfl),
      counter_cleared (o := .portCounters) hm rfl (by decide) rfl hd (hs.congr rfl rfl rfl rfl),
      counter_cleared (o := .portCounters) hm rfl (by decide) rfl hd (hs.congr rfl rfl rfl rfl),
      fun i ctr h => ?relay,
      counter_cleared (o := .relayCounters) hm rfl (by decide) rfl hd (hs.congr rfl rfl rfl rfl),
      counter_cleared (o := .relayCounters) hm rfl (by decide) rfl hd (hs.congr rfl rfl rfl rfl)⟩
    case relay =>
      obtain ⟨hi, rfl⟩ : i.toNat ≤ 16 ∧ ctr = clearRelayCounter i.toNat s.relay.ctr := by
        rcases h with ⟨rfl, rfl⟩ | ⟨rfl, rfl⟩ | ⟨rfl, rfl⟩ | ⟨rfl, rfl⟩ | ⟨rfl, rfl⟩ | ⟨rfl, rfl⟩ | ⟨rfl, rfl⟩ | ⟨rfl, rfl⟩ |
          ⟨rfl, rfl⟩ | ⟨rfl, rfl⟩ | ⟨rfl, rfl⟩ | ⟨rfl, rfl⟩ | ⟨rfl, rfl⟩ | ⟨rfl, rfl⟩ | ⟨rfl, rfl⟩ | ⟨rfl, rfl⟩ | ⟨rfl, rfl⟩ <;>
          exact ⟨by decide, rfl⟩
      exact relayCounter_cleared hi hs hm hd

end Sys2Proof.Machine
end

section
/-! SUPPORT. Actions of a service source, and what their owners do: a change of the tank state (`HandsOn`), a break of the
accounts, a swap of the banks, FORGET-LEVEL and a cleared hard lock (R62, R85, R91, R107, R112, R170, R173). -/

namespace Sys2Proof.Machine

/-! ### The checks of R170 -/

section
variable {s : State} {q : Req} {obj idx : Byte} {a : Action} {out : State × Reply} {c : Instr}

/-- An action that passes the checks is answered as its owner says, and the command ends on the state that the owner made. -/
theorem action_taken (hq : isService s q.src.toNat = true) (ha : actionOf obj = some a) (hix : idx.toNat ≤ a.lastIndex)
    (hb : actionBusy a s = false) (h : doAction a q.room q.src idx q.data s = out) :
    answerOf .action obj idx q s = out.2 ∧
      requested .action obj idx q s = .next (finish (respond q.room q.src 3 obj idx out.2 out.1)) := by
  have hh : handle Op.action.code obj idx q.room q.src q.data s = out := by
    have haction : handle Op.action.code obj idx q.room q.src q.data s = handleAction obj idx q.src q.room q.data s := rfl
    rw [haction, handleAction]
    simp only [ha, Nat.not_lt.mpr hix, hq, hb, h, if_false, Bool.not_true, Bool.false_eq_true]
  have hr : request .action obj idx q s = respond q.room q.src 3 obj idx out.2 out.1 := by rw [request, hh]; rfl
  exact ⟨by rw [answerOf, hh], congrArg (fun t => Host.Outcome.next (finish t)) hr⟩

/-- An action that makes a settled state does nothing more than to answer. -/
theorem action_answers (hq : isService s q.src.toNat = true) (ha : actionOf obj = some a) (hix : idx.toNat ≤ a.lastIndex)
    (hb : actionBusy a s = false) (hc : exec c s = requested .action obj idx q s)
    (h : doAction a q.room q.src idx q.data s = out) (hs : Settled out.1) :
    Answers c 3 obj idx q out.2 s out.1 := by
  rw [Answers, hc, (action_taken hq ha hix hb h).2, finish_of_settled ((respond_offers ..).settled hs)]

end

/-- The answer and the end of its command: only an exchange and the notices follow. -/
theorem answered_finishes (room : Room) (src op obj idx : Byte) (r : Reply) (s : State) :
    Finishes s (finish (respond room src op obj idx r s)) :=
  (respond_offers ..).finishes.trans (finish_finishes _)

theorem Reports.pendingSet {s t : State} (h : Reports s t) : pendingSet t = pendingSet s := by
  obtain ⟨line, timer, hm⟩ := h.mgmt
  rw [Machine.pendingSet, Machine.pendingSet, hm,
    conditionSet_congr h.portH.mode h.portY.mode h.portP.mode h.zone h.recov h.acct h.level (by rw [h.sched])]

/-! ### A change of the tank state (R38, R60, R107) -/

/-- A new tank state may have been handed on: the zone unit, the supervisor, the recovery unit, the demand parts, BURNER_START,
valve commands, the NOTICE line and offers may have followed. -/
structure HandsOn (s t : State) : Prop where
  clock : KeepsClock s t
  level : t.level = { s.level with burnerStart := t.level.burnerStart }
  vol : t.vol = s.vol
  acct : t.acct = s.acct
  stores : KeepsStores s t
  nodes : KeepsNodes s t
  ports : PortsOffered s t

theorem HandsOn.refl (s : State) : HandsOn s s := ⟨.refl s, rfl, rfl, rfl, .refl s, .refl s, .refl s⟩

theorem HandsOn.trans {a b c : State} (h : HandsOn a b) (k : HandsOn b c) : HandsOn a c where
  clock := h.clock.trans k.clock
  level := k.level.trans (by rw [h.level])
  vol := k.vol.trans h.vol
  acct := k.acct.trans h.acct
  stores := h.stores.trans k.stores
  nodes := h.nodes.trans k.nodes
  ports := h.ports.trans k.ports

theorem DispatchFrame.handsOn {s t : State} (h : DispatchFrame s t) : HandsOn s t :=
  ⟨h.clock, h.level, h.vol, h.acct, h.stores, h.nodes, h.ports⟩

theorem setSup_dispatch (s : State) (v : Supervisor) : DispatchFrame s (s.setSup v) :=
  ⟨.refl s, rfl, rfl, rfl, rfl, rfl, .refl s, .refl s, .refl s⟩

theorem dropCall_dispatch (next : SupState) (s : State) : DispatchFrame s (dropCall next s) := by
  obtain ⟨c, hc, -, he⟩ := dropCall_eq next s
  rw [he, hc.frame]
  exact ⟨.refl s, rfl, rfl, rfl, rfl, rfl, .refl s, hc.nodes, .refl s⟩

theorem enterIdle_dispatch (s : State) : DispatchFrame s (enterIdle s) :=
  (setSup_dispatch s _).trans (testSupervisor_steers _).dispatch

theorem supTankChanged_dispatch (old : TankState) (s : State) : DispatchFrame s (supTankChanged old s) := by
  unfold supTankChanged
  split
  · split
    · exact .refl s
    · split
      · exact dropCall_dispatch .inhibited s
      · exact setSup_dispatch s _
  · split
    · exact enterIdle_dispatch s
    · exact .refl s

theorem recTankChanged_handsOn (old : TankState) (s : State) : HandsOn s (recTankChanged old s) := by
  unfold recTankChanged
  split
  · exact ⟨.refl s, rfl, rfl, rfl, .refl s, .refl s, .refl s⟩
  · exact .refl s

theorem zoneTankChanged_handsOn (s : State) : HandsOn s (zoneTankChanged s) :=
  have hparts : HandsOn s (rerunParts (fun _ => true) s) := ⟨.refl s, rfl, rfl, rfl, .refl s, .refl s, .refl s⟩
  hparts.trans (evaluateZones_dispatch _ _).handsOn

/-- Everything a new tank state can do (R107). -/
theorem setTank_handsOn (tank : TankState) (s : State) :
    HandsOn (s.setAcct { s.acct with tank := tank }) (setTank tank s) := by
  unfold setTank
  split
  · next h =>
    have hsame : s.setAcct { s.acct with tank := tank } = s := by rw [← h]; rfl
    rw [hsame]
    exact .refl s
  · exact ((zoneTankChanged_handsOn _).trans (supTankChanged_dispatch _ _).handsOn).trans (recTankChanged_handsOn _ _)

theorem setTank_setAcct (tank : TankState) (s : State) (acct : Accounting) :
    HandsOn (s.setAcct { acct with tank := tank }) (setTank tank (s.setAcct acct)) := setTank_handsOn tank (s.setAcct acct)

/-! ### A break of the accounts (R112, R118) -/

/-- The accounts after a break: no period, no last H0 and no delivery record is open, and the tank state is as it was. -/
structure Broken (s : State) (acct : Accounting) : Prop where
  tank : acct.tank = s.acct.tank
  period : acct.period = none
  lastH0 : acct.lastH0 = none
  closed : ∀ t : State, t.acct.deliveries = acct.deliveries → deliveryOpen t = false

/-- A break of the accounts, in whole: the run is split, and the accounts are broken (R112, R118). -/
theorem acctBreak_broken (reason : SkipReason) (s : State) :
    ∃ sup acct, acctBreak reason s = (s.setSup sup).setAcct acct ∧ Broken s acct := by
  have hclosed (t : State) (h : t.acct.deliveries = (endDelivery .truncated s).acct.deliveries) : deliveryOpen t = false := by
    rw [deliveryOpen, h]
    exact deliveryOpen_endDelivery .truncated s
  cases hp : s.acct.period with
  | none => exact ⟨s.sup, _, acctBreak_noPeriod reason hp, rfl, hp, rfl, hclosed⟩
  | some p =>
    obtain ⟨credit, residue, hc⟩ := exists_partialCredit s
    exact ⟨_, _, acctBreak_period hp hc, rfl, rfl, rfl, hclosed⟩

/-! ### A swap of the banks (R90, R91) -/

/-- A bank with fewer than two points is refused for its count (R90). -/
theorem strapFault_count {b : Bank} (h : b.n < 2) : strapFault b = some (b.n, .count) := if_pos h

/-- The volume unit after a swap: the banks exchanged, the chain cleared, and a known depth computed anew (R91). -/
def volSwapped (s : State) : Volume :=
  { s.vol with
    activeB := !s.vol.activeB, chain := []
    record := match s.level.depth with
      | none => s.vol.record
      | some d => some (computeRecord { s.vol with activeB := !s.vol.activeB } d s.level.temp s.level.time) }

/-- The accounts are broken in a swap, and a known depth may give a new tank state (R91). -/
theorem swapBanks_cases (s : State) : ∃ u sup acct, u = ((s.setVol (volSwapped s)).setSup sup).setAcct acct ∧
    Broken s acct ∧ (swapBanks s = u ∨ s.level.depth ≠ none ∧ ∃ tank, swapBanks s = setTank tank u) := by
  obtain ⟨sup, acct, hbreak, hbroken⟩ := acctBreak_broken .swap (s.setVol { s.vol with activeB := !s.vol.activeB })
  refine ⟨_, sup, acct, rfl, ⟨hbroken.tank, hbroken.period, hbroken.lastH0, hbroken.closed⟩, ?_⟩
  unfold swapBanks
  dsimp only
  rw [hbreak]
  split
  · next hd =>
    have hd : s.level.depth = none := hd
    rw [volSwapped, hd]
    exact .inl rfl
  · next d hd =>
    have hd : s.level.depth = some d := hd
    rw [volSwapped, hd]
    split
    · exact .inl rfl
    · exact .inr ⟨nofun, _, rfl⟩

/-- A swap breaks the accounts and hands on a tank state: with no known depth the one there was (R91, R107). -/
theorem swapBanks_spec (s : State) : ∃ sup acct tank, Broken s acct ∧
    HandsOn (((s.setVol (volSwapped s)).setSup sup).setAcct { acct with tank := tank }) (swapBanks s) ∧
    (s.level.depth = none → tank = s.acct.tank) := by
  obtain ⟨u, sup, acct, hu, hb, he | ⟨hd, tank, he⟩⟩ := swapBanks_cases s
  · exact ⟨sup, acct, acct.tank, hb, by rw [he, hu]; exact .refl _, fun _ => hb.tank⟩
  · exact ⟨sup, acct, tank, hb, by rw [he, hu]; exact setTank_setAcct tank _ acct, fun h => absurd h hd⟩

/-! ### FORGET-LEVEL (R85, R99, R105) -/

/-- The level filter after FORGET-LEVEL: no record, the filter restarted, and the stale timer if a gauge is configured (R85). -/
def levelForgotten (s : State) : Level :=
  { s.level with
    depth := none, temp := none, time := 0, status := .none, faultRun := 0, box := {}, prev := none, ref := none
    spikeRun := 0, staleFrom := if hasGauge s then some s.sec else none }

/-- FORGET-LEVEL settles the notices (`v`), forgets the level and the volume, breaks the accounts and hands on UNKNOWN (R85). -/
theorem forgetLevel_spec (s : State) : ∃ l v sup acct, Reports (s.setLevel l) v ∧ Broken v acct ∧
    HandsOn ((((v.setLevel (levelForgotten s)).setVol { s.vol with record := none, chain := [] }).setSup sup).setAcct
      { acct with tank := .unknown }) (forgetLevel s) := by
  have h := settleNotices_reports (s.setLevel { levelForgotten s with staleFrom := s.level.staleFrom })
  have hforget : forgetLevel s = volForget (restartStale (settleNotices (s.setLevel
    { levelForgotten s with staleFrom := s.level.staleFrom }))) := rfl
  generalize settleNotices (s.setLevel { levelForgotten s with staleFrom := s.level.staleFrom }) = v at h hforget
  have hstale : restartStale v = v.setLevel (levelForgotten s) := by
    have hgauge : hasGauge v = hasGauge s := by rw [hasGauge, h.sched]; rfl
    have hsec : v.sec = s.sec := congrArg (· / ticksPerSecond) h.now
    rw [restartStale, modLevel, hgauge, hsec, h.level]
    rfl
  have hvol : (v.setLevel (levelForgotten s)).vol = s.vol := h.vol
  obtain ⟨sup, acct, hbreak, hbroken⟩ :=
    acctBreak_broken .forget ((v.setLevel (levelForgotten s)).setVol { s.vol with record := none, chain := [] })
  refine ⟨_, v, sup, acct, h, ⟨hbroken.tank, hbroken.period, hbroken.lastH0, hbroken.closed⟩, ?_⟩
  rw [hforget, hstale, volForget, hvol, hbreak]
  exact setTank_setAcct _ _ acct

/-! ### The hard lock cleared (R62) -/

theorem forgive_eq (number : Nat) (es : List HistEntry) : forgive number es =
    es.map fun h => if h.kind = .automatic ∧ h.episode = number then { h with kind := .forgiven } else h := by
  simp only [forgive, Bool.and_eq_true, decide_eq_true_eq]

/-- A requested safety write in non-volatile memory: it starts on an idle memory that none waits for, else it waits (R65). -/
def nvRequested (safe : SafetyRecord) (s : State) : NonVolatile :=
  if memoryIdle s && !s.nv.waiting then { s.nv with writing := some safe, waiting := false } else { s.nv with waiting := true }

/-- A cleared hard lock: the flag leaves the safety record, the episode's entries are forgiven, and a safety write is requested
(R62, log 27). -/
def lockLifted (e : Episode) (s : State) : State :=
  requestSafetyWrite (s.setRecov { s.recov with
    safe := { s.recov.safe with flag := false, history := forgive e.number s.recov.safe.history } })

/-- A lifted lock changes the safety record, its writing and the mark of an attempt in hand (R62, R65). -/
theorem lockLifted_eq {e : Episode} {s : State} (he : s.recov.episode = some e) : ∃ safe attempt,
    safe = { s.recov.safe with flag := false, history := forgive e.number s.recov.safe.history } ∧ lockLifted e s =
      { s with
        nv := nvRequested safe s
        recov := { s.recov with safe := safe, episode := some { e with attempt := attempt } } } := by
  refine ⟨_, e.attempt.map fun a => { a with carried := a.carried || (memoryIdle s && !s.nv.waiting) }, rfl, ?_⟩
  rw [lockLifted, requestSafetyWrite_eq rfl, State.setRecov_recov, he]
  rfl

/-- With LOCKOUT active the episode waits again with k = 1, else it enters PROVING; the notices follow (R62, log 27). -/
theorem clearLock_eq {e : Episode} {s : State} (he : s.recov.episode = some e) : clearLock s =
    settleNotices (if s.sup.lockout.value then enterWaitRetry (modEpisode (fun e => { e with k := 1 }) (lockLifted e s))
      else enterProving (lockLifted e s)) := by
  have hsup : (lockLifted e s).sup = s.sup := by rw [lockLifted, requestSafetyWrite_eq rfl]; rfl
  rw [clearLock, he, ← hsup]
  rfl

/-- The recovery unit (`r`) and the supervisor once a hard lock has been cleared (R62, log 27). -/
structure LockCleared (e : Episode) (s : State) (r : Recovery) (e' : Episode) (sup : Supervisor) : Prop where
  safe : r.safe = { s.recov.safe with flag := false, history := forgive e.number s.recov.safe.history }
  episode : r.episode = some e'
  number : e'.number = e.number
  cause : e'.cause = e.cause
  waits : s.sup.lockout.value = true → r.state = .waitRetry ∧ e'.k = 1 ∧ e'.ref = some s.tenths ∧ sup = s.sup
  proves : s.sup.lockout.value = false → r.state = .proving ∧ e'.k = e.k ∧ e'.ref = none ∧ sup.state ≠ .locked

/-- Everything a cleared hard lock does before the notices settle (R62, R65). -/
theorem clearLock_spec {s : State} {e : Episode} (he : s.recov.episode = some e) :
    ∃ r e' sup w, clearLock s = settleNotices w ∧ LockCleared e s r e' w.sup ∧
      Steers { s with nv := nvRequested r.safe s, recov := r, sup := sup } w := by
  obtain ⟨safe, attempt, hsafe, hlift⟩ := lockLifted_eq he
  have hclear := clearLock_eq he
  rw [hlift] at hclear
  cases hl : s.sup.lockout.value with
  | true =>
    rw [hl, if_pos rfl] at hclear
    exact ⟨_, { e with attempt := attempt, k := 1, ref := some s.tenths, ret := none }, _, _, hclear,
      ⟨hsafe, rfl, rfl, rfl, fun _ => ⟨rfl, rfl, rfl, rfl⟩, fun h => by simp [hl] at h⟩, .refl _⟩
  | false =>
    rw [hl, if_neg nofun] at hclear
    obtain ⟨sup, hlocked, hsteers⟩ := enterProving_steers (e := { e with attempt := attempt })
      (s := { s with
        nv := nvRequested safe s, recov := { s.recov with safe := safe, episode := some { e with attempt := attempt } } }) rfl
    exact ⟨_, { e with
        attempt := attempt, ref := none, ret := none, proving := if s.sup.rr.active then some s.tenths else none },
      sup, _, hclear, ⟨hsafe, rfl, rfl, rfl, fun h => by simp [hl] at h,
      fun _ => ⟨rfl, rfl, rfl, fun h => hlocked (hsteers.locked.mp h)⟩⟩, hsteers⟩

end Sys2Proof.Machine
end

section
/-! The actions of a service source but STORE (R62, R64, R82, R85, R90, R91, R112, R173, R176). -/

namespace Sys2Proof.Machine

section
variable {q : Req} {s : State}

/-- SWAP-STRAP of a STAGED bank that passes validation (R90, R91). -/
theorem swapStrap_taken (hq : isService s q.src.toNat = true) (hd : q.data = []) (hb : storeInProgress s = false)
    (hvalid : strapFault (stagedBank s.vol) = none) :
    answerOf .action 1 0 q s = .bare .ok ∧ ∃ t, exec (.swapStrap 0 q) s = .next t ∧
      t.vol = { s.vol with activeB := !s.vol.activeB, chain := [], record := t.vol.record } ∧
      (s.level.depth = none → t.vol.record = s.vol.record ∧ t.acct.tank = s.acct.tank) ∧
      (∀ d, s.level.depth = some d → t.vol.record =
        some (computeRecord { s.vol with activeB := !s.vol.activeB } d s.level.temp s.level.time)) ∧
      t.acct.period = none ∧ t.acct.lastH0 = none ∧ deliveryOpen t = false ∧
      t.level = { s.level with burnerStart := t.level.burnerStart } ∧ KeepsClock s t ∧ KeepsStores s t ∧
      KeepsNodes s t ∧ PortsOffered s t := by
  have hact : doAction .swapStrap q.room q.src 0 q.data s = (swapBanks s, .bare .ok) := by
    have hswap : doAction .swapStrap q.room q.src 0 [] s = actSwap s := rfl
    rw [hd, hswap, actSwap, hvalid]
  obtain ⟨hanswer, hexec⟩ := action_taken (obj := 1) (idx := 0) hq rfl (by decide) hb hact
  refine ⟨hanswer, _, hexec, ?_⟩
  obtain ⟨sup, acct, tank, hbroken, hswap, htank⟩ := swapBanks_spec s
  have h := hswap.trans (answered_finishes q.room q.src 3 1 0 (.bare .ok) (swapBanks s)).dispatch.handsOn
  generalize finish (respond q.room q.src 3 1 0 (.bare .ok) (swapBanks s)) = t at h ⊢
  have hvol : t.vol = volSwapped s := h.vol
  have hacct : t.acct = { acct with tank := tank } := h.acct
  refine ⟨by rw [hvol]; rfl, fun hn => ⟨?_, by rw [hacct]; exact htank hn⟩, fun d hs => ?_,
    by rw [hacct]; exact hbroken.period, by rw [hacct]; exact hbroken.lastH0, hbroken.closed t (by rw [hacct]),
    h.level, h.clock, h.stores, h.nodes, h.ports⟩
  · rw [hvol, volSwapped, hn]
  · rw [hvol, volSwapped, hs]

/-- CLEAR-NOTICE removes the named event kinds, and answers those still pending (R176). -/
theorem clearNotice_taken {named : Word16} (hs : Settled s) (hq : isService s q.src.toNat = true)
    (hd : q.data = beBytes 2 named.toNat) :
    ∃ t, exec (.clearNotice 0 q) s = .next t ∧
      t.mgmt = { s.mgmt with
        events := s.mgmt.events &&& ~~~(named &&& 0x7FFF), line := t.mgmt.line, repeatFrom := t.mgmt.repeatFrom } ∧
      answerOf .action 3 0 q s = .now .ok (beBytes 2 (named &&& 0x7FFF &&& pendingSet t).toNat) .plain ∧
      KeepsClock s t ∧ KeepsHeat s t ∧ KeepsOil s t ∧ t.sched = s.sched ∧ t.nv = s.nv ∧ PortsOffered s t := by
  obtain ⟨cleared, hc⟩ :
      ∃ u, u = s.setMgmt { s.mgmt with events := s.mgmt.events &&& ~~~(named &&& 0x7FFF) } := ⟨_, rfl⟩
  obtain ⟨r, hr⟩ : ∃ r : Reply,
      r = .now .ok (beBytes 2 (named &&& 0x7FFF &&& pendingSet (settleNotices cleared)).toNat) .plain := ⟨_, rfl⟩
  have hact : doAction .clearNotice q.room q.src 0 q.data s = (settleNotices cleared, r) := by
    have hnamed : BitVec.ofNat 16 (ofBytes q.data) = named := by
      rw [hd, ofBytes_beBytes named.isLt, BitVec.ofNat_toNat, BitVec.setWidth_eq]
    have hlen : ¬ q.data.length ≠ Action.dataLength .clearNotice := by rw [hd, length_beBytes]; exact fun h => h rfl
    rw [doAction, if_neg hlen, hnamed, hr, hc]
    rfl
  obtain ⟨hanswer, hexec⟩ := action_taken (obj := 3) (idx := 0) hq rfl (by decide) rfl hact
  refine ⟨_, hexec, ?_⟩
  have hsettle := settleNotices_reports cleared
  have hoffer : Offers (settleNotices cleared) (respond q.room q.src 3 3 0 r (settleNotices cleared)) := respond_offers ..
  have hquiet : (respond q.room q.src 3 3 0 r (settleNotices cleared)).sched.wake = false := by
    rw [hoffer.sched, hsettle.sched, hc]; exact hs.quiet
  have hend := hoffer.reports.trans (reports_of_quiet hquiet)
  rw [hanswer]
  dsimp only
  generalize finish (respond q.room q.src 3 3 0 r (settleNotices cleared)) = t at hend ⊢
  have h := hsettle.trans hend
  rw [hr, ← hend.pendingSet]
  rw [hc] at h
  obtain ⟨line, timer, hmgmt⟩ := h.mgmt
  exact ⟨by rw [hmgmt]; rfl, rfl, ⟨h.now, h.pending, h.freeIdx⟩, ⟨h.relay, h.zone, h.sup, h.recov⟩,
    ⟨h.level, h.vol, h.acct⟩, h.sched, h.nv, ⟨h.portH, h.portY, h.portP⟩⟩

/-- RESET-BURNER starts a service pulse from WAIT_RETRY or FUEL_WAIT (R64). -/
theorem resetBurner_answers {e : Episode} {h : List HistEntry} {ret : ReturnState} (hs : Settled s)
    (hq : isService s q.src.toNat = true) (hd : q.data = []) (he : s.recov.episode = some e)
    (hst : (s.recov.state = .waitRetry ∧ e.attempt = none ∧ ret = .waitRetry) ∨
      (s.recov.state = .fuelWait ∧ ret = .fuelWait))
    (hh : h = appendEntry s.recov.safe.history
      { time := s.sec, kind := .service, episode := e.number, outcome := .pending }) :
    Answers (.resetBurner 0 q) 3 4 0 q (.bare .ok) s
      { s with recov := { s.recov with
        state := .pulsing, pulseEnd := some (s.tenths + s.recov.set.resetWidth)
        safe := { s.recov.safe with history := h }
        episode := some { e with
          ret := some ret, attempt := some { automatic := false, pos := h.length - 1, carried := false } } } } := by
  have hpulse : servicePulse ret s =
      { s with recov := { s.recov with
        state := .pulsing, pulseEnd := some (s.tenths + s.recov.set.resetWidth)
        safe := { s.recov.safe with history := h }
        episode := some { e with
          ret := some ret, attempt := some { automatic := false, pos := h.length - 1, carried := false } } } } := by
    rw [servicePulse, startAttempt_eq false he rfl hh]
    rfl
  have hact : doAction .resetBurner q.room q.src 0 q.data s = (servicePulse ret s, .bare .ok) := by
    have hreset : doAction .resetBurner q.room q.src 0 [] s = actReset s := rfl
    rw [hd, hreset, actReset]
    rcases hst with ⟨hst, ha, rfl⟩ | ⟨hst, rfl⟩
    · simp [hst, attemptInHand, he, ha]
    · simp [hst]
  rw [hpulse] at hact
  refine action_answers (obj := 4) (idx := 0) hq rfl (by decide) rfl rfl hact (hs.withBlocks s.sup ?_ rfl rfl)
  rcases hst with ⟨hst, -⟩ | ⟨hst, -⟩ <;> simp [hst]

/-- CLEAR-HARD-LOCK in HARD_LOCK (R62, R65, log 27). -/
theorem clearHardLock_taken {e : Episode} (hq : isService s q.src.toNat = true) (hd : q.data = [])
    (hst : s.recov.state = .hardLock) (he : s.recov.episode = some e) :
    answerOf .action 5 0 q s = .bare .ok ∧ ∃ t r e', exec (.clearHardLock 0 q) s = .next t ∧ t.recov = r ∧
      LockCleared e s r e' t.sup ∧ t.nv = nvRequested r.safe s ∧ KeepsClock s t ∧ t.relay = s.relay ∧ t.zone = s.zone ∧
      t.vol = s.vol ∧ t.acct = s.acct ∧ KeepsNodes s t ∧ PortsOffered s t := by
  have hact : doAction .clearHardLock q.room q.src 0 q.data s = (clearLock s, .bare .ok) := by
    have hclear : doAction .clearHardLock q.room q.src 0 [] s = actClearLock s := rfl
    rw [hd, hclear, actClearLock, if_pos hst]
  obtain ⟨hanswer, hexec⟩ := action_taken (obj := 5) (idx := 0) hq rfl (by decide) rfl hact
  obtain ⟨r, e', sup, w, hclear, hlock, hsteers⟩ := clearLock_spec he
  refine ⟨hanswer, _, r, e', hexec, ?_⟩
  have hfin := (settleNotices_reports w).finishes.trans
    (answered_finishes q.room q.src 3 5 0 (.bare .ok) (settleNotices w))
  rw [← hclear] at hfin
  dsimp only
  generalize finish (respond q.room q.src 3 5 0 (.bare .ok) (clearLock s)) = t at hfin ⊢
  have h := hsteers.dispatch.trans hfin.dispatch
  refine ⟨hfin.recov.trans hsteers.recov, hfin.sup ▸ hlock, hfin.nv.trans hsteers.nv, h.clock, h.relay,
    hfin.zone.trans hsteers.zone, h.vol, h.acct, h.nodes, h.ports⟩

/-- FORGET-LEVEL (R85, R99, R105, R112). -/
theorem forgetLevel_taken (hq : isService s q.src.toNat = true) (hd : q.data = []) :
    answerOf .action 7 0 q s = .bare .ok ∧ ∃ t, exec (.forgetLevel 0 q) s = .next t ∧
      t.level = { levelForgotten s with burnerStart := t.level.burnerStart } ∧
      t.vol = { s.vol with record := none, chain := [] } ∧ t.acct.tank = .unknown ∧ t.acct.period = none ∧
      t.acct.lastH0 = none ∧ deliveryOpen t = false ∧ KeepsClock s t ∧ KeepsStores s t ∧ KeepsNodes s t ∧
      PortsOffered s t := by
  have hact : doAction .forgetLevel q.room q.src 0 q.data s = (forgetLevel s, .bare .ok) := by rw [hd]; rfl
  obtain ⟨hanswer, hexec⟩ := action_taken (obj := 7) (idx := 0) hq rfl (by decide) rfl hact
  refine ⟨hanswer, _, hexec, ?_⟩
  obtain ⟨l, v, sup, acct, hv, hbroken, hforget⟩ := forgetLevel_spec s
  have hfin := answered_finishes q.room q.src 3 7 0 (.bare .ok) (forgetLevel s)
  dsimp only
  generalize finish (respond q.room q.src 3 7 0 (.bare .ok) (forgetLevel s)) = t at hfin ⊢
  have h := hforget.trans hfin.dispatch.handsOn
  have hd : DispatchFrame (s.setLevel l) v := hv.finishes.dispatch
  refine ⟨h.level, h.vol, by rw [h.acct]; rfl, by rw [h.acct]; exact hbroken.period, by rw [h.acct]; exact hbroken.lastH0,
    hbroken.closed t (by rw [h.acct]; rfl), KeepsClock.trans (b := v) hd.clock h.clock, ?_, ?_, ?_⟩
  · exact KeepsStores.trans (b := v) hd.stores h.stores
  · exact KeepsNodes.trans (b := v) hd.nodes h.nodes
  · exact PortsOffered.trans (b := v) hd.ports h.ports

end

/-- Settles O56: each action is what its owner makes of the state, answered. -/
theorem actionsTakeEffect : Obligations.ActionsTakeEffect := by
  intro q s hs hq
  refine ⟨fun hd hb => ⟨fun hn => ?refused, fun hvalid => swapStrap_taken hq hd hb hvalid⟩,
    fun named hd => clearNotice_taken hs hq hd, fun e h ret hd he hst hh => resetBurner_answers hs hq hd he hst hh,
    fun e hd hst he => ?lock, fun hd => ⟨?holdOn, ?holdOff, fun hb => ?restart, forgetLevel_taken hq hd⟩⟩
  case refused =>
    have hact : doAction .swapStrap q.room q.src 0 q.data s =
        (s, .now .refused [BitVec.ofNat 8 (stagedBank s.vol).n, 0] .plain) := by
      have hswap : doAction .swapStrap q.room q.src 0 [] s = actSwap s := rfl
      rw [hd, hswap, actSwap, strapFault_count hn]
      rfl
    exact (action_taken (obj := 1) (idx := 0) hq rfl (by decide) hb hact).1
  case lock =>
    obtain ⟨hanswer, t, r, e', hexec, rfl, hlock, hnv, hclock, hrelay, hzone, hvol, hacct, hnodes, hports⟩ :=
      clearHardLock_taken hq hd hst he
    refine ⟨hanswer, t, e', hexec, hlock.episode, hlock.number, hlock.cause, hlock.waits, hlock.proves, ?_, ?_, ?_, hclock,
      hrelay, hzone, hvol, hacct, hnodes, hports⟩
    · rw [← forgive_eq]; exact hlock.safe
    · intro hidle hwait
      rw [hnv, nvRequested, hidle, hwait]; rfl
    · intro hbusy
      rw [hnv]
      exact if_neg (by rcases hbusy with h | h <;> simp [h])
  case holdOn =>
    exact action_answers (obj := 6) (idx := 1) (out := (holdTank true s, .bare .ok)) hq rfl (by decide) rfl rfl
      (by rw [hd]; rfl) (hs.withBlocks s.sup .rfl rfl rfl)
  case holdOff =>
    exact action_answers (obj := 6) (idx := 0) (out := (holdTank false s, .bare .ok)) hq rfl (by decide) rfl rfl
      (by rw [hd]; rfl) (hs.withBlocks s.sup .rfl rfl rfl)
  case restart =>
    exact action_answers (obj := 8) (idx := 0) (out := actRestart s) hq rfl (by decide) hb rfl (by rw [hd]; rfl)
      (hs.congr rfl rfl rfl rfl)

end Sys2Proof.Machine
end

section
/-! The oil after a reset, and the stale timer's expiry (R83, R84, R87, R102, R105, R119, R158, R159, R169). -/

namespace Sys2Proof.Machine

/-- What a reset leaves is what it loads, with the supervisor and the stores as the recovery unit asks, but for the NOTICE line
and what it offers. -/
theorem resetPart_reports (img : StoreImage) (s : State) (himg : img = (storeFound s).getD factoryImage) :
    ∃ sup nv, Reports (((loaded (storeFound s) (safetyFound s) s).setSup sup).setNv nv) (resetPart s) := by
  rw [resetPart, settleReset_loaded img _ _ s himg]
  exact ⟨supervisorRestored img (recoveryAfterReset img (safetyFound s)) s.sup.run.raw s.sup.lockout.raw,
    storesRestored (storeFound s) (safetyFound s) (recoveryAfterReset img (safetyFound s)), settleNotices_reports _⟩

/-- Of a loaded poll list no entry has what no single loaded entry has. -/
theorem loadedPoll_any {f : PollEntry → Bool} (h : ∀ c, f (loadPollEntry c) = false) (poll : List (Option PollCfg)) :
    ((poll.map (Option.map loadPollEntry)).any fun o => o.any f) = false := by
  rw [List.any_map, List.any_eq_false]
  intro o _
  cases o <;> simp [h]

/-- A loaded valve record shows no fault (R159). -/
theorem entryFault_loadPollEntry (c : PollCfg) : entryFault (loadPollEntry c) = false := by
  cases hv : c.isValve <;> simp [loadPollEntry, entryFault, hv, newValve]

/-- Settles O5: what a reset loads, kept as the notices settle. -/
theorem resetLoadsThePlantAndTheOil : Obligations.ResetLoadsThePlantAndTheOil := by
  intro c s img hc himg
  refine ⟨_, exec_of_takesReset hc, ?_⟩
  obtain ⟨sup, nv, h⟩ := resetPart_reports img s himg
  obtain ⟨line, timer, hmgmt⟩ := h.mgmt
  have hsched : (resetPart s).sched = schedAfterReset img := by rw [h.sched, himg]; rfl
  have hlevel : (resetPart s).level = levelAfterReset img := by rw [h.level, himg]; rfl
  have hvol : (resetPart s).vol = volumeAfterReset img := by rw [h.vol, himg]; rfl
  have hacct : (resetPart s).acct = accountingAfterReset img := by rw [h.acct, himg]; rfl
  refine ⟨hsched, hlevel, hvol, hacct, ?_, ?_, ?_, ?absent, ?fault, ?events⟩
  · rw [levelStaleCond, hlevel]; rfl
  · rw [reserveCond, hacct]; rfl
  · rw [emptyCond, hacct]; rfl
  case absent =>
    rw [nodeAbsentCond, hsched]
    exact loadedPoll_any (fun _ => rfl) img.poll
  case fault =>
    rw [valveFaultCond, hsched]
    exact loadedPoll_any entryFault_loadPollEntry img.poll
  case events =>
    rw [hmgmt]
    change eventsAfterReset (storeFound s) &&& 0x002F = 0
    unfold eventsAfterReset
    split <;> decide

/-- A level record whose status is STALE or FAULT shows LEVEL_STALE in the pending set (R84). -/
theorem pendingSet_levelStale {s : State} (h : levelStaleCond s = true) : (pendingSet s).getLsbD 9 = true := by
  have hbit : (condBit (levelStaleCond s) .levelStale).getLsbD 9 = true := by rw [h]; rfl
  simp only [pendingSet, conditionSet, BitVec.getLsbD_or, hbit, Bool.or_true, Bool.true_or]

/-- The stale timer's expiry leaves the level STALE or FAULT (R83). -/
theorem staleExpiry_stale (s : State) : levelStaleCond (staleExpiry s) = true := by
  cases hst : s.level.status <;> simp [levelStaleCond, staleExpiry, modLevel, hst]

/-- Settles O25: the expiry changes the level record alone, and the command's end only the notices. -/
theorem silentGaugeGoesStale : Obligations.SilentGaugeGoesStale := by
  intro since s hs hdue
  have hexec : exec .staleTimerExpiry s = .next (finish (staleExpiry s)) := by
    change execStaleTimerExpiry s = _
    exact act_finish (ranOut_of hs hdue)
  have h := finish_finishes (staleExpiry s)
  obtain ⟨line, timer, hmgmt⟩ := h.mgmt
  have hlevel : (finish (staleExpiry s)).level = (staleExpiry s).level := h.level
  have hstale : levelStaleCond (finish (staleExpiry s)) = true := by
    rw [levelStaleCond, hlevel]; exact staleExpiry_stale s
  refine ⟨_, hexec, ?_, pendingSet_levelStale hstale, by rw [hmgmt]; rfl, ⟨h.now, h.pending, h.freeIdx⟩,
    ⟨h.relay, h.zone, h.sup, h.recov⟩, h.vol, h.acct, ⟨h.nv, line, timer, hmgmt⟩, h.keepsNodes,
    ⟨h.portH, h.portY, h.portP⟩⟩
  rw [hlevel]
  cases hst : s.level.status <;> simp [staleExpiry, modLevel, hst]

end Sys2Proof.Machine
end

section
/-! SUPPORT. What a publication does beyond the level record and the volume unit: the tank state, a delivery and a period, with
the hand-overs they cause (`Accounts`) (R63, R103, R104, R107, R110, R111, R116, R118). -/

namespace Sys2Proof.Machine

/-! ### What the oil blocks leave as it is -/

/-- A SAMPLE has been worked by the oil blocks: the clock, the tables, the exchanges and the ports but for offers are as they
were. -/
structure AroundOil (s t : State) : Prop where
  clock : KeepsClock s t
  relaySet : t.relay.set = s.relay.set
  enrol : t.zone.enrol = s.zone.enrol
  table : t.zone.table = s.zone.table
  sched : t.sched = { s.sched with slots := t.sched.slots, wake := t.sched.wake }
  nodes : KeepsNodes s t
  ports : PortsOffered s t

/-- The accounts have been worked: beside what `AroundOil` keeps, the level filter but for BURNER_START, the volume unit, the
tank state and the last H0 are as they were. -/
structure Accounts (s t : State) : Prop where
  around : AroundOil s t
  level : t.level = { s.level with burnerStart := t.level.burnerStart }
  vol : t.vol = s.vol
  tank : t.acct.tank = s.acct.tank
  lastH0 : t.acct.lastH0 = s.acct.lastH0

theorem AroundOil.refl (s : State) : AroundOil s s := ⟨.refl s, rfl, rfl, rfl, rfl, .refl s, .refl s⟩

theorem AroundOil.trans {a b c : State} (h : AroundOil a b) (k : AroundOil b c) : AroundOil a c where
  clock := h.clock.trans k.clock
  relaySet := k.relaySet.trans h.relaySet
  enrol := k.enrol.trans h.enrol
  table := k.table.trans h.table
  sched := k.sched.trans (by rw [h.sched])
  nodes := h.nodes.trans k.nodes
  ports := h.ports.trans k.ports

theorem Accounts.refl (s : State) : Accounts s s := ⟨.refl s, rfl, rfl, rfl, rfl⟩

theorem Accounts.trans {a b c : State} (h : Accounts a b) (k : Accounts b c) : Accounts a c where
  around := h.around.trans k.around
  level := k.level.trans (by rw [h.level])
  vol := k.vol.trans h.vol
  tank := k.tank.trans h.tank
  lastH0 := k.lastH0.trans h.lastH0

/-- A change of the oil blocks alone. -/
theorem setOil_around (s : State) (level : Level) (vol : Volume) (acct : Accounting) :
    AroundOil s { s with level := level, vol := vol, acct := acct } :=
  ⟨.refl s, rfl, rfl, rfl, rfl, .refl s, .refl s⟩

/-- A change of the burner's blocks, the stores and the accounts that keeps the tank state and the last H0. -/
theorem setBurner_accounts (s : State) (sup : Supervisor) (recov : Recovery) (mgmt : Management) (nv : NonVolatile)
    {acct : Accounting} (ht : acct.tank = s.acct.tank) (hl : acct.lastH0 = s.acct.lastH0) :
    Accounts s { s with sup := sup, recov := recov, mgmt := mgmt, nv := nv, acct := acct } :=
  ⟨⟨.refl s, rfl, rfl, rfl, rfl, .refl s, .refl s⟩, rfl, rfl, ht, hl⟩

theorem Reports.accounts {s t : State} (h : Reports s t) : Accounts s t :=
  ⟨⟨⟨h.now, h.pending, h.freeIdx⟩, by rw [h.relay], by rw [h.zone], by rw [h.zone], by rw [h.sched],
    h.finishes.keepsNodes, ⟨h.portH, h.portY, h.portP⟩⟩, by rw [h.level], h.vol, by rw [h.acct], by rw [h.acct]⟩

theorem Steers.accounts {s t : State} (h : Steers s t) : Accounts s t :=
  have hd := h.dispatch
  ⟨⟨hd.clock, by rw [h.relay], by rw [h.zone], by rw [h.zone], h.sched, h.nodes, hd.ports⟩, h.level, h.vol,
    by rw [h.acct], by rw [h.acct]⟩

/-! ### A new tank state (R38, R60, R107) -/

/-- CALL drops: the supervisor's state is the next one, and else it only steers (R36). -/
theorem dropCall_steers (next : SupState) (s : State) :
    Steers (s.setSup { s.sup with state := next }) (dropCall next s) := by
  unfold dropCall
  extract_lets _ s1 _ s2
  have h1 : Steers (s.setSup { s.sup with state := next }) s1 := setSup_steers_same _ (by rfl)
  have h2 : Steers (s.setSup { s.sup with state := next }) s2 := by
    simp only [s2]
    split
    · exact h1.trans (dropPump_steers s1)
    · exact h1.trans (setSup_steers_same s1 (by rfl))
  split
  · exact h2
  · exact (h2.trans (setSup_steers_same _ (by rfl))).trans (startHoldExtension_steers _)

theorem setSup_accounts (s : State) (sup : Supervisor) : Accounts s (s.setSup sup) :=
  setBurner_accounts s sup s.recov s.mgmt s.nv rfl rfl

theorem supTankChanged_accounts (old : TankState) (s : State) : Accounts s (supTankChanged old s) := by
  unfold supTankChanged
  split
  · split
    · exact .refl s
    · split
      · exact (setSup_accounts s _).trans (dropCall_steers .inhibited s).accounts
      · exact setSup_accounts s _
  · split
    · exact (setSup_accounts s _).trans (testSupervisor_steers _).accounts
    · exact .refl s

theorem recTankChanged_accounts (old : TankState) (s : State) : Accounts s (recTankChanged old s) := by
  unfold recTankChanged
  split
  · rw [enterWaitRetry_eq]
    exact setBurner_accounts s s.sup _ s.mgmt s.nv rfl rfl
  · exact .refl s

/-- The zone unit takes over a changed tank state: parts and zones are evaluated, and the tables stay (R9, R12). -/
theorem zoneTankChanged_accounts (s : State) : Accounts s (zoneTankChanged s) := by
  have hzones : Accounts s (evaluated (allZones (rerunParts (fun _ => true) s)) (rerunParts (fun _ => true) s)) :=
    ⟨⟨.refl s, rfl, rfl, rfl, rfl, .refl s, .refl s⟩, rfl, rfl, rfl, rfl⟩
  exact (hzones.trans (settleNotices_reports _).accounts).trans (handOver_steers _ _).accounts

/-- A new tank state, handed on (R107). -/
theorem setTank_accounts (tank : TankState) (s : State) :
    Accounts (s.setAcct { s.acct with tank := tank }) (setTank tank s) := by
  unfold setTank
  split
  · next h =>
    have hsame : s.setAcct { s.acct with tank := tank } = s := by rw [← h]; rfl
    rw [hsame]
    exact .refl s
  · exact ((zoneTankChanged_accounts _).trans (supTankChanged_accounts _ _)).trans (recTankChanged_accounts _ _)

/-- The tank state follows a published volume, and is handed on (R104, R107). -/
theorem evaluateTank_accounts (v15 : Nat) (s : State) :
    Accounts (s.setAcct { s.acct with tank := nextTank s.acct.set s.acct.tank v15 }) (evaluateTank v15 s) :=
  setTank_accounts _ s

/-! ### Deliveries and periods (R63, R110, R111, R116, R118) -/

theorem raiseEvent_accounts (k : Notice) (s : State) : Accounts s (raiseEvent k s) :=
  (setBurner_accounts s s.sup s.recov { s.mgmt with events := s.mgmt.events ||| k.set } s.nv rfl rfl).trans
    (settleNotices_reports _).accounts

theorem setRecov_accounts (s : State) (recov : Recovery) : Accounts s (s.setRecov recov) :=
  setBurner_accounts s s.sup recov s.mgmt s.nv rfl rfl

theorem setAcct_accounts (s : State) {acct : Accounting} (ht : acct.tank = s.acct.tank) (hl : acct.lastH0 = s.acct.lastH0) :
    Accounts s (s.setAcct acct) :=
  setBurner_accounts s s.sup s.recov s.mgmt s.nv ht hl

theorem leaveLocked_accounts (s : State) : Accounts s (leaveLocked s) := by
  obtain ⟨sup, -, h⟩ := leaveLocked_steers s
  exact (setSup_accounts s sup).trans h.accounts

theorem requestSafetyWrite_accounts (s : State) : Accounts s (requestSafetyWrite s) := by
  rw [requestSafetyWrite_eq rfl]
  exact setBurner_accounts s s.sup _ s.mgmt _ rfl rfl

/-- A cleared hard lock, with or without an episode on record (R62). -/
theorem clearLock_accounts (s : State) : Accounts s (clearLock s) := by
  unfold clearLock
  extract_lets number _ _ s1 s2
  have h2 : Accounts s s2 := (setRecov_accounts s _).trans (requestSafetyWrite_accounts s1)
  refine (h2.trans ?_).trans (settleNotices_reports _).accounts
  split
  · exact setRecov_accounts s2 _
  · exact (setRecov_accounts s2 _).trans (leaveLocked_accounts _)

theorem recDelivery_accounts (s : State) : Accounts s (recDelivery s) := by
  unfold recDelivery
  dsimp only
  split
  · exact clearLock_accounts s
  · exact .refl s

theorem openDelivery_accounts (h3 : Stage) (time : Nat) (s : State) : Accounts s (openDelivery h3 time s) := by
  unfold openDelivery
  extract_lets d _ s1 s2 _ s3
  have h1 : Accounts s s1 := setAcct_accounts s rfl rfl
  have hmark : Accounts s2 s3 := setAcct_accounts s2 rfl rfl
  exact ((h1.trans (raiseEvent_accounts .delivery s1)).trans hmark).trans (recDelivery_accounts s3)

/-- Everything the delivery step of a publication can do (R116, R118). -/
theorem testDelivery_accounts (chain : List Stage) (time : Nat) (s : State) : Accounts s (testDelivery chain time s) := by
  unfold testDelivery
  split
  · split
    · exact setAcct_accounts s rfl rfl
    · split
      · dsimp only
        split_ifs
        · exact openDelivery_accounts _ time s
        · exact .refl s
      · exact .refl s
  · exact .refl s

theorem takePartialBurn_accounts (s : State) : Accounts s (takePartialBurn s) := by
  obtain ⟨credit, residue, h⟩ := exists_partialCredit s
  rw [takePartialBurn_eq h]
  exact setBurner_accounts s _ s.recov s.mgmt s.nv rfl rfl

theorem logPeriod_accounts (r : PeriodRecord) (s : State) : Accounts s (logPeriod r s) := by
  unfold logPeriod
  obtain ⟨leak, raised⟩ := leakAfter s.acct.leak r.outcome
  cases raised with
  | false => exact setAcct_accounts s rfl rfl
  | true =>
    exact (setAcct_accounts s (acct := { s.acct with
      period := none, periods := logAppend 4 s.acct.periods r, leak := leak }) rfl rfl).trans
      (raiseEvent_accounts .leakSuspect _)

/-- Everything the period step of a publication can do (R110, R111). -/
theorem testPeriod_accounts (time v15 : Nat) (s : State) : Accounts s (testPeriod time v15 s) := by
  unfold testPeriod
  split
  · exact setAcct_accounts s rfl rfl
  · split
    · extract_lets s1 r s2
      have h2 : Accounts s s2 := (takePartialBurn_accounts s).trans (logPeriod_accounts r s1)
      split
      · exact h2
      · exact h2.trans (setAcct_accounts s2 rfl rfl)
    · exact .refl s

end Sys2Proof.Machine
end

section
/-! SUPPORT. The level filter: the box, the output stage and the publication gate, the spike check, and a SAMPLE as it is read
and screened (R69 to R76, R79, R80, R83, R98, R103). -/

namespace Sys2Proof.Machine

/-! ### The publication gate (R79, R80, R98, R103) -/

/-- The volume record of a published box (R93 to R95, R97). -/
def boxRecord (b : Box) (s : State) : VolRecord := computeRecord s.vol b.depth b.temp s.sec

/-- The history chain after a publication (R100). -/
def boxChain (b : Box) (s : State) : List Stage := ({ v15 := (boxRecord b s).v15, time := s.sec } :: s.vol.chain).take 4

/-- The level record of a published box (R78, R80). -/
def boxLevel (b : Box) (s : State) : Level :=
  { s.level with
    depth := some b.depth, temp := b.temp, time := s.sec, status := .valid
    ctr := { s.level.ctr with published := bump s.level.ctr.published } }

theorem publish_held {b : Box} {s : State} (h : holdStands s.level = true) : publish b s =
    s.setLevel { s.level with ctr := { s.level.ctr with held := bump s.level.ctr.held } } := by
  rw [publish, if_pos h]; rfl

/-- The state in which the accounts take a publication: the level record and the volume unit hold it, and H0 is the last H0
(R80, R98, R103). -/
def boxHandedOn (b : Box) (s : State) : State :=
  { settleNotices (s.setLevel (boxLevel b s)) with
    vol := { s.vol with record := some (boxRecord b s), chain := boxChain b s }
    acct := { s.acct with lastH0 := some { v15 := (boxRecord b s).v15, time := s.sec } } }

/-- A publication: the level record, the notices, the volume unit, and the accounts' steps in their order (R80, R98, R103). -/
theorem publish_free {b : Box} {s : State} (h : holdStands s.level = false) : publish b s =
    testPeriod s.sec (boxRecord b s).v15 (testDelivery (boxChain b s) s.sec
      (evaluateTank (boxRecord b s).v15 (boxHandedOn b s))) := by
  have hr := settleNotices_reports (s.setLevel (boxLevel b s))
  have hvol : (settleNotices (s.setLevel (boxLevel b s))).vol = s.vol := hr.vol
  have hacct : (settleNotices (s.setLevel (boxLevel b s))).acct = s.acct := hr.acct
  have hpub : publish b s = volPublication b s.sec (settleNotices (s.setLevel (boxLevel b s))) := by
    rw [publish, if_neg (by simp [h])]; rfl
  rw [hpub, volPublication, hvol, acctPublication, State.setVol_acct, hacct]
  rfl

theorem Accounts.setOil {s t : State} (h : Accounts s t) (vol : Volume) (acct : Accounting) :
    Accounts { s with vol := vol, acct := acct } { t with vol := vol, acct := acct } :=
  have k := h.around
  ⟨⟨k.clock, k.relaySet, k.enrol, k.table, k.sched, k.nodes, k.ports⟩, h.level, rfl, rfl, rfl⟩

/-- Everything a publication can do (R80, R98, R103, R104). -/
theorem publish_accounts {b : Box} {s : State} (h : holdStands s.level = false) :
    Accounts
      { s with
        level := boxLevel b s
        vol := { s.vol with record := some (boxRecord b s), chain := boxChain b s }
        acct := { s.acct with
          lastH0 := some { v15 := (boxRecord b s).v15, time := s.sec }
          tank := nextTank s.acct.set s.acct.tank (boxRecord b s).v15 } }
      (publish b s) := by
  rw [publish_free h]
  have hsettled := (settleNotices_reports (s.setLevel (boxLevel b s))).accounts.setOil
    { s.vol with record := some (boxRecord b s), chain := boxChain b s }
    { s.acct with
      lastH0 := some { v15 := (boxRecord b s).v15, time := s.sec }
      tank := nextTank s.acct.set s.acct.tank (boxRecord b s).v15 }
  exact ((hsettled.trans (evaluateTank_accounts _ (boxHandedOn b s))).trans (testDelivery_accounts _ _ _)).trans
    (testPeriod_accounts _ _ _)

/-- What a publication leaves in the level record, the volume unit and the accounts, whatever follows it (R80, R98, R103,
R104). -/
theorem publish_leaves {b : Box} {s : State} (h : holdStands s.level = false) :
    ((publish b s).level.depth = some b.depth ∧ (publish b s).level.temp = b.temp ∧ (publish b s).level.time = s.sec ∧
      (publish b s).level.status = .valid) ∧
    (publish b s).level.ctr = { s.level.ctr with published := bump s.level.ctr.published } ∧
    (publish b s).vol.record = some (boxRecord b s) ∧ (publish b s).vol.chain = boxChain b s ∧
    (publish b s).acct.lastH0 = some { v15 := (boxRecord b s).v15, time := s.sec } ∧
    (publish b s).acct.tank = nextTank s.acct.set s.acct.tank (boxRecord b s).v15 := by
  have hp := publish_accounts (b := b) h
  rw [hp.level, hp.vol, hp.lastH0, hp.tank]
  exact ⟨⟨rfl, rfl, rfl, rfl⟩, rfl, rfl, rfl, rfl, rfl⟩

/-- The level filter without its record, BURNER_START and its counters: the settings, the boxes, the runs and the timers. -/
def workingState (l : Level) : Level :=
  { l with depth := none, temp := none, time := 0, status := .none, burnerStart := false, ctr := {} }

/-- A box at the gate, held or published, leaves the filter's working state as it is. -/
theorem publish_around (b : Box) (s : State) :
    AroundOil s (publish b s) ∧ workingState (publish b s).level = workingState s.level := by
  cases h : holdStands s.level with
  | true =>
    rw [publish_held h]
    exact ⟨setOil_around s _ _ _, rfl⟩
  | false =>
    have ha := publish_accounts (b := b) h
    exact ⟨(setOil_around s _ _ _).trans ha.around, by rw [ha.level]; rfl⟩

/-! ### The box and the output stage (R75, R76) -/

/-- What the output stage makes of a completed box: its output, if it has one, and the previous box (R76). -/
def OutputOf (l : Level) (done : Box) (out prev : Option Box) : Prop :=
  (l.set.order = 1 ∧ out = some done ∧ prev = l.prev) ∨
    (l.set.order ≠ 1 ∧ prev = some done ∧ out = l.prev.map fun a => meanBox a done)

/-- The output of the output stage goes to the gate (R76, R80). -/
def released (out : Option Box) (s : State) : State := out.elim s fun o => publish o s

theorem outputStage_eq {done : Box} {out prev : Option Box} {s : State} (h : OutputOf s.level done out prev) :
    outputStage done s = released out (s.setLevel { s.level with prev := prev }) := by
  unfold outputStage
  rcases h with ⟨ho, rfl, rfl⟩ | ⟨ho, rfl, rfl⟩
  · rw [if_pos ho]; rfl
  · rw [if_neg ho]
    cases hp : s.level.prev <;> rfl

theorem exists_outputOf (l : Level) (done : Box) : ∃ out prev, OutputOf l done out prev := by
  by_cases ho : l.set.order = 1
  · exact ⟨_, _, .inl ⟨ho, rfl, rfl⟩⟩
  · exact ⟨_, _, .inr ⟨ho, rfl, rfl⟩⟩

theorem acceptSample_joins {depth : Nat} {temp : Option Int} {s : State} (h : s.level.box.count + 1 < s.level.set.windowN) :
    acceptSample depth temp s = s.setLevel { s.level with spikeRun := 0, box := addSample depth temp s.level.box } :=
  if_neg (Nat.not_le.mpr h)

/-- The level filter as a sample completes the box `done`, before its output goes to the gate (R73, R75, R76). -/
def boxCompleted (done : Box) (prev : Option Box) (s : State) : State :=
  s.setLevel { s.level with spikeRun := 0, box := {}, ref := some done.depth, prev := prev }

theorem acceptSample_completes {depth : Nat} {temp : Option Int} {done : Box} {out prev : Option Box} {s : State}
    (h : s.level.set.windowN ≤ s.level.box.count + 1)
    (hdone : done = completeBox s.level.set.windowN (addSample depth temp s.level.box))
    (hout : OutputOf s.level done out prev) : acceptSample depth temp s = released out (boxCompleted done prev s) := by
  have haccept : acceptSample depth temp s =
      outputStage done (s.setLevel { s.level with spikeRun := 0, box := {}, ref := some done.depth }) := by
    subst hdone; exact if_pos h
  rw [haccept]
  exact outputStage_eq hout

theorem released_around (out : Option Box) (s : State) :
    AroundOil s (released out s) ∧ workingState (released out s).level = workingState s.level := by
  cases out with
  | none => exact ⟨.refl s, rfl⟩
  | some o => exact publish_around o s

theorem acceptSample_around (depth : Nat) (temp : Option Int) (s : State) : AroundOil s (acceptSample depth temp s) := by
  by_cases h : s.level.set.windowN ≤ s.level.box.count + 1
  · set done := completeBox s.level.set.windowN (addSample depth temp s.level.box)
    obtain ⟨out, prev, hout⟩ := exists_outputOf s.level done
    rw [acceptSample_completes h rfl hout]
    exact (setOil_around s _ _ _).trans (released_around out _).1
  · rw [acceptSample_joins (Nat.not_le.mp h)]
    exact setOil_around s _ _ _

/-! ### The spike check (R73, R74) -/

theorem isSpike_iff {l : Level} {depth : Nat} {x : Int} (hx : x = (depth : Int) - l.ref.getD 0) : isSpike l depth = true ↔
    l.set.slew ≠ 0 ∧ l.ref ≠ none ∧ (x < -(l.set.slew : Int) ∨ (l.set.slew : Int) < x) := by
  cases hr : l.ref with
  | none => simp [isSpike, hr]
  | some r =>
    have hfar : l.set.slew < (depth - r) + (r - depth) ↔ x < -(l.set.slew : Int) ∨ (l.set.slew : Int) < x := by
      rw [hr, Option.getD_some] at hx
      omega
    simp [isSpike, hr, hfar]

theorem checkSpike_accepts {depth : Nat} {temp : Option Int} {s : State} (h : isSpike s.level depth = false) :
    checkSpike depth temp s = acceptSample depth temp s := if_neg (by simp [h])

theorem checkSpike_rejects {depth : Nat} {temp : Option Int} {s : State} (h : isSpike s.level depth = true)
    (hrun : s.level.spikeRun < 7) : checkSpike depth temp s = s.setLevel
      { s.level with
        spikeRun := s.level.spikeRun + 1, ctr := { s.level.ctr with spike := bump s.level.ctr.spike } } := by
  rw [checkSpike, if_pos h, if_pos (by omega)]; rfl

theorem checkSpike_restarts {depth : Nat} {temp : Option Int} {s : State} (h : isSpike s.level depth = true)
    (hrun : 7 ≤ s.level.spikeRun) : checkSpike depth temp s = acceptSample depth temp (s.setLevel
      { s.level with
        box := {}, prev := none, ref := none, spikeRun := 0
        ctr := { s.level.ctr with stepRestart := bump s.level.ctr.stepRestart } }) := by
  rw [checkSpike, if_pos h, if_neg (by omega)]; rfl

theorem checkSpike_around (depth : Nat) (temp : Option Int) (s : State) : AroundOil s (checkSpike depth temp s) := by
  unfold checkSpike
  split
  · split
    · exact setOil_around s _ _ _
    · exact (setOil_around s _ s.vol s.acct).trans (acceptSample_around _ _ _)
  · exact acceptSample_around _ _ s

/-! ### The payload of a SAMPLE (R69, R124) -/

/-- A SAMPLE is not read when LEN is neither 3 nor 5, or its quality is no code (R69). -/
theorem readSample_none {p : List Byte}
    (h : p.length ≠ 3 ∧ p.length ≠ 5 ∨ ∃ q rest, p = q :: rest ∧ 3 ≤ q.toNat) : readSample p = none := by
  have hcode {q : Byte} (hq : 3 ≤ q.toNat) : readQuality q = none := by
    have h0 : q ≠ 0 := by rintro rfl; simp at hq
    have h1 : q ≠ 1 := by rintro rfl; simp at hq
    have h2 : q ≠ 2 := by rintro rfl; simp at hq
    rw [readQuality, if_neg h0, if_neg h1, if_neg h2]
  rcases h with ⟨h3, h5⟩ | ⟨q, rest, rfl, hq⟩
  · unfold readSample
    split
    · simp at h3
    · simp at h5
    · rfl
  · unfold readSample
    split <;> simp_all

theorem readSample_eq {raw : Nat} {y : Int} {quality : Byte} {given p : List Byte} {temp : Option Int} (hraw : raw < 65536)
    (hlo : -32768 ≤ y) (hhi : y < 32768) (hg : given = [] ∨ given = beSigned 2 y)
    (hp : p = [quality] ++ beBytes 2 raw ++ given)
    (ht : temp = if given = [] then none else some (min 500 (max (-300) y))) :
    readSample p = (readQuality quality).map fun q => (q, raw, temp) := by
  obtain ⟨y1, y0, hyb⟩ := beSigned_two y
  have hvalue : ofBytes [BitVec.ofNat 8 (raw / 256), BitVec.ofNat 8 raw] = raw := by
    rw [← beBytes_two, ofBytes_beBytes (by simpa using hraw)]
  have hclamp : clampTemp (ofSigned [y1, y0]) = min 500 (max (-300) y) := by
    rw [← hyb, ofSigned_beSigned_two hlo hhi, clampTemp, clampInt_eq (by omega)]
  rw [hp, beBytes_two, ht]
  rcases hg with rfl | rfl
  · simp [readSample, hvalue]
  · simp [readSample, hyb, hvalue, hclamp]

/-! ### A SAMPLE (R69, R70, R83) -/

theorem takeSample_bad {p : List Byte} {s : State} (h : readSample p = none) : takeSample p s =
    s.setLevel { s.level with ctr := { s.level.ctr with badSample := bump s.level.ctr.badSample } } := by
  rw [takeSample, h]; rfl

theorem restartStale_eq {s : State} (h : hasGauge s = true) :
    restartStale s = s.setLevel { s.level with staleFrom := some s.sec } := by
  rw [restartStale, h]; rfl

/-- Up to the fifth SENSOR_FAULT in a row, the run and its counter go up (R70). -/
theorem takeFault_counts {s : State} (h : s.level.faultRun < 5) : takeFault s = s.setLevel
    { s.level with
      faultRun := s.level.faultRun + 1, ctr := { s.level.ctr with sensorFault := bump s.level.ctr.sensorFault } } := by
  have hrun : min (s.level.faultRun + 1) 6 = s.level.faultRun + 1 := by omega
  unfold takeFault
  simp only [modLevel, State.setLevel_level, hrun]
  exact if_neg (by omega)

/-- The level filter at the sixth SENSOR_FAULT in a row (R70, R77, R84). -/
def levelFaulted (s : State) : Level :=
  { s.level with
    faultRun := 6, status := .fault, box := {}, prev := none, ref := none, spikeRun := 0
    ctr := { s.level.ctr with sensorFault := bump s.level.ctr.sensorFault } }

/-- The sixth makes the status FAULT and the tank state UNKNOWN (R70, R84, R105). -/
theorem takeFault_sixth {s : State} (h : 5 ≤ s.level.faultRun) :
    takeFault s = setTank .unknown (settleNotices (s.setLevel (levelFaulted s))) := by
  have hrun : min (s.level.faultRun + 1) 6 = 6 := by omega
  unfold takeFault
  simp only [modLevel, State.setLevel_level, hrun]
  rfl

theorem takeFault_sixth_leaves {s : State} (h : 5 ≤ s.level.faultRun) :
    (takeFault s).level = { levelFaulted s with burnerStart := (takeFault s).level.burnerStart } ∧
    (takeFault s).acct.tank = .unknown := by
  rw [takeFault_sixth h]
  have hr := settleNotices_reports (s.setLevel (levelFaulted s))
  have ha := setTank_accounts .unknown (settleNotices (s.setLevel (levelFaulted s)))
  exact ⟨ha.level.trans (by rw [State.setAcct_level, hr.level]; rfl), ha.tank⟩

theorem takeFault_around (s : State) : AroundOil s (takeFault s) := by
  by_cases h : s.level.faultRun < 5
  · rw [takeFault_counts h]
    exact setOil_around s _ _ _
  · rw [takeFault_sixth (Nat.not_lt.mp h)]
    have hset (u : State) : AroundOil u (setTank .unknown u) :=
      (setOil_around u u.level u.vol _).trans (setTank_accounts .unknown u).around
    exact ((setOil_around s _ s.vol s.acct).trans (settleNotices_reports _).accounts.around).trans (hset _)

/-- The level filter as a SAMPLE of quality GOOD or RANGE goes to the spike check (R69, R70, R83). -/
def levelHeard (quality : Byte) (s : State) : Level :=
  { s.level with
    staleFrom := some s.sec, faultRun := 0
    ctr := { s.level.ctr with range := if quality = 1 then bump s.level.ctr.range else s.level.ctr.range } }

theorem takeSample_fault {p : List Byte} {raw : Nat} {temp : Option Int} {s : State} (hg : hasGauge s = true)
    (h : readSample p = (readQuality 2).map fun q => (q, raw, temp)) :
    takeSample p s = takeFault (s.setLevel { s.level with staleFrom := some s.sec }) := by
  rw [takeSample, h, ← restartStale_eq hg]; rfl

theorem takeSample_screened {p : List Byte} {quality : Byte} {raw : Nat} {temp : Option Int} {s : State}
    (hg : hasGauge s = true) (hq : quality = 0 ∨ quality = 1)
    (h : readSample p = (readQuality quality).map fun q => (q, raw, temp)) :
    takeSample p s = checkSpike (scaleDepth s.level.set raw) temp (s.setLevel (levelHeard quality s)) := by
  rw [takeSample, h, restartStale_eq hg]
  rcases hq with rfl | rfl <;> rfl

/-- Everything a SAMPLE can do outside the oil blocks. -/
theorem takeSample_around (p : List Byte) (s : State) : AroundOil s (takeSample p s) := by
  have hstale : AroundOil s (restartStale s) := setOil_around s _ _ _
  unfold takeSample
  split
  · exact setOil_around s _ _ _
  · dsimp only
    split
    · exact hstale.trans (takeFault_around _)
    · exact (hstale.trans (setOil_around _ _ _ _)).trans (checkSpike_around _ _ _)
    · exact (hstale.trans (setOil_around _ _ _ _)).trans (checkSpike_around _ _ _)

end Sys2Proof.Machine
end

section
/-! SUPPORT. A telegram that port P takes in, a SAMPLE that answers a poll, and what the end of its command leaves of it (R127,
R128, R160 to R165). -/

namespace Sys2Proof.Machine

/-! ### Delivery on P (R127, R128) -/

/-- The state in which port P hands over a telegram: its line ended, RX_GOOD counted. -/
def heardOnP (s : State) : State :=
  (s.modPort .p (quietAfterTelegram s.now)).countPort .p fun c => { c with rxGood := bump c.rxGood }

/-- A telegram sent well and stored on P goes to the poll scheduler (R128, R163). -/
theorem exec_received_p {start : Nat} {t : Telegram} {s : State}
    (hasm : s.portP.asm = some { hasBuffer := true, start := start }) (hsilent : s.portP.phase ≠ .sending)
    (hsent : WellSent t) : exec (.rxTelegramEnd .p (received t)) s = .next (finish (takeFromP t (heardOnP s))) := by
  have hport : s.port .p = s.portP := rfl
  have hcause : (!sendingNow (s.port .p) && ((s.port .p).asm.isSome || lineBusy (s.port .p))) = true := by
    simp [sendingNow, hport, hsilent, hasm]
  have hgood : goodAddresses t = true := by simp [goodAddresses, hsent.src, hsent.dest]
  have hend : telegramEnd .p (received t) s = takeFromP t (heardOnP s) := by
    unfold telegramEnd
    rw [hport, hasm]
    simp only [endAssembly, errorsOf_received hsent, received_data, parseTel_wire hsent.fits, hgood, if_true]
    rfl
  rw [← hend]
  exact act_finish hcause

/-! ### The counters of answers and strays at the end of a command (R161, R169) -/

/-- The scheduler's counters but for the requests sent. -/
def withoutRequests (c : SchedCounters) : SchedCounters := { c with pollSent := 0, setSent := 0 }

theorem countRequest_counts (k : ExKind) (s : State) :
    withoutRequests (countRequest k s).sched.ctr = withoutRequests s.sched.ctr := by
  unfold countRequest; split <;> rfl

theorem beginRequest_counts (k : ExKind) (slot : Nat) (e : PollEntry) (s : State) :
    withoutRequests (beginRequest k slot e s).sched.ctr = withoutRequests s.sched.ctr := by
  have h := (generate_offers .p (requestTel k (BitVec.ofNat 8 e.addr)) .request s).sched
  unfold beginRequest
  dsimp only
  split
  · next s' eq => rw [eq] at h; rw [h]
  · next s' eq =>
    rw [eq] at h
    exact (countRequest_counts k s').trans (by rw [h])

theorem beginRelay_counts (t : Telegram) (r : Room) (s : State) : (beginRelay t r s).sched.ctr = s.sched.ctr := by
  have h := (moveToQueue_offers .p t .request (s.setSched { s.sched with relayList := s.sched.relayList.drop 1 })).sched
  unfold beginRelay
  dsimp only
  split
  · next s' eq => rw [eq] at h; exact (congrArg Scheduler.ctr h :)
  · next s' eq => rw [eq] at h; exact (congrArg Scheduler.ctr h :)

theorem chooseExchange_counts (s : State) :
    withoutRequests (chooseExchange s).sched.ctr = withoutRequests s.sched.ctr := by
  unfold chooseExchange
  split
  · exact beginRequest_counts _ _ _ s
  · split
    · rw [beginRelay_counts]
    · split
      · dsimp only
        split
        · exact beginRequest_counts _ _ _ s
        · exact beginRequest_counts _ _ _ s
      · rfl

/-- The end of a command counts at most a request (R161, R169). -/
theorem finish_counts (s : State) : withoutRequests (finish s).sched.ctr = withoutRequests s.sched.ctr := by
  rw [finish, (settleNotices_reports _).sched]
  unfold arbitrate
  split
  · dsimp only
    split
    · exact chooseExchange_counts _
    · rfl
  · rfl

/-! ### An answer of the gauge (R163) -/

/-- The state in which the level filter takes an answer: the exchange over and counted, its entry marked, the notices settled
(R163, steps 1 and 2). -/
def answerTaken (slot : Nat) (s : State) : State :=
  settleNotices (modEntry slot (markAnswered s.sec)
    (countSched (fun c => { c with answered := bump c.answered }) (endExchange s)))

/-- A SAMPLE of the gauge polled, in its window, is taken, and the level filter gets its payload (R160, R163). -/
theorem takeFromP_sample {slot w : Nat} {tel : Telegram} {exch : Exchange} {e : PollEntry} {s : State} (hdest : tel.dest = 0)
    (hkind : tel.kind = 0x21) (hexch : s.sched.exch = some exch) (hslot : exch.kind.slot? = some slot)
    (hw : exch.window = some w) (hsrc : tel.src = exch.node) (he : slotGet s.sched.slots slot = some e)
    (hrole : e.role = .gauge) :
    takeFromP tel s = redecide slot (returnBuffer (takeSample tel.payload (answerTaken slot s))) := by
  have hgauge : e.isGauge = true := by rw [PollEntry.isGauge, hrole]
  have hexpect : (decide (tel.dest = 0) && decide (tel.kind = expectedKind s slot)) = true := by
    simp [hdest, hkind, expectedKind, he, hgauge, kindSample]
  have hroute : takeAnswer exch slot tel s = redecide slot (returnBuffer (takeSample tel.payload (answerTaken slot s))) := by
    rw [takeAnswer, routeAnswer, if_pos (show tel.kind = kindSample from hkind)]; rfl
  rw [← hroute]
  unfold takeFromP
  obtain ⟨kind, node, start, attempt, window⟩ := exch
  dsimp only at hslot hw hsrc
  simp only [hexch, hw, hsrc, Option.isNone_some, ne_eq, not_true, decide_false, Bool.or_self, Bool.false_eq_true, if_false]
  cases kind with
  | relay room => cases hslot
  | poll i => obtain rfl : i = slot := Option.some.inj hslot; exact if_pos hexpect
  | valve i pos => obtain rfl : i = slot := Option.some.inj hslot; exact if_pos hexpect

/-- The entry of a gauge that has answered (R163, R164). -/
theorem nodeSeen_markAnswered {e : PollEntry} (hrole : e.role = .gauge) (now : Nat) :
    (markAnswered now e).role = .gauge ∧ nodeSeen (markAnswered now e) = (e.addr, e.interval, true, 0, now, none) := by
  unfold markAnswered
  cases e.present <;> simp [PollEntry.modValve, nodeSeen, PollEntry.valve?, hrole]

/-- What the level filter finds as it takes an answer of the gauge in `slot`. -/
structure AnswerTaken (slot : Nat) (e : PollEntry) (s v : State) : Prop where
  clock : KeepsClock s v
  relay : v.relay = s.relay
  zone : v.zone = s.zone
  level : v.level = s.level
  vol : v.vol = s.vol
  acct : v.acct = s.acct
  ports : PortsOffered s v
  idle : v.sched.exch = none
  answered : v.sched.ctr = { s.sched.ctr with answered := bump s.sched.ctr.answered }
  gauge : hasGauge v = true
  entry : (slotGet v.sched.slots slot).map nodeSeen = some (e.addr, e.interval, true, 0, s.sec, none)

theorem answerTaken_spec {slot : Nat} {e : PollEntry} {s : State} (he : slotGet s.sched.slots slot = some e)
    (hrole : e.role = .gauge) : AnswerTaken slot e s (answerTaken slot s) := by
  have h := settleNotices_reports (modEntry slot (markAnswered s.sec)
    (countSched (fun c => { c with answered := bump c.answered }) (endExchange s)))
  obtain ⟨hgauge, hseen⟩ := nodeSeen_markAnswered hrole s.sec
  have hslot : slotGet (answerTaken slot s).sched.slots slot = some (markAnswered s.sec e) := by
    have hm := slotGet_modifySlot s.sched.slots slot (markAnswered s.sec)
    rw [he] at hm
    rw [answerTaken, h.sched]
    exact hm
  refine ⟨⟨h.now, h.pending, h.freeIdx⟩, h.relay, h.zone, h.level, h.vol, h.acct, ⟨h.portH, h.portY, h.portP⟩,
    ?_, ?_, ?_, ?_⟩
  · rw [answerTaken, h.sched]; rfl
  · rw [answerTaken, h.sched]; rfl
  · have hmem : some (markAnswered s.sec e) ∈ (answerTaken slot s).sched.slots :=
      List.mem_of_getElem? (slotGet_eq_some.mp hslot)
    exact List.any_eq_true.mpr ⟨_, hmem, by simp [PollEntry.isGauge, hgauge]⟩
  · rw [hslot, Option.map_some, hseen]

/-- What the end of the command leaves of the state `u` in which the level filter has taken a SAMPLE: the buffer returns, the
due time is decided, an exchange may begin and the notices settle (R161 to R163). -/
structure AnswerEnded (u t : State) : Prop where
  clock : KeepsClock u t
  relay : t.relay = u.relay
  zone : t.zone = u.zone
  level : t.level = u.level
  vol : t.vol = u.vol
  acct : t.acct = u.acct
  nodes : KeepsNodes u t
  ports : PortsOffered u t
  idle : u.sched.exch = none → ExchangeOver u t
  counts : withoutRequests t.sched.ctr = withoutRequests u.sched.ctr

theorem answerEnded_spec (slot : Nat) (u : State) : AnswerEnded u (finish (redecide slot (returnBuffer u))) := by
  set b := returnBuffer u
  have hb : Offers u b := returnBuffer_offers u
  have hr : Steers b (redecide slot b) := redecide_steers slot b
  have hlevel : (redecide slot b).level = b.level := by rw [redecide_frame]; rfl
  have hf := finish_finishes (redecide slot b)
  have hd := (hb.finishes.dispatch.trans hr.dispatch).trans hf.dispatch
  have hexch : (redecide slot b).sched.exch = u.sched.exch := by rw [hr.sched, ← hb.sched]
  have hctr : (redecide slot b).sched.ctr = u.sched.ctr := by rw [hr.sched, ← hb.sched]
  refine ⟨hd.clock, hd.relay, (hf.zone.trans hr.zone).trans hb.zone, (hf.level.trans hlevel).trans hb.level, hd.vol, hd.acct,
    hd.nodes, hd.ports, fun hnone x hx => ?_, by rw [finish_counts, hctr]⟩
  have hbegun := (finish_exch_begun (hexch.trans hnone) hx).1
  have htenths : (redecide slot b).tenths = u.tenths := (hb.finishes.dispatch.trans hr.dispatch).clock.tenths
  rwa [htenths] at hbegun

end Sys2Proof.Machine
end

section
/-! A completed box published or held, and a SAMPLE that answers a poll on P (R69 to R76, R80, R83, R98, R103, R163). -/

namespace Sys2Proof.Machine

/-! ### An accepted sample that completes its box (R73, R75, R76, R80) -/

theorem acceptSample_restarts_box {depth : Nat} {temp : Option Int} {s : State}
    (h : s.level.set.windowN ≤ s.level.box.count + 1) :
    (acceptSample depth temp s).level.ref = some ((s.level.box.depthSum + depth) / s.level.set.windowN) ∧
    (acceptSample depth temp s).level.box = {} ∧ (acceptSample depth temp s).level.spikeRun = 0 ∧
    (acceptSample depth temp s).level.faultRun = s.level.faultRun ∧
    (acceptSample depth temp s).level.staleFrom = s.level.staleFrom := by
  set done := completeBox s.level.set.windowN (addSample depth temp s.level.box)
  obtain ⟨out, prev, hout⟩ := exists_outputOf s.level done
  rw [acceptSample_completes h rfl hout]
  have h := (released_around out (boxCompleted done prev s)).2
  exact ⟨(congrArg Level.ref h :), (congrArg Level.box h :), (congrArg Level.spikeRun h :), (congrArg Level.faultRun h :),
    (congrArg Level.staleFrom h :)⟩

/-- The box that the samples of a filled window make, as R75 gives its depth and temperature. -/
theorem eq_completeBox {done : Box} {depth n : Nat} {temp : Option Int} {b : PartialBox}
    (hd : done.depth = (b.depthSum + depth) / n)
    (ht : done.temp = if b.mark = true ∨ temp = none then none else some ((b.tempSum + temp.getD 0).fdiv n)) :
    done = completeBox n (addSample depth temp b) := by
  obtain ⟨d, t⟩ := done
  subst hd ht
  simp [completeBox, addSample, floorDiv]

/-! ### What the command keeps (R161, R163) -/

/-- A SAMPLE that answers a poll, from its last character to the end of its command. -/
theorem exec_sample {start w slot : Nat} {tel : Telegram} {exch : Exchange} {e : PollEntry} {s : State}
    (hasm : s.portP.asm = some { hasBuffer := true, start := start }) (hsilent : s.portP.phase ≠ .sending)
    (hsent : WellSent tel) (hdest : tel.dest = 0) (hkind : tel.kind = 0x21) (hexch : s.sched.exch = some exch)
    (hslot : exch.kind.slot? = some slot) (hw : exch.window = some w) (hsrc : tel.src = exch.node)
    (he : slotGet s.sched.slots slot = some e) (hrole : e.role = .gauge) :
    ∃ v t, AnswerTaken slot e (heardOnP s) v ∧ AnswerEnded (takeSample tel.payload v) t ∧
      exec (.rxTelegramEnd .p (received tel)) s = .next t := by
  refine ⟨_, _, answerTaken_spec he hrole, answerEnded_spec slot _, ?_⟩
  rw [exec_received_p hasm hsilent hsent,
    takeFromP_sample (s := heardOnP s) hdest hkind hexch hslot hw hsrc he hrole]

/-- What a SAMPLE that answers a poll leaves outside the oil blocks, whatever the level filter makes of it. -/
theorem sample_keeps {slot : Nat} {p : List Byte} {e : PollEntry} {s v t : State} (hv : AnswerTaken slot e (heardOnP s) v)
    (ht : AnswerEnded (takeSample p v) t) :
    (ExchangeOver s t ∧ t.sched.ctr.answered = bump s.sched.ctr.answered ∧ t.sched.ctr.stray = s.sched.ctr.stray) ∧
    (∃ e', slotGet t.sched.slots slot = some e' ∧ nodeSeen e' = (e.addr, e.interval, true, 0, s.sec, none)) ∧
    KeepsClock s t ∧ t.relay.set = s.relay.set ∧ t.zone.enrol = s.zone.enrol ∧ t.zone.table = s.zone.table ∧
    t.portP.asm = none ∧ t.portP.ctr.rxGood = bump s.portP.ctr.rxGood := by
  have hu := takeSample_around p v
  have hclock : KeepsClock s (takeSample p v) := KeepsClock.trans (b := v) hv.clock hu.clock
  have hidle : (takeSample p v).sched.exch = none := by rw [hu.sched]; exact hv.idle
  have hctr : withoutRequests t.sched.ctr =
      withoutRequests { s.sched.ctr with answered := bump s.sched.ctr.answered } := by
    rw [ht.counts, hu.sched, hv.answered]; rfl
  have hentry := (hu.nodes.trans ht.nodes).slot slot
  rw [hv.entry] at hentry
  obtain ⟨e', he', hseen⟩ := Option.map_eq_some_iff.mp hentry
  obtain ⟨its, flushed, full, hport⟩ := ((hv.ports.trans hu.ports).trans ht.ports).port .p
  have hportP : t.portP = _ := hport
  refine ⟨⟨fun x hx => ?_, (congrArg SchedCounters.answered hctr :), (congrArg SchedCounters.stray hctr :)⟩,
    ⟨e', he', hseen⟩, hclock.trans ht.clock, ?_, ?_, ?_, by rw [hportP]; rfl, by rw [hportP]; rfl⟩
  · rw [← hclock.tenths]
    exact ht.idle hidle x hx
  · rw [ht.relay, hu.relaySet, hv.relay]; rfl
  · rw [ht.zone, hu.enrol, hv.zone]; rfl
  · rw [ht.zone, hu.table, hv.zone]; rfl

/-! ### A SAMPLE at the spike check (R70, R73, R83) -/

/-- `w` is `s` as its SAMPLE goes to the spike check with the level filter `fresh`: what the check, the box, the gate and the
accounts look at is as it was. -/
structure AtCheck (fresh : Level) (s w : State) : Prop where
  level : w.level = fresh
  set : w.level.set = s.level.set
  box : w.level.box = s.level.box
  ref : w.level.ref = s.level.ref
  spikeRun : w.level.spikeRun = s.level.spikeRun
  holds : holdStands w.level = holdStands s.level
  vol : w.vol = s.vol
  acct : w.acct = s.acct
  sec : w.sec = s.sec

/-- A SAMPLE of quality GOOD or RANGE is scaled and goes to the spike check (R69 to R71, R73, R83). -/
theorem takeSample_atCheck {slot raw depth : Nat} {quality : Byte} {p : List Byte} {temp : Option Int} {e : PollEntry}
    {fresh : Level} {s v : State} (hv : AnswerTaken slot e (heardOnP s) v) (hq : quality = 0 ∨ quality = 1)
    (hread : readSample p = (readQuality quality).map fun q => (q, raw, temp))
    (hdepth : depth = scaleDepth s.level.set raw) (hfresh : fresh = levelHeard quality s) :
    ∃ w, AtCheck fresh s w ∧ takeSample p v = checkSpike depth temp w := by
  have hlevel : v.level = s.level := hv.level
  have hsec : v.sec = s.sec := hv.clock.sec
  have hheard : levelHeard quality v = fresh := by rw [hfresh, levelHeard, hlevel, hsec]; rfl
  refine ⟨v.setLevel fresh, ⟨rfl, ?_, ?_, ?_, ?_, ?_, hv.vol, hv.acct, hsec⟩, ?_⟩
  · rw [hfresh]; rfl
  · rw [hfresh]; rfl
  · rw [hfresh]; rfl
  · rw [hfresh]; rfl
  · rw [hfresh]; rfl
  · rw [takeSample_screened hv.gauge hq hread, hheard, hlevel, hdepth]

section
variable {fresh : Level} {s w : State}

theorem AtCheck.isSpike_iff (h : AtCheck fresh s w) {depth : Nat} {x : Int} (hx : x = (depth : Int) - s.level.ref.getD 0) :
    isSpike w.level depth = true ↔
      s.level.set.slew ≠ 0 ∧ s.level.ref ≠ none ∧ (x < -(s.level.set.slew : Int) ∨ (s.level.set.slew : Int) < x) := by
  rw [← h.set, ← h.ref]
  exact Machine.isSpike_iff (by rw [h.ref]; exact hx)

/-- The sample within SLEW that fills the box of ORDER 1 is published when no hold cause stands (R75, R76, R80, R98, R103). -/
theorem AtCheck.publishes (h : AtCheck fresh s w) {depth : Nat} {temp : Option Int} {done : Box} {r : VolRecord}
    (hfull : w.level.set.windowN ≤ w.level.box.count + 1) (horder : s.level.set.order = 1)
    (hfree : holdStands s.level = false)
    (hdone : done = completeBox s.level.set.windowN (addSample depth temp s.level.box))
    (hr : r = computeRecord s.vol done.depth done.temp s.sec) :
    (acceptSample depth temp w).level.depth = some done.depth ∧ (acceptSample depth temp w).level.temp = done.temp ∧
    (acceptSample depth temp w).level.time = s.sec ∧ (acceptSample depth temp w).level.status = .valid ∧
    (acceptSample depth temp w).vol.record = some r ∧
    (acceptSample depth temp w).vol.chain = ({ v15 := r.v15, time := s.sec } :: s.vol.chain).take 4 ∧
    (acceptSample depth temp w).acct.lastH0 = some { v15 := r.v15, time := s.sec } ∧
    (acceptSample depth temp w).acct.tank = (evaluateTank r.v15 s).acct.tank := by
  have hpub : acceptSample depth temp w = publish done (boxCompleted done w.level.prev w) :=
    acceptSample_completes hfull (by rw [h.set, h.box]; exact hdone) (.inl ⟨by rw [h.set]; exact horder, rfl, rfl⟩)
  have hrecord : boxRecord done (boxCompleted done w.level.prev w) = r := by rw [hr, ← h.vol, ← h.sec]; rfl
  have hchain : boxChain done (boxCompleted done w.level.prev w) = ({ v15 := r.v15, time := s.sec } :: s.vol.chain).take 4 := by
    rw [boxChain, hrecord, ← h.vol, ← h.sec]; rfl
  have htank : nextTank w.acct.set w.acct.tank r.v15 = (evaluateTank r.v15 s).acct.tank := by
    rw [(evaluateTank_accounts r.v15 s).tank, h.acct]; rfl
  obtain ⟨⟨hdepth, htemp, htime, hstatus⟩, -, hrec, hch, hlast, hta⟩ :=
    publish_leaves (b := done) (s := boxCompleted done w.level.prev w) (by rw [← h.holds] at hfree; exact hfree)
  have hsec : (boxCompleted done w.level.prev w).sec = s.sec := h.sec
  rw [hrecord] at hrec hlast hta
  rw [hsec] at htime hlast
  rw [hpub]
  exact ⟨hdepth, htemp, htime, hstatus, hrec, hch.trans hchain, hlast, hta.trans htank⟩

end

/-! ### The statement -/

/-- Settles O30: the box by `acceptSample_completes` and `publish_free`, the SAMPLE on P by the level filter's cases. -/
theorem completedBoxIsPublished : Obligations.CompletedBoxIsPublished := by
  refine ⟨fun depth temp b done out prev s t ht hb hdone hstage => ?accepted,
    fun start w slot raw depth measured x y quality given temp tel exch e fresh s hasm hsilent hsent hdest hkind hexch hslot hw
      hsrc he hrole => ?heard⟩
  case accepted =>
    have hb : b = addSample depth temp s.level.box := hb
    have hcount : b.count = s.level.box.count + 1 := by rw [hb]; rfl
    have hdone : done = completeBox s.level.set.windowN (addSample depth temp s.level.box) := by rw [← hb]; exact hdone
    rw [hcount]
    refine ⟨fun hopen => by rw [ht, hb]; exact acceptSample_joins hopen, fun hfull => ?_⟩
    have ht : t = released out (boxCompleted done prev s) := ht.trans (acceptSample_completes hfull hdone hstage)
    have hwork := (released_around out (boxCompleted done prev s)).2
    rw [← ht] at hwork
    refine ⟨(congrArg Level.ref hwork :), (congrArg Level.box hwork :), (congrArg Level.spikeRun hwork :),
      (congrArg Level.prev hwork :), ?none, ?held, ?published⟩
    case none => rintro rfl; exact ht
    case held =>
      rintro o rfl hhold
      exact ht.trans (publish_held (s := boxCompleted done prev s) hhold)
    case published =>
      rintro o rfl hfree
      have ht : t = publish o (boxCompleted done prev s) := ht
      obtain ⟨⟨hdepth, htemp, htime, hstatus⟩, hctr, hrecord, hchain, -, -⟩ :=
        publish_leaves (b := o) (s := boxCompleted done prev s) hfree
      rw [← ht] at hdepth htemp htime hstatus hctr hrecord hchain
      refine ⟨hdepth, htemp, htime, hstatus, hctr, hrecord, hchain, fun r chain level u hr hchain hl hu => ?_⟩
      subst hr hchain hl hu
      exact ht.trans (publish_free hfree)
  case heard =>
    obtain ⟨v, t, hv, ht, hexec⟩ := exec_sample hasm hsilent hsent hdest hkind hexch hslot hw hsrc he hrole
    obtain ⟨⟨hover, hanswered, hstray⟩, ⟨e', he', hseen⟩, hkept⟩ := sample_keeps hv ht
    have hlevel : v.level = s.level := hv.level
    have hsec : v.sec = s.sec := hv.clock.sec
    refine ⟨t, e', hexec, hover, hanswered, hstray, he', hseen, fun hbad => ?bad,
      fun hraw hlo hhi hg hp htemp hm hd hx hfresh => ?read, hkept⟩
    case bad =>
      rw [ht.level, takeSample_bad (readSample_none hbad), hlevel]
      rfl
    case read =>
      have hread := readSample_eq hraw hlo hhi hg hp htemp
      refine ⟨fun hq hrun => ?counts, fun hq hrun => ?sixth, fun hq => ?screened⟩
      case counts =>
        subst hq
        rw [ht.level, takeSample_fault hv.gauge hread, takeFault_counts (by rw [State.setLevel_level, hlevel]; exact hrun),
          hlevel, hsec]
        rfl
      case sixth =>
        subst hq
        obtain ⟨hl, htank⟩ := takeFault_sixth_leaves (s := v.setLevel { v.level with staleFrom := some v.sec })
          (by rw [State.setLevel_level, hlevel]; exact hrun)
        rw [← takeSample_fault hv.gauge hread, ← ht.level, levelFaulted, State.setLevel_level, hlevel, hsec] at hl
        rw [← takeSample_fault hv.gauge hread, ← ht.acct] at htank
        exact ⟨hl, htank⟩
      case screened =>
        have hdepth : depth = scaleDepth s.level.set raw := by
          rw [hd, hm, scaleDepth]
          cases s.level.set.sense <;> rfl
        obtain ⟨c, hc, htake⟩ := takeSample_atCheck hv hq hread hdepth hfresh
        rw [ht.level, ht.vol, ht.acct, htake]
        refine ⟨fun hnear => ?near, fun hslew hsome hfar => ?far⟩
        case near =>
          have hno : isSpike c.level depth = false := by
            rw [Bool.eq_false_iff, ne_eq, hc.isSpike_iff hx]
            rintro ⟨hslew, hsome, hfar⟩
            rcases hnear with h | h | ⟨hlow, hhigh⟩
            · exact hslew h
            · exact hsome h
            · omega
          rw [checkSpike_accepts hno, ← hc.set, ← hc.box]
          refine ⟨fun hopen => ?joins, fun hfull => ?completes⟩
          case joins =>
            rw [acceptSample_joins hopen, State.setLevel_level, ← hc.level]
            rfl
          case completes =>
            obtain ⟨href, hbox, hrun, hfault, hstale⟩ := acceptSample_restarts_box (depth := depth) (temp := temp) hfull
            rw [hc.level] at hstale
            refine ⟨href, hbox, hrun, hfault.trans (by rw [hc.level, hfresh]), hstale,
              fun done r horder hfree hdd hdt hr => ?_⟩
            have hdone := eq_completeBox hdd hdt
            rw [hc.set, hc.box] at hdone
            exact hc.publishes hfull (by rw [← hc.set]; exact horder) hfree hdone hr
        case far =>
          have hyes : isSpike c.level depth = true := (hc.isSpike_iff hx).mpr ⟨hslew, hsome, hfar⟩
          rw [← hc.spikeRun, ← hc.set, ← hc.level]
          refine ⟨fun hfew => by rw [checkSpike_rejects hyes hfew]; rfl, fun hmany hlong => ?restart⟩
          rw [checkSpike_restarts hyes hmany, acceptSample_joins (by simpa using hlong)]
          simp [addSample]

end Sys2Proof.Machine
end

section
/-! The gross volume by the table of strapping points, and its correction to 15.0 °C (R93, R94, R96). -/

namespace Sys2Proof.Machine

/-! ### The table of R93 on points whose depths rise -/

section

variable {d : Nat} {lo : Point} {rest : List Point} (hrise : (lo :: rest).Pairwise fun a b => a.depth < b.depth)
include hrise

theorem head_depth_le {p : Point} (hp : p ∈ lo :: rest) : lo.depth ≤ p.depth := by
  rcases List.mem_cons.mp hp with rfl | hmem
  · exact Nat.le_refl _
  · exact Nat.le_of_lt (List.rel_of_pairwise_cons hrise hmem)

theorem grossVolume_eq_grossAbove (hd : lo.depth ≤ d) : grossVolume (lo :: rest) d = grossAbove d lo rest := by
  rw [grossVolume]
  split
  next hle =>
    obtain rfl : d = lo.depth := Nat.le_antisymm hle hd
    cases rest with
    | nil => simp [grossAbove]
    | cons hi rest =>
      have hhi : lo.depth < hi.depth := List.rel_of_pairwise_cons hrise List.mem_cons_self
      simp [grossAbove, hhi, between]
  next => rfl

/-- Row 2 of R93. -/
theorem grossAbove_at_last {last : Point} (hlast : (lo :: rest).getLast? = some last) (hd : last.depth ≤ d) :
    grossAbove d lo rest = (last.vol, if last.depth < d then .above else .none) := by
  induction rest generalizing lo with
  | nil =>
    obtain rfl : lo = last := by simpa using hlast
    rfl
  | cons hi rest ih =>
    rw [List.getLast?_cons_cons] at hlast
    have htail := hrise.of_cons
    have hpast : ¬ d < hi.depth := Nat.not_lt.mpr ((head_depth_le htail (List.mem_of_getLast? hlast)).trans hd)
    rw [grossAbove, if_neg hpast]
    exact ih htail hlast

/-- Row 3 of R93: the scan passes the points before the segment's. -/
theorem grossAbove_in_segment {i : Nat} {a b : Point} (ha : (lo :: rest)[i]? = some a) (hb : rest[i]? = some b)
    (had : a.depth ≤ d) (hdb : d < b.depth) : grossAbove d lo rest = (between a b d, .none) := by
  induction rest generalizing lo i with
  | nil => simp at hb
  | cons hi rest ih =>
    cases i with
    | zero =>
      obtain rfl : lo = a := by simpa using ha
      obtain rfl : hi = b := by simpa using hb
      rw [grossAbove, if_pos hdb]
    | succ i =>
      rw [List.getElem?_cons_succ] at ha hb
      have htail := hrise.of_cons
      have hpast : ¬ d < hi.depth := Nat.not_lt.mpr ((head_depth_le htail (List.mem_of_getElem? ha)).trans had)
      rw [grossAbove, if_neg hpast]
      exact ih htail ha hb

end

/-! ### The correction of R94 -/

theorem clampTemp_bounds (x : Int) : -300 ≤ clampTemp x ∧ clampTemp x ≤ 500 := by
  rw [clampTemp, clampInt_eq (by omega)]
  omega

/-- R94's bounds on f: the term lies between −90,000 and +70,000. -/
theorem correction_bounds {coef : Nat} (hcoef : coef ≤ 2000) (temp : Option Int) :
    930000 ≤ correction coef temp ∧ correction coef temp ≤ 1090000 := by
  obtain ⟨hlo, hhi⟩ := clampTemp_bounds (temp.getD 150)
  rw [correction]
  generalize clampTemp (temp.getD 150) = t at hlo hhi
  have hcold : (-900000 : Int) ≤ coef * (t - 150) := by nlinarith
  have hwarm : (coef : Int) * (t - 150) ≤ 700000 := by nlinarith
  have hmin : -90000 ≤ Int.tdiv (coef * (t - 150)) 10 := Int.tdiv_le_tdiv (by decide) hcold
  have hmax : Int.tdiv (coef * (t - 150)) 10 ≤ 70000 := Int.tdiv_le_tdiv (by decide) hwarm
  omega

theorem volume15_eq_div {coef f : Nat} {temp : Option Int} (hf : correction coef temp = f) (v : Nat) :
    volume15 coef v temp = v * f / 1000000 := by
  rw [volume15, hf, Int.fdiv_eq_ediv_of_nonneg _ (by decide)]
  norm_cast

/-! ### The statement -/

/-- Settles O26: R93's rows by the scan of the points, R94 by the bounds of its factor. -/
theorem volumeFollowsTableAndTemperature : Obligations.VolumeFollowsTableAndTemperature := by
  refine ⟨fun first last ps d hfirst hlast _ hord => ?table, fun coef v temp t term hcoef ht hterm => ?corrected⟩
  case table =>
    obtain ⟨rest, rfl⟩ := List.head?_eq_some_iff.mp hfirst
    have hrise := hord.imp And.left
    refine ⟨fun hd => by rw [grossVolume, if_pos hd], fun hd => ?last, fun i a b ha hb had hdb => ?segment⟩
    case last =>
      have hfd : first.depth ≤ d := (head_depth_le hrise (List.mem_of_getLast? hlast)).trans hd
      rw [grossVolume_eq_grossAbove hrise hfd, grossAbove_at_last hrise hlast hd]
    case segment =>
      have hfd : first.depth ≤ d := (head_depth_le hrise (List.mem_of_getElem? ha)).trans had
      rw [grossVolume_eq_grossAbove hrise hfd, grossAbove_in_segment hrise ha hb had hdb, between]
  case corrected =>
    have hclamped : t = clampTemp (temp.getD 150) := by cases temp <;> exact ht
    have hfactor : correction coef temp = 1000000 - term := by rw [correction, ← hclamped, ← hterm]
    obtain ⟨hmin, hmax⟩ := correction_bounds hcoef temp
    obtain ⟨f, hf⟩ := Int.eq_ofNat_of_zero_le (a := correction coef temp) (by omega)
    rw [← hfactor, volume15_eq_div hf, hf]
    exact ⟨by norm_cast, Nat.div_le_div_right (Nat.mul_le_mul_left v (by omega)),
      Nat.div_le_div_right (Nat.mul_le_mul_left v (by omega))⟩

end Sys2Proof.Machine
end

section
/-! The tank state after a publication, and what a change of it makes of the zones, the supervisor and the recovery unit (R9,
R38, R60, R104, R107). -/

namespace Sys2Proof.Machine

/-! ### What the units make of a change (R9, R38, R60) -/

/-- With the tank EMPTY no zone wants heat (R14). -/
theorem evaluated_wanting_of_empty {s : State} (h : s.acct.tank = .empty) :
    (evaluated (allZones s) s).zone.wanting = [] := by
  refine List.eq_nil_iff_forall_not_mem.mpr fun z hz => ?_
  have hmem : z ∈ allZones s := List.mem_of_mem_filter hz
  obtain ⟨hlt, hwants⟩ := (mem_evaluated_wanting hmem).mp hz
  exact ((wantsHeat_iff (List.getElem?_eq_getElem hlt) _).mp hwants).1 h

/-- Everything a change of the tank state can do at the supervisor: EMPTY holds it in LOCKED or INHIBITED, the end of EMPTY takes
it out of INHIBITED, and else it only steers (R38). -/
theorem supTankChanged_steers (old : TankState) (s : State) :
    ∃ st, Steers (s.setSup { s.sup with state := st }) (supTankChanged old s) ∧
      (s.acct.tank = .empty → st = .locked ∨ st = .inhibited) ∧
      (old = .empty → s.acct.tank ≠ .empty → st ≠ .inhibited) := by
  unfold supTankChanged
  by_cases ht : s.acct.tank = .empty
  · rw [if_pos ht]
    by_cases hl : s.sup.state = .locked
    · rw [if_pos hl]
      exact ⟨s.sup.state, .refl s, fun _ => .inl hl, fun _ h => absurd ht h⟩
    · rw [if_neg hl]
      refine ⟨.inhibited, ?_, fun _ => .inr rfl, fun _ h => absurd ht h⟩
      split
      · exact dropCall_steers .inhibited s
      · exact .refl _
  · rw [if_neg ht]
    by_cases hi : old = .empty ∧ s.sup.state = .inhibited
    · refine ⟨.idle, ?_, fun h => absurd h ht, nofun⟩
      rw [if_pos (by simpa using hi)]
      exact testSupervisor_steers _
    · rw [if_neg (by simpa using hi)]
      exact ⟨s.sup.state, .refl s, fun h => absurd h ht, fun ho _ h => hi ⟨ho, h⟩⟩

/-- At the recovery unit the end of EMPTY ends FUEL_WAIT, and no other change does anything (R60). -/
theorem recTankChanged_eq (old : TankState) (s : State) :
    recTankChanged old s =
      if old = .empty ∧ s.acct.tank ≠ .empty ∧ s.recov.state = .fuelWait then enterWaitRetry s else s := by
  simp [recTankChanged, and_assoc]

theorem recTankChanged_frame (old : TankState) (s : State) :
    recTankChanged old s = s.setRecov (recTankChanged old s).recov := by
  rw [recTankChanged_eq]
  split <;> rfl

/-! ### The tank state handed on (R107) -/

/-- The state whose zones a change of the tank state evaluates: its parts have been evaluated again (R9). -/
def tankReran (tank : TankState) (s : State) : State := rerunParts (fun _ => true) (s.setAcct { s.acct with tank := tank })

section
variable {tank : TankState} {s : State}

theorem setTank_same (h : s.acct.tank = tank) : setTank tank s = s := if_pos h

theorem setTank_tank (tank : TankState) (s : State) : (setTank tank s).acct.tank = tank :=
  (congrArg Accounting.tank (setTank_handsOn tank s).acct :)

/-- A change of the tank state has been handed to the zone unit, the supervisor and the recovery unit. -/
structure TankHanded (tank : TankState) (s t : State) : Prop where
  zone : t.zone = (evaluated (allZones s) (tankReran tank s)).zone
  relay : t.relay = (tankReran tank s).relay
  emptied : tank = .empty → t.sup.state = .locked ∨ t.sup.state = .inhibited
  refilled : s.acct.tank = .empty → tank ≠ .empty → t.sup.state ≠ .inhibited
  retries : s.acct.tank = .empty → tank ≠ .empty → s.recov.state = .fuelWait → t.recov.state = .waitRetry
  recov : s.recov.state ≠ .fuelWait → t.recov = s.recov

/-- The zone unit takes a change first (`u`), then the supervisor (`v`), then the recovery unit (R107). -/
theorem setTank_handed (h : s.acct.tank ≠ tank) : TankHanded tank s (setTank tank s) := by
  obtain ⟨u, hu⟩ : ∃ u, u = evaluateZones (allZones s) (tankReran tank s) := ⟨_, rfl⟩
  have hzones : DispatchFrame (tankReran tank s) u := hu ▸ evaluateZones_dispatch _ _
  have htank : u.acct.tank = tank := by rw [hzones.acct]; rfl
  obtain ⟨st, hv, hempty, hleave⟩ := supTankChanged_steers s.acct.tank u
  have hset : setTank tank s = recTankChanged s.acct.tank (supTankChanged s.acct.tank u) := by
    rw [hu]; exact if_neg h
  generalize supTankChanged s.acct.tank u = v at hset hv
  have hvrecov : v.recov = s.recov := hv.recov.trans hzones.recov
  have hvtank : v.acct.tank = tank := by rw [hv.acct]; exact htank
  have hframe := hset.trans (recTankChanged_frame s.acct.tank v)
  have hrecov : (setTank tank s).recov = (recTankChanged s.acct.tank v).recov := congrArg State.recov hset
  have hsup : (setTank tank s).sup = v.sup := by rw [hframe]; rfl
  rw [recTankChanged_eq, hvrecov, hvtank] at hrecov
  refine ⟨?_, ?_, fun he => ?_, fun ho hn hi => ?_, fun ho hn hf => ?_, fun hf => ?_⟩
  · rw [hframe]
    exact hv.zone.trans (by rw [hu]; exact evaluateZones_zone _ _)
  · rw [hframe]
    exact hv.relay.trans hzones.relay
  · rw [hsup, hv.locked, hv.inhibited]
    exact hempty (htank.trans he)
  · rw [hsup, hv.inhibited] at hi
    exact hleave ho (by rwa [htank]) hi
  · rw [hrecov, if_pos ⟨ho, hn, hf⟩]
    rfl
  · rw [hrecov, if_neg fun hall => hf hall.2.2]
    exact hvrecov

end

/-! ### The statement -/

/-- Settles O27: the thresholds by `nextTank`, what a change hands on by `setTank_handed`, and the rest by `setTank_handsOn`. -/
theorem tankStateMovesWithHysteresis : Obligations.TankStateMovesWithHysteresis := by
  rintro v15 s t rfl
  obtain ⟨tank, htank⟩ : ∃ tank, tank = nextTank s.acct.set s.acct.tank v15 := ⟨_, rfl⟩
  have hset : evaluateTank v15 s = setTank tank s := by rw [htank]; rfl
  have hnow : (setTank tank s).acct.tank = tank := setTank_tank tank s
  have hframe := setTank_handsOn tank s
  rw [hset, hnow]
  refine ⟨fun hold => ?_, fun hold => ?_, fun hold => ?_, fun hold hnew => ?emptied, fun hold hnew => ?refilled, fun hsame => ?_,
    fun hdiff => ?changed, hframe.acct, hframe.vol, hframe.clock, hframe.stores, hframe.nodes⟩
  · rcases hold with hold | hold <;> rw [htank, hold] <;> rfl
  · rw [htank, hold]; rfl
  · rw [htank, hold]; rfl
  case emptied =>
    have hh := setTank_handed (hnew ▸ hold : s.acct.tank ≠ tank)
    have hstate := hh.emptied hnew
    refine ⟨hstate, by rcases hstate with h | h <;> simp [callAsserted, h], ?_⟩
    rw [hh.zone]
    exact evaluated_wanting_of_empty (s := tankReran tank s) hnew
  case refilled =>
    have hh := setTank_handed (tank := tank) fun h => hnew (h ▸ hold)
    exact ⟨fun _ => hh.refilled hold hnew, hh.retries hold hnew, hh.recov⟩
  · exact setTank_same hsame.symm
  case changed =>
    have hh := setTank_handed (tank := tank) fun h => hdiff h.symm
    refine ⟨?_, fun z hz hl => state_of_evaluated hh.zone hh.relay (List.mem_range.mpr hz) hl⟩
    exact partsRerun_of (s' := s.setAcct { s.acct with tank := tank }) (which := fun _ => true) (fun _ => by simp) rfl rfl
      (by rw [hh.relay]; rfl) (by rw [hh.zone]; rfl) (by rw [hh.zone]; rfl) hnow

end Sys2Proof.Machine
end

section
/-! Delivery records: the timeout, the settling test, and a rise that opens one, with the hard lock it may clear (R62, R63, R116
to R118). -/

namespace Sys2Proof.Machine

/-! ### The open record (R118) -/

theorem deliveryOpen_of_last {s : State} {older : List DeliveryRecord} {d : DeliveryRecord}
    (hd : s.acct.deliveries = older ++ [d]) (hr : d.reason = none) : deliveryOpen s = true := by
  simp [deliveryOpen, hd, hr]

theorem modDelivery_last {s : State} {older : List DeliveryRecord} {d : DeliveryRecord}
    (hd : s.acct.deliveries = older ++ [d]) (f : DeliveryRecord → DeliveryRecord) :
    modDelivery f s = s.setAcct { s.acct with deliveries := older ++ [f d] } := by
  have hlast : (older ++ [d]).length - 1 = older.length := by simp
  rw [modDelivery, hd, hlast, List.modify_eq_take_drop]
  simp

/-- The settling test with both stages at hand (R118). -/
theorem settleDelivery_eq (h0 h1 : Stage) {d : DeliveryRecord} {settle : Nat}
    (hs : settle = if (h0.v15 : Int) - h1.v15 < 50 then d.settle + 1 else 0) :
    settleDelivery h0 (some h1) d =
      if settle < 2 then { d with settle := settle } else closeDelivery .settled (some h0) { d with settle := settle } := by
  have hcount : settle = if decide ((h0.v15 : Int) - h1.v15 < delivSettle) then d.settle + 1 else 0 := by
    rw [hs]
    simp only [decide_eq_true_eq]
    rfl
  have htest : settleDelivery h0 (some h1) d =
      if 2 ≤ settle then closeDelivery .settled (some h0) { d with settle := settle } else { d with settle := settle } := by
    rw [hcount]; rfl
  rw [htest, ← ite_not]
  simp only [Nat.not_le]

/-- Settles O24: the record closes as `endDelivery` says, and the end of the command finds nothing to do. -/
theorem deliveryTimeoutClosesTheRecord : Obligations.DeliveryTimeoutClosesTheRecord := by
  intro older d h0 s hs hd hr hdue hlast
  have hcause : deliveryDue s = true := by simp [deliveryDue, hd, hr, deliveryTimeoutTime, hdue]
  have hexec : exec .deliveryTimeout s = .next (finish (endDelivery .timeout s)) := by
    change execDeliveryTimeout s = _
    exact act_finish hcause
  have hsettled : Settled (endDelivery .timeout s) := by
    rw [endDelivery_frame]
    exact hs.withBlocks s.sup .rfl rfl rfl
  rw [hexec, finish_of_settled hsettled, endDelivery_frame, endDelivery_open .timeout hd hr, hlast]
  rfl

/-! ### What a cleared hard lock leaves as it is (R62) -/

/-- A hard lock may have been cleared: the supervisor, the recovery unit but for its lockout log, the stores' writing, BURNER_START,
valve commands, the NOTICE line and offers may have followed. -/
structure LockLeaves (s t : State) : Prop where
  clock : KeepsClock s t
  relay : t.relay = s.relay
  zone : t.zone = s.zone
  vol : t.vol = s.vol
  acct : t.acct = s.acct
  log : t.recov.log = s.recov.log
  events : t.mgmt.events = s.mgmt.events
  nodes : KeepsNodes s t
  ports : PortsOffered s t

theorem LockLeaves.refl (s : State) : LockLeaves s s := ⟨.refl s, rfl, rfl, rfl, rfl, rfl, rfl, .refl s, .refl s⟩

theorem LockLeaves.trans {a b c : State} (h : LockLeaves a b) (k : LockLeaves b c) : LockLeaves a c where
  clock := h.clock.trans k.clock
  relay := k.relay.trans h.relay
  zone := k.zone.trans h.zone
  vol := k.vol.trans h.vol
  acct := k.acct.trans h.acct
  log := k.log.trans h.log
  events := k.events.trans h.events
  nodes := h.nodes.trans k.nodes
  ports := h.ports.trans k.ports

theorem Steers.lockLeaves {s t : State} (h : Steers s t) : LockLeaves s t :=
  have hd := h.dispatch
  ⟨hd.clock, h.relay, h.zone, h.vol, h.acct, by rw [h.recov], by rw [h.mgmt], h.nodes, hd.ports⟩

theorem Reports.lockLeaves {s t : State} (h : Reports s t) : LockLeaves s t :=
  have hd := h.finishes.dispatch
  ⟨hd.clock, h.relay, h.zone, h.vol, h.acct, by rw [h.recov], by obtain ⟨_, _, hm⟩ := h.mgmt; rw [hm], hd.nodes, hd.ports⟩

theorem setBurner_lockLeaves (s : State) (sup : Supervisor) (nv : NonVolatile) {recov : Recovery}
    (h : recov.log = s.recov.log) : LockLeaves s { s with sup := sup, recov := recov, nv := nv } :=
  ⟨.refl s, rfl, rfl, rfl, rfl, h, rfl, .refl s, .refl s⟩

theorem leaveLocked_leaves (s : State) : LockLeaves s (leaveLocked s) := by
  obtain ⟨sup, -, h⟩ := leaveLocked_steers s
  exact (setBurner_lockLeaves s sup s.nv rfl).trans h.lockLeaves

theorem modEpisode_leaves (f : Episode → Episode) (s : State) : LockLeaves s (modEpisode f s) :=
  setBurner_lockLeaves s s.sup s.nv rfl

theorem enterProving_leaves (s : State) : LockLeaves s (enterProving s) := by
  unfold enterProving
  extract_lets _ s1
  have h1 : LockLeaves s s1 := setBurner_lockLeaves s s.sup s.nv rfl
  exact (h1.trans (modEpisode_leaves _ s1)).trans (leaveLocked_leaves _)

/-- Clearing the hard lock, with or without an episode on record (R62, R65). -/
theorem clearLock_leaves (s : State) : LockLeaves s (clearLock s) := by
  unfold clearLock
  extract_lets number _ _ s1 s2
  have h1 : LockLeaves s s1 := setBurner_lockLeaves s s.sup s.nv rfl
  have h2 : LockLeaves s1 s2 := by
    simp only [s2]
    rw [requestSafetyWrite_eq rfl]
    exact setBurner_lockLeaves s1 s1.sup _ rfl
  refine ((h1.trans h2).trans ?_).trans (settleNotices_reports _).lockLeaves
  split
  · exact setBurner_lockLeaves s2 s2.sup s2.nv rfl
  · exact enterProving_leaves s2

/-! ### What an opened record hands to the recovery unit (R63) -/

/-- A lockout record of the open episode shows RESERVE or EMPTY (R63). -/
def LowAtLockout (s : State) : Prop :=
  ∃ r ∈ s.recov.log, r.episode = (s.recov.episode.map (·.number)).getD 0 ∧ (r.tank = .reserve ∨ r.tank = .empty)

theorem recDelivery_eq_clearLock {s : State} (hst : s.recov.state = .hardLock) (hlow : LowAtLockout s) :
    recDelivery s = clearLock s := by
  obtain ⟨r, hr, hnumber, htank⟩ := hlow
  refine if_pos ?_
  simp only [hst, Bool.and_eq_true, List.any_eq_true, Bool.or_eq_true, decide_eq_true_eq, true_and]
  exact ⟨r, hr, hnumber, htank⟩

theorem recDelivery_eq_self {s : State} (h : s.recov.state ≠ .hardLock ∨ ¬ LowAtLockout s) : recDelivery s = s := by
  refine if_neg fun hboth => ?_
  simp only [Bool.and_eq_true, List.any_eq_true, Bool.or_eq_true, decide_eq_true_eq] at hboth
  obtain ⟨hst, r, hr, hnumber, htank⟩ := hboth
  rcases h with h | h
  · exact h hst
  · exact h ⟨r, hr, hnumber, htank⟩

theorem recDelivery_leaves (s : State) : LockLeaves s (recDelivery s) := by
  by_cases h : s.recov.state = .hardLock ∧ LowAtLockout s
  · rw [recDelivery_eq_clearLock h.1 h.2]
    exact clearLock_leaves s
  · rw [recDelivery_eq_self (not_and_or.mp h)]
    exact .refl s

/-! ### A rise that opens a record (R116, R117) -/

theorem Reports.setAcct {s t : State} (h : Reports s t) (acct : Accounting) : Reports (s.setAcct acct) (t.setAcct acct) :=
  { h with acct := rfl }

/-- The accounts once a delivery has opened at a stage: the record is logged, and the open period marked (R116, R117). -/
def deliveryLogged (h3 : Stage) (time : Nat) (s : State) : Accounting :=
  { s.acct with
    deliveries := logAppend 8 s.acct.deliveries
      { start := h3.time, startV15 := h3.v15, openTime := time, settle := 0, stop := none, endV15 := none
        delivered := none, reason := none }
    period := s.acct.period.map fun p => { p with delivery := true } }

/-- A record that opens is logged and raises DELIVERY, and then comes to the recovery unit (R63, R116). -/
theorem openDelivery_spec (h3 : Stage) (time : Nat) (s : State) :
    ∃ u, Reports { s with
        acct := deliveryLogged h3 time s, mgmt := { s.mgmt with events := s.mgmt.events ||| 0x0002 } } u ∧
      openDelivery h3 time s = recDelivery u := by
  obtain ⟨logged, hlogged⟩ : ∃ logged, logged = s.setAcct { deliveryLogged h3 time s with period := s.acct.period } := ⟨_, rfl⟩
  have hraised : Reports (logged.setMgmt { s.mgmt with events := s.mgmt.events ||| 0x0002 }) (raiseEvent .delivery logged) := by
    rw [hlogged]; exact settleNotices_reports _
  have hopened : openDelivery h3 time s = recDelivery ((raiseEvent .delivery logged).setAcct
      { (raiseEvent .delivery logged).acct with
        period := (raiseEvent .delivery logged).acct.period.map fun p => { p with delivery := true } }) := by
    rw [hlogged]; rfl
  refine ⟨_, ?_, hopened⟩
  rw [hraised.acct, hlogged]
  rw [hlogged] at hraised
  exact hraised.setAcct (deliveryLogged h3 time s)

section
variable {s : State} {h0 h1 h2 h3 : Stage} {time : Nat}

/-- A rise of DELIV_MIN whose H3 is not before the last record's end opens a record (R116). -/
theorem testDelivery_opens (hopen : deliveryOpen s = false)
    (hafter : ∀ d stop, s.acct.deliveries.getLast? = some d → d.stop = some stop → stop ≤ h3.time)
    (hrise : (s.acct.set.delivMin : Int) ≤ (h0.v15 : Int) - h3.v15) :
    testDelivery [h0, h1, h2, h3] time s = openDelivery h3 time s := by
  cases hlast : s.acct.deliveries.getLast? with
  | none => simp [testDelivery, hopen, hlast, hrise]
  | some d =>
    have hstop : (d.stop.all fun t => decide (t ≤ h3.time)) = true := by
      cases hd : d.stop with
      | none => rfl
      | some stop => simp [hafter d stop hlast hd]
    simp [testDelivery, hopen, hlast, hrise, hstop]

/-- An H3 before the last record's end, or a smaller rise, opens nothing (R116). -/
theorem testDelivery_stays (hopen : deliveryOpen s = false)
    (h : (∃ d stop, s.acct.deliveries.getLast? = some d ∧ d.stop = some stop ∧ h3.time < stop) ∨
      (h0.v15 : Int) - h3.v15 < s.acct.set.delivMin) :
    testDelivery [h0, h1, h2, h3] time s = s := by
  rcases h with ⟨d, stop, hlast, hstop, hbefore⟩ | hrise
  · simp [testDelivery, hopen, hlast, hstop, Nat.not_le.mpr hbefore]
  · simp [testDelivery, hopen, Int.not_le.mpr hrise]

/-- A chain with a stage absent opens nothing (R116). -/
theorem testDelivery_short {chain : List Stage} (hopen : deliveryOpen s = false) (hl : chain.length < 4) :
    testDelivery chain time s = s := by
  match chain, hl with
  | [], _ | [_], _ | [_, _], _ | [_, _, _], _ => simp [testDelivery, hopen]

end

/-! ### The statement -/

/-- What a delivery that opens does to the recovery unit of a hard-locked episode (R62, R63). -/
theorem recDelivery_clears {s : State} {e : Episode} (hst : s.recov.state = .hardLock) (he : s.recov.episode = some e)
    (hlow : LowAtLockout s) :
    ∃ e', LockCleared e s (recDelivery s).recov e' (recDelivery s).sup ∧
      ((recDelivery s).nv.waiting = true ∨ (recDelivery s).nv.writing = some (recDelivery s).recov.safe) := by
  obtain ⟨r, e', sup, w, hclear, hcleared, hsteers⟩ := clearLock_spec he
  have hreports := settleNotices_reports w
  have hrecov : (recDelivery s).recov = r := by
    rw [recDelivery_eq_clearLock hst hlow, hclear, hreports.recov, hsteers.recov]
  have hsup : (recDelivery s).sup = w.sup := by rw [recDelivery_eq_clearLock hst hlow, hclear, hreports.sup]
  have hnv : (recDelivery s).nv = nvRequested r.safe s := by
    rw [recDelivery_eq_clearLock hst hlow, hclear, hreports.nv, hsteers.nv]
  refine ⟨e', by rw [hrecov, hsup]; exact hcleared, ?_⟩
  rw [hnv, hrecov, nvRequested]
  split
  · exact .inr rfl
  · exact .inl rfl

/-- Settles O29: the settling test by `settleDelivery_eq`, the test of the chain by `testDelivery_opens` and
`testDelivery_stays`, and the clear that an opening grants by `recDelivery_clears`. -/
theorem chainRiseOpensADelivery : Obligations.ChainRiseOpensADelivery := by
  refine ⟨?settles, fun chain time s hopen hl => testDelivery_short hopen hl, ?full⟩
  case settles =>
    intro h0 h1 rest time settle older d d' s hd hr hsettle hd'
    have hopen := deliveryOpen_of_last hd hr
    have htest : testDelivery (h0 :: h1 :: rest) time s = modDelivery (settleDelivery h0 (some h1)) s := if_pos hopen
    rw [htest, modDelivery_last hd, settleDelivery_eq h0 h1 hsettle, hd']
    rfl
  case full =>
    rintro h0 h1 h2 h3 time number s t hopen rfl rfl
    refine ⟨fun hafter hrise => ?opens, testDelivery_stays hopen⟩
    case opens =>
      obtain ⟨u, hu, hopened⟩ := openDelivery_spec h3 time s
      have hleaves := hu.lockLeaves.trans (recDelivery_leaves u)
      have hlowu : LowAtLockout u ↔ LowAtLockout s := by rw [LowAtLockout, hu.recov]; rfl
      have hrecov : u.recov = s.recov := hu.recov
      have hsup : u.sup = s.sup := hu.sup
      have htenths : u.tenths = s.tenths := congrArg (· / ticksPerTenth) hu.now
      rw [testDelivery_opens hopen hafter hrise, hopened]
      refine ⟨by rw [hleaves.acct]; rfl, by rw [hleaves.acct]; rfl, hleaves.events, fun hkept => ?kept,
        fun e hst he hlow => ?granted, hleaves.clock, hleaves.relay, hleaves.zone, hleaves.vol, hleaves.nodes, hleaves.ports⟩
      case kept =>
        have hself : recDelivery u = u := recDelivery_eq_self (hkept.imp (fun h => by rwa [hrecov]) fun h hlow => by
          obtain ⟨r, hr, hnumber, htank⟩ := hlowu.mp hlow
          exact htank.elim (h r hr hnumber).1 (h r hr hnumber).2)
        rw [hself]
        exact ⟨hrecov, hu.nv, hsup⟩
      case granted =>
        obtain ⟨e', hcleared, hnv⟩ := recDelivery_clears (hrecov ▸ hst) (hrecov ▸ he) (hlowu.mpr hlow)
        have hsafe := hcleared.safe
        rw [hrecov, forgive_eq] at hsafe
        refine ⟨hsafe, hnv, hleaves.log, e', hcleared.episode, hcleared.number, hcleared.cause, fun hl => ?_, fun hl => ?_⟩
        · obtain ⟨hstate, hk, href, hsame⟩ := hcleared.waits (hsup ▸ hl)
          exact ⟨hstate, hk, htenths ▸ href, hsame.trans hsup⟩
        · obtain ⟨hstate, -, href, hfree⟩ := hcleared.proves (hsup ▸ hl)
          exact ⟨hstate, href, hfree⟩

end Sys2Proof.Machine
end

section
/-! Accounting periods: the outcome of a closed one, the log with its leak count, and the test of a publication (R25, R108, R110,
R111, R113 to R115). -/

namespace Sys2Proof.Machine

/-! ### A closed period (R113) -/

section
variable {set : AcctSet} {p : Period} {stop endV15 : Nat}

/-- A period that closes later than twice PERIOD after its start is SKIPPED, with no drop and no discrepancy. -/
theorem closePeriod_late (h : p.start + 2 * set.period * 3600 < stop) :
    closePeriod set p stop endV15 =
      { start := p.start, stop := stop, startV15 := p.startV15, endV15 := some endV15, burn := p.burn, drop := none
        discrepancy := none, outcome := .skipped, skip := none } := if_pos h

/-- Else one with a delivery has its drop alone. -/
theorem closePeriod_delivery (h : stop ≤ p.start + 2 * set.period * 3600) (hd : p.delivery = true) :
    closePeriod set p stop endV15 =
      { start := p.start, stop := stop, startV15 := p.startV15, endV15 := some endV15, burn := p.burn
        drop := some ((p.startV15 : Int) - endV15), discrepancy := none, outcome := .delivery, skip := none } := by
  unfold closePeriod
  dsimp only
  rw [if_neg (Nat.not_lt.mpr h), if_pos hd]

/-- Else the discrepancy is held against the tolerance. -/
theorem closePeriod_compared (h : stop ≤ p.start + 2 * set.period * 3600) (hd : p.delivery = false) {disc tol : Int}
    (hdisc : disc = (p.startV15 : Int) - endV15 - p.burn)
    (htol : tol = ((set.tolFixed + p.burn * set.tolPct / 100 : Nat) : Int)) :
    closePeriod set p stop endV15 =
      { start := p.start, stop := stop, startV15 := p.startV15, endV15 := some endV15, burn := p.burn
        drop := some ((p.startV15 : Int) - endV15), discrepancy := some disc, skip := none
        outcome := if tol < disc then .overdraw else if tol < -disc then .underdraw else .balanced } := by
  unfold closePeriod tolerance
  dsimp only
  rw [if_neg (Nat.not_lt.mpr h), if_neg (by simp [hd]), hdisc, htol]

/-- What the record of a closed period takes over from the period and its end. -/
theorem closePeriod_frame : closePeriod set p stop endV15 =
    { closePeriod set p stop endV15 with
      start := p.start, stop := stop, startV15 := p.startV15, endV15 := some endV15, burn := p.burn, skip := none } := by
  rcases Nat.lt_or_ge (p.start + 2 * set.period * 3600) stop with h | h
  · rw [closePeriod_late h]
  · cases hd : p.delivery with
    | true => rw [closePeriod_delivery h hd]
    | false => rw [closePeriod_compared h hd rfl rfl]

end

/-! ### The log and the leak count (R114, R115) -/

theorem leakAfter_count (leak : Nat) (o : PeriodOutcome) :
    (leakAfter leak o).1 =
      if o = .overdraw then (if leak = 0 then 1 else 0) else if o = .skipped ∨ o = .delivery then leak else 0 := by
  cases o with
  | overdraw => by_cases h : leak = 0 <;> simp [leakAfter, h]
  | _ => simp [leakAfter]

theorem leakAfter_raises (leak : Nat) (o : PeriodOutcome) :
    (leakAfter leak o).2 = true ↔ o = .overdraw ∧ leak ≠ 0 := by
  cases o with
  | overdraw => by_cases h : leak = 0 <;> simp [leakAfter, h]
  | _ => simp [leakAfter]

/-- The state with a record in the period log, before a raised LEAK_SUSPECT is shown. -/
def periodLogged (r : PeriodRecord) (s : State) : State :=
  { s with
    acct := { s.acct with
      period := none, periods := logAppend 4 s.acct.periods r, leak := (leakAfter s.acct.leak r.outcome).1 }
    mgmt := { s.mgmt with
      events := if r.outcome = .overdraw ∧ s.acct.leak ≠ 0 then s.mgmt.events ||| 0x0004 else s.mgmt.events } }

/-- Everything a logged period does. -/
theorem logPeriod_reports (r : PeriodRecord) (s : State) : Reports (periodLogged r s) (logPeriod r s) := by
  have hraise := leakAfter_raises s.acct.leak r.outcome
  have hlog : logPeriod r s =
      if (leakAfter s.acct.leak r.outcome).2 then raiseEvent .leakSuspect (s.setAcct { s.acct with
        period := none, periods := logAppend 4 s.acct.periods r, leak := (leakAfter s.acct.leak r.outcome).1 })
      else s.setAcct { s.acct with
        period := none, periods := logAppend 4 s.acct.periods r, leak := (leakAfter s.acct.leak r.outcome).1 } := rfl
  rw [hlog]
  split
  · next h =>
    rw [periodLogged, if_pos (hraise.mp h)]
    exact settleNotices_reports _
  · next h =>
    rw [periodLogged, if_neg fun hboth => h (hraise.mpr hboth)]
    exact .refl _

theorem logPeriod_acct (r : PeriodRecord) (s : State) : (logPeriod r s).acct = (periodLogged r s).acct :=
  (logPeriod_reports r s).acct

theorem logPeriod_events (r : PeriodRecord) (s : State) :
    (logPeriod r s).mgmt.events = (periodLogged r s).mgmt.events := by
  obtain ⟨_, _, h⟩ := (logPeriod_reports r s).mgmt
  rw [h]

/-! ### The test of a publication (R110, R111) -/

section
variable {time v15 : Nat} {s : State}

theorem testPeriod_opens (h : s.acct.period = none) : testPeriod time v15 s = openPeriod time v15 s := by
  simp only [testPeriod, h]

theorem testPeriod_early {p : Period} (hp : s.acct.period = some p) (h : time < p.start + s.acct.set.period * 3600) :
    testPeriod time v15 s = s := by
  simp only [testPeriod, hp, if_neg (Nat.not_le.mpr h)]

/-- The state once the partial burn of a run has been split and credited (R25, R108). -/
def burnSplit (credit residue : Nat) (s : State) : State :=
  { s with
    sup := { s.sup with rr := { s.sup.rr with start := if s.sup.rr.active then s.tenths else s.sup.rr.start } }
    acct := { s.acct with
      residue := residue, accum := s.acct.accum + credit
      period := s.acct.period.map fun p => { p with burn := p.burn + credit } } }

/-- A period that is due is closed with the burn up to now and logged, and the next opens, but after SKIPPED. -/
theorem testPeriod_due {p : Period} {credit residue : Nat} {r : PeriodRecord} (hp : s.acct.period = some p)
    (h : p.start + s.acct.set.period * 3600 ≤ time) (hc : partialCredit s credit residue)
    (hr : r = closePeriod s.acct.set { p with burn := p.burn + credit } time v15) :
    testPeriod time v15 s =
      if r.outcome = .skipped then logPeriod r (burnSplit credit residue s)
      else openPeriod time v15 (logPeriod r (burnSplit credit residue s)) := by
  have hsplit : takePartialBurn s = burnSplit credit residue s := takePartialBurn_eq hc
  have hperiod : (burnSplit credit residue s).acct.period = some { p with burn := p.burn + credit } := by
    simp [burnSplit, hp]
  simp only [testPeriod, hp, if_pos h, hsplit, hperiod, Option.getD_some]
  rw [hr]
  rfl

/-- The state after a period that was due, before a raised LEAK_SUSPECT is shown: the run is split, the period logged, and `next`
is open. -/
def periodTurned (credit residue : Nat) (r : PeriodRecord) (next : Option Period) (s : State) : State :=
  { s with
    sup := { s.sup with rr := { s.sup.rr with start := if s.sup.rr.active then s.tenths else s.sup.rr.start } }
    acct := { s.acct with
      residue := residue, accum := s.acct.accum + credit, period := next, periods := logAppend 4 s.acct.periods r
      leak := (periodLogged r s).acct.leak }
    mgmt := { s.mgmt with events := (periodLogged r s).mgmt.events } }

/-- Everything the test of a publication does to a period that is due. -/
theorem testPeriod_due_reports {p opened : Period} {credit residue : Nat} {r : PeriodRecord} (hp : s.acct.period = some p)
    (h : p.start + s.acct.set.period * 3600 ≤ time) (hc : partialCredit s credit residue)
    (hr : r = closePeriod s.acct.set { p with burn := p.burn + credit } time v15)
    (ho : opened = { start := time, startV15 := v15, burn := 0, delivery := deliveryOpen s }) :
    Reports (periodTurned credit residue r (if r.outcome = .skipped then none else some opened) s)
      (testPeriod time v15 s) := by
  have hlog : Reports (periodTurned credit residue r none s) (logPeriod r (burnSplit credit residue s)) :=
    logPeriod_reports r (burnSplit credit residue s)
  rw [testPeriod_due hp h hc hr]
  split
  · exact hlog
  · have hopen : deliveryOpen (logPeriod r (burnSplit credit residue s)) = deliveryOpen s := by
      rw [deliveryOpen, hlog.acct]; rfl
    rw [openPeriod, hopen, ← ho, hlog.acct]
    exact hlog.setAcct _

end

/-! ### The statement -/

/-- Settles O28: the outcome by the equations of `closePeriod`, the log by `logPeriod_reports`, and the test of a publication by
`testPeriod_due_reports`. -/
theorem periodOutcomesAreDecided : Obligations.PeriodOutcomesAreDecided := by
  refine ⟨?closed, ?published⟩
  case closed =>
    rintro set p stop endV15 drop disc tol r s t rfl hdisc htol rfl rfl
    have hframe := closePeriod_frame (set := set) (p := p) (stop := stop) (endV15 := endV15)
    refine ⟨fun h => ?late, fun h => ?_, ?_, ?_, ?_, ?_, ?_, ?_, ?_, ?_, ?_⟩
    case late => rw [closePeriod_late h]; exact ⟨rfl, rfl, rfl⟩
    · cases hd : p.delivery with
      | true =>
        rw [closePeriod_delivery h hd]
        exact ⟨rfl, fun _ => ⟨rfl, rfl⟩, nofun⟩
      | false =>
        rw [closePeriod_compared h hd hdisc htol]
        have hpos : 0 ≤ tol := htol ▸ Int.natCast_nonneg _
        refine ⟨rfl, nofun, fun _ => ⟨rfl, fun hover => ?_, fun hunder => ?_, fun hle hge => ?_⟩⟩
        · exact if_pos hover
        · exact (if_neg (by omega)).trans (if_pos hunder)
        · exact (if_neg (Int.not_lt.mpr hle)).trans (if_neg (Int.not_lt.mpr hge))
    · rw [hframe]
    · rw [hframe]
    · rw [hframe]
    · rw [hframe]
    · rw [hframe]
    · rw [hframe]
    · rw [logPeriod_acct]; rfl
    · have hcount := leakAfter_count s.acct.leak (closePeriod set p stop endV15).outcome
      rw [logPeriod_acct, periodLogged, hcount]
      cases (closePeriod set p stop endV15).outcome <;> simp
    · exact logPeriod_events _ s
  case published =>
    rintro time v15 opened s t rfl hopened
    refine ⟨fun hp => by rw [testPeriod_opens hp, hopened]; rfl, fun p hp => ⟨testPeriod_early hp, ?due⟩⟩
    case due =>
      intro credit residue r h hc hr
      have hturn := testPeriod_due_reports hp h hc hr hopened
      obtain ⟨line, timer, hmgmt⟩ := hturn.mgmt
      have hleak : (testPeriod time v15 s).acct.leak = (logPeriod r s).acct.leak := by
        rw [hturn.acct, logPeriod_acct]; rfl
      refine ⟨?_, hleak, ?_, hturn.sup, ⟨hturn.now, hturn.pending, hturn.freeIdx⟩, hturn.relay, hturn.zone, hturn.recov,
        hturn.sched, hturn.level, hturn.vol, hturn.nv, ⟨hturn.portH, hturn.portY, hturn.portP⟩⟩
      · rw [hturn.acct]; rfl
      · rw [hmgmt, logPeriod_events]; rfl

end Sys2Proof.Machine
end

section
/-! SUPPORT. Where the 32 buffers are, taken out of the state (`Stock`), with the buffers that a consumer holds while a command
runs (`Moves`): offers, notices and the arbitration of the P line (R131, R137 to R139, R154). -/

namespace Sys2Proof.Machine

/-! ### The stock -/

/-- What a port has of the buffers: its assembly, how many telegrams it queues, and whether it sends. -/
structure PortLoad where
  asm : Option Assembly
  queued : Nat
  sends : Bool

/-- The load of a port. -/
def portLoad (q : PortState) : PortLoad := { asm := q.asm, queued := q.queue.length, sends := decide (q.phase = .sending) }

/-- The buffers of a port, in assembly and in its queue. -/
def PortLoad.buffers (p : PortLoad) : Nat := (if p.asm.any (·.hasBuffer) then 1 else 0) + p.queued

/-- The queue fits, and a port that sends has a head and assembles nothing (R126, R131). -/
structure PortLoad.Sound (p : PortLoad) : Prop where
  fits : p.queued ≤ queueCap
  sends : p.sends = true → p.asm = none ∧ p.queued ≠ 0

/-- Where the buffers are: free, in the ports, and in the relay list (R137). -/
structure Stock where
  free : Nat
  portH : PortLoad
  portY : PortLoad
  portP : PortLoad
  list : Nat

/-- The stock of a state. -/
def stock (s : State) : Stock :=
  { free := s.pool.free, portH := portLoad s.portH, portY := portLoad s.portY, portP := portLoad s.portP
    list := s.sched.relayList.length }

/-- The load of one port. -/
def Stock.port (k : Stock) : Port → PortLoad
  | .h => k.portH
  | .y => k.portY
  | .p => k.portP

/-- The buffers that are not free. -/
def Stock.used (k : Stock) : Nat := k.portH.buffers + k.portY.buffers + k.portP.buffers + k.list

/-- Each of the 32 buffers is in one place, `n` of them with a consumer; the relay list fits and the ports are sound. -/
structure Stock.Holds (n : Nat) (k : Stock) : Prop where
  kept : k.free + k.used + n = poolSize
  list : k.list ≤ relayListCap
  ports : ∀ port, (k.port port).Sound

theorem stock_port (s : State) (port : Port) : (stock s).port port = portLoad (s.port port) := by cases port <;> rfl

theorem portLoad_sound_iff (q : PortState) : (portLoad q).Sound ↔ q.queue.length ≤ queueCap ∧ SendsItsHead q := by
  constructor
  · intro h
    exact ⟨h.fits, fun hs => (h.sends (decide_eq_true hs)).imp_right fun hq => List.length_pos_iff.mp (Nat.pos_of_ne_zero hq)⟩
  · intro ⟨hf, hs⟩
    exact ⟨hf, fun hd => (hs (of_decide_eq_true hd)).imp_right fun hq =>
      Nat.ne_of_gt (List.length_pos_iff.mpr hq)⟩

/-- The buffers of a state are sound exactly if its stock holds them all (R137). -/
theorem buffersSound_iff (s : State) : BuffersSound s ↔ (stock s).Holds 0 := by
  constructor
  · intro ⟨hkept, ⟨hH, hY, hP⟩, hlist, sH, sY, sP⟩
    refine ⟨hkept, hlist, fun port => ?_⟩
    rw [stock_port, portLoad_sound_iff]
    cases port
    · exact ⟨hH, sH⟩
    · exact ⟨hY, sY⟩
    · exact ⟨hP, sP⟩
  · intro ⟨hkept, hlist, hports⟩
    obtain ⟨hH, sH⟩ := (portLoad_sound_iff _).mp (hports .h)
    obtain ⟨hY, sY⟩ := (portLoad_sound_iff _).mp (hports .y)
    obtain ⟨hP, sP⟩ := (portLoad_sound_iff _).mp (hports .p)
    exact ⟨hkept, ⟨hH, hY, hP⟩, hlist, sH, sY, sP⟩

/-! ### Buffers moved -/

/-- `t` holds every buffer once if `s` does, where a consumer holds `a` of them at `s` and `b` at `t`, besides what it holds all
along. -/
def Moves (a b : Nat) (s t : State) : Prop := ∀ n, (stock s).Holds (n + a) → (stock t).Holds (n + b)

theorem Moves.trans {a b c : Nat} {s t u : State} (h : Moves a b s t) (k : Moves b c t u) : Moves a c s u :=
  fun n hn => k n (h n hn)

theorem Moves.add {a b : Nat} {s t : State} (h : Moves a b s t) (c : Nat) : Moves (c + a) (c + b) s t := fun n hn => by
  rw [← Nat.add_assoc] at hn ⊢
  exact h _ hn

/-- A command part that leaves the stock as it is moves no buffer. -/
theorem moves_of_stock {a : Nat} {s t : State} (h : stock t = stock s) : Moves a a s t := fun _ hn => h ▸ hn

theorem Moves.behind {a b : Nat} {s s' t : State} (k : Moves a b s' t) (h : stock s' = stock s) : Moves a b s t :=
  (moves_of_stock h).trans k

theorem Moves.refl (a : Nat) (s : State) : Moves a a s s := moves_of_stock rfl

theorem Moves.of_none {s t : State} (h : Moves 0 0 s t) (a : Nat) : Moves a a s t := h.add a

/-- The free count changed by what the consumer takes or gives. -/
theorem setFree_moves {a b m : Nat} {s : State} (h : m + b = s.pool.free + a) : Moves a b s (setFree m s) := by
  intro n ⟨hkept, hlist, hports⟩
  refine ⟨?_, hlist, hports⟩
  have hused : (stock (setFree m s)).used = (stock s).used := rfl
  have hm : (stock (setFree m s)).free = m := rfl
  have hs : (stock s).free = s.pool.free := rfl
  omega

theorem stock_modPort_port (s : State) (port other : Port) (f : PortState → PortState) :
    (stock (s.modPort port f)).port other = if other = port then portLoad (f (s.port port)) else (stock s).port other := by
  cases port <;> cases other <;> rfl

theorem stock_used (k : Stock) (port : Port) : ∃ rest, k.used = (k.port port).buffers + rest ∧
    ∀ k' : Stock, (∀ other, other ≠ port → k'.port other = k.port other) → k'.list = k.list →
      k'.used = (k'.port port).buffers + rest := by
  cases port
  · refine ⟨k.portY.buffers + k.portP.buffers + k.list, by simp only [Stock.used, Stock.port]; omega, fun k' ho hl => ?_⟩
    have hy : k'.portY = k.portY := ho .y (by decide)
    have hp : k'.portP = k.portP := ho .p (by decide)
    simp only [Stock.used, Stock.port, hy, hp, hl]; omega
  · refine ⟨k.portH.buffers + k.portP.buffers + k.list, by simp only [Stock.used, Stock.port]; omega, fun k' ho hl => ?_⟩
    have hh : k'.portH = k.portH := ho .h (by decide)
    have hp : k'.portP = k.portP := ho .p (by decide)
    simp only [Stock.used, Stock.port, hh, hp, hl]; omega
  · refine ⟨k.portH.buffers + k.portY.buffers + k.list, by simp only [Stock.used, Stock.port]; omega, fun k' ho hl => ?_⟩
    have hh : k'.portH = k.portH := ho .h (by decide)
    have hy : k'.portY = k.portY := ho .y (by decide)
    simp only [Stock.used, Stock.port, hh, hy, hl]; omega

/-- A port changed: its buffers come from the consumer or go to it. -/
theorem modPort_moves {a b : Nat} {port : Port} {f : PortState → PortState} {s : State}
    (hs : (portLoad (s.port port)).Sound → (portLoad (f (s.port port))).Sound ∧
      (portLoad (f (s.port port))).buffers + b = (portLoad (s.port port)).buffers + a) :
    Moves a b s (s.modPort port f) := by
  intro n ⟨hkept, hlist, hports⟩
  obtain ⟨hsound, hbuf⟩ := hs (stock_port s port ▸ hports port)
  have hself : (stock (s.modPort port f)).port port = portLoad (f (s.port port)) := by
    rw [stock_modPort_port, if_pos rfl]
  have hfree : (stock (s.modPort port f)).free = (stock s).free := by cases port <;> rfl
  have hl : (stock (s.modPort port f)).list = (stock s).list := by cases port <;> rfl
  obtain ⟨rest, hused, hused'⟩ := stock_used (stock s) port
  have hafter := hused' (stock (s.modPort port f)) (fun other ho => by rw [stock_modPort_port, if_neg ho]) hl
  rw [stock_port] at hused
  rw [hself] at hafter
  refine ⟨by omega, hl ▸ hlist, fun other => ?_⟩
  rw [stock_modPort_port]
  split
  · exact hsound
  · exact hports other

/-- With the assembly kept, a port's buffers follow its queue. -/
theorem buffers_of_queue {a b : Nat} {q q' : PortState} (ha : q'.asm = q.asm)
    (hq : q'.queue.length + b = q.queue.length + a) : (portLoad q').buffers + b = (portLoad q).buffers + a := by
  have hbefore : (portLoad q).buffers = (if q.asm.any (·.hasBuffer) then 1 else 0) + q.queue.length := rfl
  have hafter : (portLoad q').buffers = (if q.asm.any (·.hasBuffer) then 1 else 0) + q'.queue.length := by
    rw [← ha]; rfl
  omega

/-- A change of a port that keeps its load. -/
theorem modPort_moves_none {a : Nat} {port : Port} {f : PortState → PortState} {s : State}
    (h : portLoad (f (s.port port)) = portLoad (s.port port)) : Moves a a s (s.modPort port f) :=
  modPort_moves fun hs => by rw [h]; exact ⟨hs, rfl⟩

theorem stock_countPort (s : State) (port : Port) (f : PortCounters → PortCounters) : stock (s.countPort port f) = stock s := by
  cases port <;> rfl

theorem countPort_moves {a : Nat} (port : Port) (f : PortCounters → PortCounters) (s : State) :
    Moves a a s (s.countPort port f) :=
  modPort_moves_none rfl

/-! ### Offers (R131, R137 to R139) -/

/-- A telegram offered leaves the consumer if it joins the queue. -/
theorem offerItem_moves {port : Port} {it : QItem} {s t : State} {joined : Bool} (h : offerItem port it s = (t, joined)) :
    Moves 1 (if joined then 0 else 1) s t := by
  unfold offerItem at h
  dsimp only at h
  split at h
  · cases h; exact countPort_moves port _ s
  · split at h
    · next hroom =>
      cases h
      refine modPort_moves (f := fun q => { q with queue := q.queue ++ [it] }) fun hs => ⟨⟨?_, fun hd => ?_⟩, ?_⟩
      · simpa [portLoad] using Nat.succ_le_of_lt hroom
      · exact ⟨(hs.sends hd).1, by simp [portLoad]⟩
      · exact buffers_of_queue rfl (by simp)
    · cases h; exact countPort_moves port _ s

theorem generateRaw_moves (port : Port) (t : Telegram) (s : State) : Moves 0 0 s (generateRaw port t s) := by
  unfold generateRaw
  split
  · exact moves_of_stock rfl
  · next hf =>
    have htake : Moves 0 1 s (setFree (s.pool.free - 1) s) := setFree_moves (by omega)
    split
    · next he => exact htake.trans (offerItem_moves he)
    · next he => exact (htake.trans (offerItem_moves he)).trans (setFree_moves rfl)

theorem broadcastHoldOff_moves (n : Nat) (s : State) : Moves 0 0 s (broadcastHoldOff n s) :=
  (generateRaw_moves .h _ s).trans (generateRaw_moves .y _ _)

/-- The pool's state and counters changed, with its free count kept. -/
theorem setPool_moves {v : Pool} {s : State} (h : v.free = s.pool.free) : Moves 0 0 s (s.setPool v) :=
  moves_of_stock (by rw [stock, State.setPool_pool, h]; rfl)

theorem enterHeld_moves (s : State) : Moves 0 0 s (enterHeld s) :=
  (setPool_moves (v := { s.pool with held := true, holdEntry := bump s.pool.holdEntry, repeatFrom := some s.now }) rfl).trans
    (broadcastHoldOff_moves 30 _)

theorem enterOpen_moves (s : State) : Moves 0 0 s (enterOpen s) :=
  (setPool_moves (v := { s.pool with held := false, repeatFrom := none }) rfl).trans (broadcastHoldOff_moves 0 _)

/-- A free buffer taken is the consumer's. -/
theorem takeBuffer_moves {s : State} (h : s.pool.free ≠ 0) : Moves 0 1 s (takeBuffer s) := by
  have htake : Moves 0 1 s (setFree (s.pool.free - 1) s) := setFree_moves (by omega)
  unfold takeBuffer
  dsimp only
  split
  · exact htake.trans ((enterHeld_moves _).of_none 1)
  · exact htake

/-- A buffer returned is free, or goes to a hold-off. -/
theorem returnBuffer_moves (s : State) : Moves 1 0 s (returnBuffer s) := by
  have hreturn : Moves 1 0 s (setFree (s.pool.free + 1) s) := setFree_moves rfl
  unfold returnBuffer
  dsimp only
  split
  · exact hreturn.trans (enterOpen_moves _)
  · exact hreturn

theorem returnBuffers_moves (n : Nat) (s : State) : Moves n 0 s (returnBuffers n s) := by
  induction n generalizing s with
  | zero => exact .refl 0 s
  | succ n ih => exact ((returnBuffer_moves s).add n).trans (ih _)

theorem generate_moves (port : Port) (t : Telegram) (m : QMark) (s : State) : Moves 0 0 s (generate port t m s).1 := by
  unfold generate
  split
  · exact moves_of_stock rfl
  · next hf =>
    split
    · next he => exact (takeBuffer_moves hf).trans (offerItem_moves he)
    · next he => exact ((takeBuffer_moves hf).trans (offerItem_moves he)).trans (returnBuffer_moves _)

theorem moveToQueue_moves (port : Port) (t : Telegram) (m : QMark) (s : State) : Moves 1 0 s (moveToQueue port t m s).1 := by
  unfold moveToQueue
  split
  · next he => exact offerItem_moves he
  · next he => exact (offerItem_moves he).trans (returnBuffer_moves _)

/-- A head dropped gives its buffer back (R131). -/
theorem dropHead_moves {port : Port} {s : State} (h : (s.port port).queue ≠ []) : Moves 0 0 s (dropHead port s) := by
  have hlen := List.length_pos_iff.mpr h
  refine Moves.trans (b := 1) (modPort_moves fun hs => ⟨⟨?_, fun hd => ?_⟩, ?_⟩) (returnBuffer_moves _)
  · have := hs.fits
    simp only [portLoad, List.length_drop] at this ⊢
    omega
  · simp [portLoad] at hd
  · exact buffers_of_queue rfl (by rw [List.length_drop]; omega)

/-! ### Notices and arbitration (R160, R161, R177) -/

theorem composeNotices_moves (s : State) : Moves 0 0 s (composeNotices s) :=
  (generate_moves .h _ _ s).trans (generate_moves .y _ _ _)

theorem setMgmt_moves (v : Management) (s : State) : Moves 0 0 s (s.setMgmt v) := moves_of_stock rfl

theorem settleNotices_moves (s : State) : Moves 0 0 s (settleNotices s) := by
  unfold settleNotices
  split
  · exact moves_of_stock rfl
  · split
    · exact .refl 0 s
    · exact (setMgmt_moves _ s).trans (composeNotices_moves _)

theorem raiseEvent_moves (k : Notice) (s : State) : Moves 0 0 s (raiseEvent k s) :=
  (setMgmt_moves _ s).trans (settleNotices_moves _)

theorem stock_countRequest (k : ExKind) (s : State) : stock (countRequest k s) = stock s := by
  unfold countRequest; split <;> rfl

theorem beginRequest_moves (k : ExKind) (slot : Nat) (e : PollEntry) (s : State) :
    Moves 0 0 s (beginRequest k slot e s) := by
  have h := generate_moves .p (requestTel k (BitVec.ofNat 8 e.addr)) .request s
  unfold beginRequest
  dsimp only
  split
  · next he => rw [he] at h; exact h
  · next s' he => rw [he] at h; exact h.trans (moves_of_stock (stock_countRequest k s'))

/-- The oldest relayed telegram goes from the relay list to the P queue (R160, R167). -/
theorem beginRelay_moves (t : Telegram) (room : Room) {s : State} (h : s.sched.relayList ≠ []) :
    Moves 0 0 s (beginRelay t room s) := by
  have hlen := List.length_pos_iff.mpr h
  have hlist : Moves 0 1 s (s.setSched { s.sched with relayList := s.sched.relayList.drop 1 }) := by
    intro n ⟨hkept, hl, hports⟩
    have hs : (stock (s.setSched { s.sched with relayList := s.sched.relayList.drop 1 })).list + 1 = (stock s).list := by
      simp only [stock, State.setSched_sched, List.length_drop]
      omega
    refine ⟨?_, by omega, hports⟩
    have hfree : (stock (s.setSched { s.sched with relayList := s.sched.relayList.drop 1 })).free = (stock s).free := rfl
    have hused : (stock (s.setSched { s.sched with relayList := s.sched.relayList.drop 1 })).used + 1 = (stock s).used := by
      simp only [Stock.used, ← hs]
      rfl
    omega
  have hmove := hlist.trans (moveToQueue_moves .p t .request _)
  unfold beginRelay
  dsimp only
  split
  · next he => rw [he] at hmove; exact hmove
  · next he => rw [he] at hmove; exact hmove.trans (moves_of_stock rfl)

theorem chooseExchange_moves (s : State) : Moves 0 0 s (chooseExchange s) := by
  unfold chooseExchange
  split
  · exact beginRequest_moves _ _ _ s
  · split
    · next hl => exact beginRelay_moves _ _ (by simp [hl])
    · split
      · dsimp only
        split
        · exact (beginRequest_moves _ _ _ s).trans (moves_of_stock rfl)
        · exact beginRequest_moves _ _ _ s
      · exact .refl 0 s

theorem arbitrate_moves (s : State) : Moves 0 0 s (arbitrate s) := by
  unfold arbitrate
  split
  · dsimp only
    have h : Moves 0 0 s (s.setSched { s.sched with wake := false }) := moves_of_stock rfl
    split
    · exact h.trans (chooseExchange_moves _)
    · exact h
  · exact .refl 0 s

theorem finish_moves (s : State) : Moves 0 0 s (finish s) := (arbitrate_moves s).trans (settleNotices_moves _)

end Sys2Proof.Machine
end

section
/-! SUPPORT. The units that own no buffer move none but for the notices they raise: the supervisor, the recovery unit, the zone unit,
the oil blocks, and the writes and actions of the management unit (R170 to R175). -/

namespace Sys2Proof.Machine

/-! ### The supervisor (R27 to R38) -/

theorem Steers.stock {s t : State} (h : Steers s t) : stock t = stock s := by
  have hl : t.sched.relayList = s.sched.relayList := by rw [h.sched]
  simp only [Machine.stock, h.pool, h.portH, h.portY, h.portP, hl]

section
variable (s : State)

theorem stock_dropCall (next : SupState) : stock (dropCall next s) = stock s := by
  unfold dropCall
  extract_lets _ s1 _ s2
  have h2 : stock s2 = stock s := by
    simp only [s2]
    split
    · exact (dropPump_steers s1).stock
    · rfl
  split
  · exact h2
  · exact (startHoldExtension_steers (markMinOff s2)).stock.trans h2

theorem stock_enterIdle : stock (enterIdle s) = stock s := (testSupervisor_steers _).stock

theorem stock_leaveLocked : stock (leaveLocked s) = stock s := by
  unfold leaveLocked
  dsimp only
  split
  · split
    · rfl
    · exact stock_enterIdle (markMinOff s)
  · rfl

theorem stock_enterLocked : stock (enterLocked s) = stock s := by
  unfold enterLocked
  split
  · rfl
  · split
    · exact stock_dropCall s _
    · rfl

theorem stock_supTankChanged (old : TankState) : stock (supTankChanged old s) = stock s := by
  unfold supTankChanged
  split
  · split
    · rfl
    · split
      · exact stock_dropCall s _
      · rfl
  · split
    · exact stock_enterIdle s
    · rfl

theorem stock_runRise : stock (runRise s) = stock s := by
  unfold runRise
  extract_lets _ s1 _ s2
  have h2 : stock s2 = stock s := by
    simp only [s2]
    split
    · exact (startHoldExtension_steers _).stock
    · rfl
    · rfl
  rw [recRunEdge_eq]
  exact h2

theorem stock_runFall : stock (runFall s) = stock s := by
  unfold runFall
  extract_lets _ s1 s2 _ _ s3 s4
  have h4 : stock s4 = stock s := by
    simp only [s4]
    rw [recRunEdge_eq]
    rfl
  split
  · exact h4
  · exact h4

/-! ### The recovery unit (R44 to R65) -/

theorem stock_requestSafetyWrite : stock (requestSafetyWrite s) = stock s := by
  unfold requestSafetyWrite; split <;> rfl

theorem stock_endAttempt (a : Attempt) (o : AttemptOutcome) : stock (endAttempt a o s) = stock s := by
  unfold endAttempt; split <;> rfl

theorem stock_enterProving : stock (enterProving s) = stock s := stock_leaveLocked _

theorem stock_attemptCleared : stock (attemptCleared s) = stock s := by
  unfold attemptCleared
  split
  · exact stock_enterProving s
  · exact (stock_enterProving _).trans (stock_endAttempt s _ _)

theorem enterHardLock_moves : Moves 0 0 s (enterHardLock s) :=
  (settleNotices_moves _).behind (stock_requestSafetyWrite _)

theorem decideAttempt_moves : Moves 0 0 s (decideAttempt s) := by
  unfold decideAttempt
  split
  · exact moves_of_stock rfl
  · dsimp only
    split
    · exact enterHardLock_moves (applyLapses s)
    · exact moves_of_stock (stock_requestSafetyWrite _)

theorem checkDue_moves : Moves 0 0 s (checkDue s) := by
  unfold checkDue
  split
  · exact decideAttempt_moves s
  · exact .refl 0 s

theorem attemptNotCleared_moves : Moves 0 0 s (attemptNotCleared s) := by
  unfold attemptNotCleared
  extract_lets _ s1 ret
  clear_value ret
  split
  · exact moves_of_stock rfl
  · next a _ =>
    have h2 : Moves 0 0 s (endAttempt a .notCleared s1) := moves_of_stock (stock_endAttempt s1 a _)
    dsimp only
    split
    · exact h2
    · split
      · split
        · exact h2
        · exact h2
      · exact h2.trans ((checkDue_moves _).behind rfl)

theorem stock_enterConfirming : stock (enterConfirming s) = stock s := by
  unfold enterConfirming
  dsimp only
  split
  · rfl
  · exact stock_attemptCleared _

theorem clearLock_moves : Moves 0 0 s (clearLock s) := by
  unfold clearLock
  extract_lets number _ _ s1 s2
  have h2 : stock s2 = stock s := stock_requestSafetyWrite s1
  refine Moves.trans (moves_of_stock ?_) (settleNotices_moves _)
  split
  · exact h2
  · exact (stock_enterProving s2).trans h2

theorem appendLockout_moves (c : Cause) (st : SupState) (seen : Bool) : Moves 0 0 s (appendLockout c st seen s) :=
  (raiseEvent_moves .lockout _).behind rfl

theorem recLockoutTaken_moves (st : SupState) (call seen : Bool) : Moves 0 0 s (recLockoutTaken st call seen s) := by
  have after (cause : Cause) (u : State) : stock (afterLockout cause u) = stock u := by
    unfold afterLockout; split <;> rfl
  unfold recLockoutTaken
  extract_lets cause _ _ s1
  clear_value cause
  split
  · have h1 : Moves 0 0 s (appendLockout cause st seen s1) := (appendLockout_moves s1 cause st seen).behind rfl
    exact h1.trans (moves_of_stock (after _ _))
  · have h1 := appendLockout_moves s cause st seen
    generalize appendLockout cause st seen s = s1 at h1
    exact h1.trans (moves_of_stock (after _ (modEpisode _ s1)))
  · have h1 := appendLockout_moves s cause st seen
    generalize appendLockout cause st seen s = s1 at h1
    exact h1.trans ((checkDue_moves (setCause cause s1)).behind rfl)

theorem lockoutTaken_moves : Moves 0 0 s (lockoutTaken s) :=
by
  unfold lockoutTaken
  extract_lets _ s1
  have h1 : Moves 0 0 s (recLockoutTaken s1.sup.state (callAsserted s1) s1.sup.rr.seen s1) :=
    (recLockoutTaken_moves s1 _ _ _).behind rfl
  exact h1.trans (moves_of_stock (stock_enterLocked _))

theorem stock_recLockoutReleased : stock (recLockoutReleased s) = stock s := by
  unfold recLockoutReleased
  split
  · exact stock_attemptCleared s
  · exact stock_attemptCleared s
  · exact stock_attemptCleared s
  · rfl

theorem stock_recTankChanged (old : TankState) : stock (recTankChanged old s) = stock s := by
  unfold recTankChanged; split <;> rfl

theorem stock_recWriteDone : stock (recWriteDone s) = stock s := by
  unfold recWriteDone
  split
  · rfl
  · split
    · split
      · exact stock_endAttempt s _ _
      · split <;> rfl
    · rfl

theorem recDelivery_moves : Moves 0 0 s (recDelivery s) := by
  unfold recDelivery
  dsimp only
  split
  · exact clearLock_moves s
  · exact .refl 0 s

/-! ### The zone unit (R9, R12, R19, R20) -/

theorem evaluateZones_moves (zs : List Nat) : Moves 0 0 s (evaluateZones zs s) :=
  Moves.trans (settleNotices_moves (evaluated zs s)) (moves_of_stock (handOver_steers _ _).stock)

theorem nodeChanged_moves (addr : Nat) : Moves 0 0 s (nodeChanged addr s) := by
  rcases nodeChanged_cases addr s with h | ⟨z, h⟩
  · rw [h]; exact .refl 0 s
  · rw [h]; exact evaluateZones_moves s [z]

theorem changeEnrol_moves (idx : Nat) (old new : Option Enrolment) : Moves 0 0 s (changeEnrol idx old new s) := by
  unfold changeEnrol
  extract_lets s1 zOld zNew s2
  split
  · exact moves_of_stock rfl
  · have h2 : stock s2 = stock s := by
      simp only [s2]
      split
      · rfl
      · split_ifs <;> rfl
    exact (moves_of_stock h2).trans (evaluateZones_moves s2 _)

theorem applyEnrol_moves (idx : Nat) (new : Option Enrolment) : Moves 0 0 s (applyEnrol idx new s) := by
  unfold applyEnrol
  dsimp only
  split
  · split
    · exact changeEnrol_moves s _ _ _
    · exact (changeEnrol_moves s _ _ _).trans (changeEnrol_moves _ _ _ _)
  · exact changeEnrol_moves s _ _ _

theorem applyZone_moves (z : Nat) (new : ZoneEntry) : Moves 0 0 s (applyZone z new s) := by
  unfold applyZone
  split
  · exact .refl 0 s
  · extract_lets wanted _ s1 s2 s3
    have h2 : Moves 0 0 s s2 := settleNotices_moves (evaluated [z] s1)
    have h3 : Moves 0 0 s s3 := by
      simp only [s3]
      split
      · exact h2
      · exact h2.trans (moves_of_stock (takeValveNode_steers _ _ _ _).stock)
    split
    · exact h3.trans (moves_of_stock (takeWanting_steers _ _).stock)
    · split
      · exact h3.trans (moves_of_stock (recompute_steers _).stock)
      · exact h3

/-! ### The oil (R69 to R118) -/

theorem setTank_moves (tank : TankState) : Moves 0 0 s (setTank tank s) := by
  unfold setTank
  split
  · exact .refl 0 s
  · exact Moves.trans (evaluateZones_moves (rerunParts (fun _ => true) (s.setAcct { s.acct with tank := tank })) _)
      (moves_of_stock ((stock_recTankChanged _ _).trans (stock_supTankChanged _ _)))

theorem logPeriod_moves (r : PeriodRecord) : Moves 0 0 s (logPeriod r s) := by
  unfold logPeriod
  dsimp only
  split
  · exact (raiseEvent_moves .leakSuspect _).behind rfl
  · exact moves_of_stock rfl

theorem stock_takePartialBurn : stock (takePartialBurn s) = stock s := by
  unfold takePartialBurn splitBurn
  split_ifs <;> rfl

theorem testPeriod_moves (time v15 : Nat) : Moves 0 0 s (testPeriod time v15 s) := by
  unfold testPeriod
  split
  · exact moves_of_stock rfl
  · dsimp only
    have ended (r : PeriodRecord) : Moves 0 0 s (logPeriod r (takePartialBurn s)) :=
      (logPeriod_moves _ r).behind (stock_takePartialBurn s)
    split
    · split
      · exact ended _
      · exact (ended _).trans (moves_of_stock rfl)
    · exact .refl 0 s

theorem skipPeriod_moves (reason : SkipReason) : Moves 0 0 s (skipPeriod reason s) := by
  unfold skipPeriod
  split
  · exact .refl 0 s
  · dsimp only
    split
    · exact moves_of_stock (stock_takePartialBurn s)
    · exact (logPeriod_moves _ _).behind (stock_takePartialBurn s)

theorem stock_endDelivery (reason : CloseReason) : stock (endDelivery reason s) = stock s := by
  unfold endDelivery; split <;> rfl

theorem acctBreak_moves (reason : SkipReason) : Moves 0 0 s (acctBreak reason s) :=
  ((moves_of_stock (stock_endDelivery s .truncated)).trans (skipPeriod_moves _ reason)).trans (moves_of_stock rfl)

theorem testDelivery_moves (chain : List Stage) (time : Nat) : Moves 0 0 s (testDelivery chain time s) := by
  have opens (h3 : Stage) : Moves 0 0 s (openDelivery h3 time s) := by
    unfold openDelivery
    extract_lets d _ s1 s2 _ s3
    have h2 : Moves 0 0 s s2 := raiseEvent_moves .delivery s1
    exact Moves.trans h2 (recDelivery_moves s3)
  unfold testDelivery
  split
  · split
    · exact moves_of_stock rfl
    · split
      · dsimp only
        split_ifs
        · exact opens _
        · exact .refl 0 s
      · exact .refl 0 s
  · exact .refl 0 s

theorem acctPublication_moves (r : VolRecord) (chain : List Stage) : Moves 0 0 s (acctPublication r chain s) :=
  ((setTank_moves (s.setAcct { s.acct with lastH0 := chain.head? }) _).trans (testDelivery_moves _ chain r.time)).trans
    (testPeriod_moves _ r.time r.v15)

theorem volPublication_moves (b : Box) (time : Nat) : Moves 0 0 s (volPublication b time s) :=
  (acctPublication_moves _ _ _).behind rfl

theorem publish_moves (b : Box) : Moves 0 0 s (publish b s) := by
  unfold publish
  split
  · exact moves_of_stock rfl
  · extract_lets s1
    have h1 : Moves 0 0 s (settleNotices s1) := (settleNotices_moves s1).behind rfl
    exact h1.trans (volPublication_moves _ b _)

theorem acceptSample_moves (depth : Nat) (temp : Option Int) : Moves 0 0 s (acceptSample depth temp s) := by
  have output (b : Box) (u : State) : Moves 0 0 u (outputStage b u) := by
    unfold outputStage
    split
    · exact publish_moves u b
    · dsimp only
      split
      · exact moves_of_stock rfl
      · exact publish_moves (modLevel _ u) _
  unfold acceptSample
  dsimp only
  split
  · exact output _ (modLevel _ s)
  · exact moves_of_stock rfl

theorem checkSpike_moves (depth : Nat) (temp : Option Int) : Moves 0 0 s (checkSpike depth temp s) := by
  unfold checkSpike
  split
  · split
    · exact moves_of_stock rfl
    · exact acceptSample_moves (modLevel _ s) depth temp
  · exact acceptSample_moves s depth temp

theorem takeSample_moves (payload : List Byte) : Moves 0 0 s (takeSample payload s) := by
  have fault (u : State) : Moves 0 0 u (takeFault u) := by
    unfold takeFault
    dsimp only
    split
    · exact Moves.trans (settleNotices_moves (modLevel _ (modLevel _ u))) (setTank_moves _ _)
    · exact moves_of_stock rfl
  unfold takeSample
  split
  · exact moves_of_stock rfl
  · dsimp only
    split
    · exact fault (restartStale s)
    · exact checkSpike_moves (modLevel _ (restartStale s)) _ _
    · exact checkSpike_moves (modLevel _ (restartStale s)) _ _

theorem swapBanks_moves : Moves 0 0 s (swapBanks s) := by
  unfold swapBanks
  extract_lets _ s1 s2 _ s3
  have h3 : Moves 0 0 s s3 := acctBreak_moves s1 .swap
  split
  · exact h3
  · extract_lets r s4
    have h4 : Moves 0 0 s s4 := h3
    split
    · exact h4
    · exact h4.trans (setTank_moves s4 _)

theorem forgetLevel_moves : Moves 0 0 s (forgetLevel s) :=
  (Moves.trans (settleNotices_moves (modLevel _ s)) (acctBreak_moves (State.setVol (restartStale _) _) .forget)).trans
    (setTank_moves _ .unknown)

theorem scalingChange_moves (set : LevelSet) : Moves 0 0 s (scalingChange set s) :=
  acctBreak_moves (State.setVol (modLevel _ s) _) .scaling

/-! ### Non-volatile memory and the poll list (R65, R158, R175) -/

theorem stock_startNextWrite : stock (startNextWrite s) = stock s := by
  unfold startNextWrite startStoreWrite
  split_ifs
  · rfl
  · split <;> rfl
  · rfl

theorem stock_polled (slot : Nat) (o : Option PollEntry) (ends : Bool) (stale : Option Nat) :
    stock (polled slot o ends stale s) = stock s := by
  cases ends <;> simp [polled, stock, portLoad]

theorem stock_applyPollWrite (slot : Nat) (new : Option PollCfg) : stock (applyPollWrite slot new s) = stock s := by
  cases new with
  | none =>
    cases he : slotGet s.sched.slots slot with
    | none => unfold applyPollWrite; rw [he]; rfl
    | some e => rw [applyPollWrite_removed he, stock_polled]
  | some c =>
    cases he : slotGet s.sched.slots slot with
    | none => rw [applyPollWrite_new c he, stock_polled]
    | some e =>
      cases hs : samePollEntry e c with
      | true => rw [applyPollWrite_changed he hs, stock_polled]
      | false => rw [applyPollWrite_replaced he hs, stock_polled]

end

/-! ### Writes (R172) -/

/-- A write moves no buffer, if its owner takes it. -/
def WriteMoves (s : State) (r : WriteResult) : Prop := ∀ x, r = some x → Moves 0 0 s x.2

theorem writeMoves_some {b : Bool} {s t : State} (h : Moves 0 0 s t) : WriteMoves s (some (b, t)) := by
  rintro _ ⟨⟩; exact h

theorem writeMoves_none {s : State} : WriteMoves s none := by rintro _ ⟨⟩

theorem writeNum_moves {w lo hi : Nat} {data : List Byte} {k : Nat → State} {s : State} (h : ∀ v, Moves 0 0 s (k v)) :
    WriteMoves s (writeNum w lo hi data k) := by
  unfold writeNum
  split
  · exact writeMoves_some (h _)
  · exact writeMoves_none

section
variable (s : State) (idx : Nat) (data : List Byte)

theorem writeEnrol_moves : WriteMoves s (writeEnrol idx data s) := by
  unfold writeEnrol
  split
  · exact writeMoves_some (applyEnrol_moves s _ _)
  · dsimp only
    split
    · exact writeMoves_none
    · split
      · exact writeMoves_none
      · exact writeMoves_some (applyEnrol_moves s _ _)
  · exact writeMoves_none

theorem writeZone_moves : WriteMoves s (writeZone idx data s) := by
  unfold writeZone
  split
  · split
    · extract_lets setpoint ceiling leadIn valveIn new given
      split
      · exact writeMoves_some (applyZone_moves s _ _)
      · exact writeMoves_none
    · exact writeMoves_none
  · exact writeMoves_none

theorem writePoll_moves : WriteMoves s (writePoll idx data s) := by
  have applied (new : Option PollCfg) : Moves 0 0 s (applyPollWrite idx new s) := moves_of_stock (stock_applyPollWrite s _ _)
  unfold writePoll
  split
  · split
    · exact writeMoves_none
    · exact writeMoves_some (applied _)
  · dsimp only
    split
    · exact writeMoves_none
    · split
      · exact writeMoves_none
      · exact writeMoves_some (applied _)
  · exact writeMoves_none

theorem writeStaged_moves : WriteMoves s (writeStaged idx data s) := by
  unfold writeStaged
  split
  · exact writeNum_moves fun _ => moves_of_stock rfl
  · split
    · exact writeMoves_some (moves_of_stock rfl)
    · exact writeMoves_none

theorem writeTankSet_moves : WriteMoves s (writeTankSet idx data s) := by
  have scaling (set : LevelSet) : Moves 0 0 s (applyScaling set s) := by
    unfold applyScaling; split
    · exact .refl 0 s
    · exact scalingChange_moves s set
  have shape (set : LevelSet) : Moves 0 0 s (applyShape set s) := by
    unfold applyShape; split <;> exact moves_of_stock rfl
  have levels (w lo hi : Nat) (k : Nat → AcctSet) : WriteMoves s (writeLevels w lo hi data k s) := fun x hx =>
    writeNum_moves (k := fun v => setAcctSet (k v) s) (fun _ => moves_of_stock rfl) x (Option.filter_eq_some_iff.mp hx).1
  unfold writeTankSet
  dsimp only
  split
  case h_1 =>
    split
    · split_ifs
      · exact writeMoves_some (scaling _)
      · exact writeMoves_some (scaling _)
      · exact writeMoves_none
    · exact writeMoves_none
  case h_6 =>
    split
    · exact writeMoves_some (shape _)
    · exact writeMoves_none
  case h_7 => exact writeNum_moves fun _ => shape _
  case h_2 | h_3 | h_4 => exact writeNum_moves fun _ => scaling _
  case h_9 | h_10 | h_11 => exact levels _ _ _ _
  all_goals exact writeNum_moves fun _ => moves_of_stock rfl

theorem writeBurnerSet_moves : WriteMoves s (writeBurnerSet idx data s) := by
  have applied {cond : State → Bool} {effect : State → State} (he : ∀ u, stock (effect u) = stock u) (u : State) :
      stock (applyWhen cond effect u) = stock u := by
    unfold applyWhen
    split
    · exact he u
    · rfl
  have tested (u : State) : stock (testSupervisor u) = stock u := (testSupervisor_steers u).stock
  unfold writeBurnerSet
  dsimp only
  split
  · exact writeNum_moves fun _ => moves_of_stock (tested _)
  · exact writeNum_moves fun _ => moves_of_stock (tested _)
  · exact writeNum_moves fun _ => moves_of_stock (applied (fun u => (dropPump_steers u).stock) _)
  · exact writeNum_moves fun _ => moves_of_stock (applied (effect := endHoldExtension) (fun _ => rfl) _)

theorem writeRecoverySet_moves : WriteMoves s (writeRecoverySet idx data s) := by
  unfold writeRecoverySet
  dsimp only
  split
  · exact writeNum_moves fun _ => (checkDue_moves _).behind rfl
  · exact writeNum_moves fun _ => (checkDue_moves _).behind rfl
  · exact writeNum_moves fun _ => moves_of_stock rfl
  · exact writeNum_moves fun _ => moves_of_stock rfl
  · exact writeNum_moves fun _ => moves_of_stock rfl
  · split
    · exact writeMoves_some (moves_of_stock rfl)
    · exact writeMoves_none

theorem writeRelaySet_moves : WriteMoves s (writeRelaySet idx data s) := by
  unfold writeRelaySet
  dsimp only
  split_ifs <;> exact writeNum_moves fun _ => moves_of_stock rfl

theorem writeMask_moves : WriteMoves s (writeMask data s) := by
  unfold writeMask
  split
  · exact writeMoves_some ((settleNotices_moves _).behind rfl)
  · exact writeMoves_none

theorem stock_clearCounters (o : Obj) : stock (clearCounters o idx s) = stock s := by
  unfold clearCounters
  split
  case h_5 =>
    split_ifs
    · exact stock_countPort s .h _
    · exact stock_countPort s .y _
    · exact stock_countPort s .p _
    · rfl
  case h_6 => split_ifs <;> rfl
  all_goals rfl

theorem writeSetback_moves : WriteMoves s (writeSetback data s) :=
  writeNum_moves fun _ => (evaluateZones_moves _ _).behind rfl

theorem writeItem_moves (o : Obj) : WriteMoves s (writeItem o idx data s) := by
  unfold writeItem
  split
  · unfold writeCounter
    split
    · split
      · exact writeMoves_some (moves_of_stock (stock_clearCounters s idx o))
      · exact writeMoves_none
    · exact writeMoves_none
  · split
    · exact writeEnrol_moves s idx data
    · split
      · exact writeSetback_moves s data
      · exact writeZone_moves s idx data
    · exact writePoll_moves s idx data
    · exact writeStaged_moves s idx data
    · exact writeTankSet_moves s idx data
    · exact writeBurnerSet_moves s idx data
    · exact writeRecoverySet_moves s idx data
    · exact writeRelaySet_moves s idx data
    · exact writeMask_moves s data
    · exact writeMoves_none

end

/-! ### Actions and requests (R170, R173) -/

section
variable (s : State)

theorem stock_actReset : stock (actReset s).1 = stock s := by
  unfold actReset
  split
  · split <;> rfl
  all_goals rfl

theorem doAction_moves (a : Action) (room : Room) (src idx : Byte) (data : List Byte) :
    Moves 0 0 s (doAction a room src idx data s).1 := by
  unfold doAction
  split
  · exact .refl 0 s
  · cases a with
    | swapStrap =>
      dsimp only
      unfold actSwap
      split
      · exact .refl 0 s
      · exact swapBanks_moves s
    | store => exact moves_of_stock (stock_startNextWrite (setJob _ s))
    | clearNotice =>
      dsimp only
      exact (settleNotices_moves _).behind rfl
    | resetBurner => exact moves_of_stock (stock_actReset s)
    | clearHardLock =>
      dsimp only
      unfold actClearLock
      split
      · exact clearLock_moves s
      · exact .refl 0 s
    | holdTank => exact moves_of_stock rfl
    | forgetLevel => exact forgetLevel_moves s
    | restart => exact moves_of_stock rfl

theorem handle_moves (op obj idx : Byte) (room : Room) (src : Byte) (data : List Byte) :
    Moves 0 0 s (handle op obj idx room src data s).1 := by
  unfold handle
  split
  · exact .refl 0 s
  · exact .refl 0 s
  · unfold handleWrite
    split
    · exact .refl 0 s
    · split_ifs
      · exact .refl 0 s
      · exact .refl 0 s
      · exact .refl 0 s
      · exact .refl 0 s
      · split
        · exact .refl 0 s
        · next he => exact writeItem_moves _ _ _ _ _ he
  · unfold handleAction
    split
    · exact .refl 0 s
    · split_ifs
      · exact .refl 0 s
      · exact .refl 0 s
      · exact .refl 0 s
      · exact doAction_moves s _ _ _ _ _

theorem respond_moves (room : Room) (src op obj idx : Byte) (r : Reply) : Moves 0 0 s (respond room src op obj idx r s) := by
  cases r with
  | later => exact .refl 0 s
  | now st data mark => exact generate_moves _ _ _ s

theorem request_moves (op : Op) (obj idx : Byte) (q : Req) : Moves 0 0 s (request op obj idx q s) :=
  (handle_moves s _ _ _ _ _ _).trans (respond_moves _ _ _ _ _ _ _)

theorem endStore_moves (verified : Bool) : Moves 0 0 s (endStore verified s) := by
  unfold endStore
  split
  · extract_lets _ s1 s2 s3
    have h2 : stock s2 = stock s := by
      simp only [s2]
      split <;> rfl
    have h3 : Moves 0 0 s s3 := (moves_of_stock h2).trans (respond_moves s2 _ _ _ _ _ _)
    refine Moves.trans (h3.trans ?_) (moves_of_stock (stock_startNextWrite (setJob .none
      (if verified = true then s3 else raiseEvent .storeFault s3))))
    split
    · exact .refl 0 s3
    · exact raiseEvent_moves _ s3
  · exact .refl 0 s

end

end Sys2Proof.Machine
end

section
/-! SUPPORT. The buffers that the poll scheduler, the relay unit and the ports hold while a command runs, and the resets: each telegram
taken in leaves by a queue, by the relay list or back to the pool (R126 to R168). -/

namespace Sys2Proof.Machine

/-! ### The poll scheduler (R160 to R168) -/

section
variable (s : State)

theorem stock_redecide (slot : Nat) : stock (redecide slot s) = stock s := by
  unfold redecide
  dsimp only
  split <;> rfl

theorem stock_failExchange : stock (failExchange s) = stock s := by
  unfold failExchange
  split
  · rfl
  · split
    · rfl
    · exact stock_redecide _ _

theorem stock_modRecord (slot : Nat) (f : ValveRecord → ValveRecord) : stock (modRecord slot f s) = stock s := by
  unfold modRecord
  split
  · rfl
  · dsimp only
    split
    · rfl
    · exact stock_redecide _ _

theorem stock_changeRecord (slot : Nat) (f : ValveRecord → ValveRecord) : stock (changeRecord slot f s) = stock s := by
  unfold changeRecord
  split
  · rfl
  · dsimp only
    split
    · exact stock_modRecord s slot f
    · exact (recompute_steers _).stock.trans (stock_modRecord s slot f)

theorem stock_missExchange (slot : Nat) : stock (missExchange slot s) = stock s := by
  unfold missExchange
  extract_lets before s1 s2
  have h2 : stock s2 = stock s := stock_redecide _ _
  split
  · exact h2
  · exact (recompute_steers s2).stock.trans h2

theorem stock_pBreak : stock (pBreak s) = stock s := by
  have records (f : ValveRecord → ValveRecord) (xs : List Nat) (u : State) :
      stock (forEach xs (fun i => modRecord i f) u) = stock u := by
    induction xs generalizing u with
    | nil => rfl
    | cons x xs ih => exact (ih _).trans (stock_modRecord u x f)
  unfold pBreak
  extract_lets s1
  have h1 : stock s1 = stock s := stock_failExchange s
  split
  · exact h1
  · exact (recompute_steers _).stock.trans ((records _ _ s1).trans h1)

theorem retryExchange_moves (x : Exchange) : Moves 0 0 s (retryExchange x s) := by
  have h := generate_moves .p (requestTel x.kind x.node) .request s
  unfold retryExchange
  split
  · next he => rw [he] at h; exact h.trans (moves_of_stock (stock_failExchange _))
  · next s' he => rw [he] at h; exact h.trans (moves_of_stock (stock_countRequest x.kind s'))

theorem silentWindow_moves : Moves 0 0 s (silentWindow s) := by
  unfold silentWindow
  split
  · exact .refl 0 s
  · split
    · exact moves_of_stock rfl
    · split
      · exact retryExchange_moves s _
      · exact moves_of_stock (stock_missExchange s _)

theorem routeAnswer_moves (x : Exchange) (slot : Nat) (t : Telegram) : Moves 1 0 s (routeAnswer x slot t s) := by
  have routed : Moves 0 0 s
      (if t.kind = kindSample then takeSample t.payload s
       else
        match readReport t.payload with
        | some rep => changeRecord slot (fun r => takeReport rep (clearPending x.kind r)) s
        | none => countSched (fun c => { c with badReport := bump c.badReport })
            (changeRecord slot (clearPending x.kind) s)) := by
    split
    · exact takeSample_moves s _
    · split
      · exact moves_of_stock (stock_changeRecord s slot _)
      · exact moves_of_stock (stock_changeRecord s slot _)
  exact (routed.of_none 1).trans (returnBuffer_moves _)

theorem takeAnswer_moves (x : Exchange) (slot : Nat) (t : Telegram) : Moves 1 0 s (takeAnswer x slot t s) := by
  unfold takeAnswer
  extract_lets s1 s2
  have h2 : Moves 0 0 s s2 := (settleNotices_moves _).behind rfl
  exact ((h2.of_none 1).trans (routeAnswer_moves s2 x slot t)).trans (moves_of_stock (stock_redecide _ slot))

theorem takeStray_moves : Moves 1 0 s (takeStray s) := (returnBuffer_moves _).behind rfl

theorem takeReply_moves (requester : Room) (t : Telegram) : Moves 1 0 s (takeReply requester t s) :=
  (moveToQueue_moves (roomPort requester) t .plain _).behind rfl

theorem takeFromP_moves (t : Telegram) : Moves 1 0 s (takeFromP t s) := by
  have answer (x : Exchange) (slot : Nat) :
      Moves 1 0 s (if t.dest = 0 && t.kind = expectedKind s slot then takeAnswer x slot t s else takeStray s) := by
    split
    · exact takeAnswer_moves s x slot t
    · exact takeStray_moves s
  unfold takeFromP
  split
  · exact takeStray_moves s
  · next x _ =>
    split
    · exact takeStray_moves s
    · split
      · exact takeReply_moves s _ t
      · exact answer x _
      · exact answer x _

/-! ### The relay unit (R143 to R154) -/

theorem removeNode_moves (slot addr : Nat) (f : RelayCounters → RelayCounters) : Moves 0 0 s (removeNode slot addr f s) :=
  (nodeChanged_moves _ addr).behind rfl

theorem createNode_moves (slot addr : Nat) (room : Room) : Moves 0 0 s (createNode slot addr room s) :=
  (nodeChanged_moves _ addr).behind rfl

theorem learn_moves (addr : Nat) (room : Room) : Moves 0 0 s (learn addr room s) := by
  unfold learn
  split
  · unfold learnNew
    split
    · exact createNode_moves s _ addr room
    · split
      · exact (removeNode_moves s _ _ _).trans (createNode_moves _ _ addr room)
      · exact .refl 0 s
  · split
    · exact moves_of_stock rfl
    · exact (nodeChanged_moves _ addr).behind rfl

theorem ageNodes_moves : Moves 0 0 s (ageNodes s) := by
  have slot (x : Nat) (u : State) : Moves 0 0 u (ageSlot x u) := by
    unfold ageSlot
    split
    · exact .refl 0 u
    · split
      · exact removeNode_moves u _ _ _
      · exact .refl 0 u
  have all (xs : List Nat) (u : State) : Moves 0 0 u (forEach xs ageSlot u) := by
    induction xs generalizing u with
    | nil => exact .refl 0 u
    | cons x xs ih => exact (slot x u).trans (ih _)
  exact all _ s

theorem discard_moves (f : RelayCounters → RelayCounters) : Moves 1 0 s (discard f s) := (returnBuffer_moves _).behind rfl

theorem holdOffNode_moves (addr : Nat) : Moves 0 0 s (holdOffNode addr s) := by
  unfold holdOffNode
  split
  · exact .refl 0 s
  · split
    · exact .refl 0 s
    · extract_lets s1 s2
      have h2 : Moves 0 0 s s2 := (generate_moves _ _ .plain s1).behind rfl
      exact h2.trans (moves_of_stock rfl)

theorem discardExcess_moves (addr : Nat) : Moves 1 0 s (discardExcess addr s) :=
  (discard_moves s fun c => { c with nodeStorm := bump c.nodeStorm }).trans (holdOffNode_moves _ addr)

theorem moveToRoom_moves (port : Port) (f : RelayCounters → RelayCounters) (t : Telegram) :
    Moves 1 0 s (moveToRoom port f t s) := by
  have counted (u : State) : stock (bumpBcast port u) = stock u := by cases port <;> rfl
  unfold moveToRoom
  dsimp only
  split
  · exact (moveToQueue_moves port t .plain _).behind (counted (countRelay f s))
  · exact (moveToQueue_moves port t .plain _).behind rfl

/-- A telegram joins the relay list with its buffer (R154). -/
theorem joinList_moves {t : State} (hlist : t.sched.relayList.length = s.sched.relayList.length + 1)
    (hroom : s.sched.relayList.length < relayListCap) (hpool : t.pool = s.pool) (hH : t.portH = s.portH)
    (hY : t.portY = s.portY) (hP : t.portP = s.portP) : Moves 1 0 s t := by
  intro n ⟨hkept, _, hports⟩
  have hstock : stock t = { stock s with list := (stock s).list + 1 } := by
    simp only [stock, hpool, hH, hY, hP, hlist]
  have hl : (stock s).list = s.sched.relayList.length := rfl
  rw [hstock]
  refine ⟨?_, by dsimp only; omega, hports⟩
  simp only [Stock.used] at hkept ⊢
  omega

theorem moveToPlant_moves (room : Room) (t : Telegram) : Moves 1 0 s (moveToPlant room t s) := by
  unfold moveToPlant
  split
  · next hroom => exact joinList_moves s (by simp [wakeSched]) hroom rfl rfl rfl rfl
  · exact discard_moves s _

theorem relayOn_moves (room : Room) (t : Telegram) : Moves 1 0 s (relayOn room t s) := by
  unfold relayOn moveTelegram
  split
  · exact discard_moves s _
  · split
    · exact discard_moves s _
    · split
      · exact moveToRoom_moves s _ _ t
      · exact moveToRoom_moves s _ _ t
      · exact moveToPlant_moves s room t

theorem takeDemand_moves (room : Room) (t : Telegram) : Moves 1 0 s (takeDemand room t s) := by
  unfold takeDemand
  split
  · exact (returnBuffer_moves _).behind rfl
  · split
    · exact (returnBuffer_moves _).behind rfl
    · next z _ _ =>
      extract_lets e part stored done
      have hdone : Moves 1 0 s done := by
        have h : Moves 0 0 s (evaluateZones [z] stored) := (evaluateZones_moves stored [z]).behind rfl
        exact (h.of_none 1).trans (returnBuffer_moves _)
      have hplant : stock (statusPlant stored done).1 = stock done := by
        unfold statusPlant
        split <;> rfl
      exact (hdone.trans (moves_of_stock hplant)).trans (generate_moves _ _ _ _)

theorem takeRequest_moves (room : Room) (t : Telegram) : Moves 1 0 s (takeRequest room t s) := by
  unfold takeRequest
  split
  · exact (((handle_moves s _ _ _ _ _ _).of_none 1).trans (returnBuffer_moves _)).trans (respond_moves _ _ _ _ _ _ _)
  · exact (returnBuffer_moves _).behind rfl

theorem takeFromRoom_moves (room : Room) (t : Telegram) : Moves 1 0 s (takeFromRoom room t s) := by
  unfold takeFromRoom
  extract_lets s1
  have h1 : Moves 0 0 s s1 := (learn_moves s _ room).trans (moves_of_stock rfl)
  refine (h1.of_none 1).trans ?_
  split
  · exact discardExcess_moves s1 _
  · unfold resolve
    split_ifs
    · exact discard_moves s1 _
    · exact takeDemand_moves s1 room t
    · exact takeRequest_moves s1 room t
    · exact discard_moves s1 _
    · exact relayOn_moves s1 room t

end

/-! ### Receive assembly (R126 to R129) -/

section
variable {port : Port} {s : State}

/-- The telegram on the line is taken into assembly, with a buffer of the consumer if it has one (R126). -/
theorem assembles_moves {a b start : Nat} {granted : Bool} {f : Line → Line} (ha : (s.port port).asm = none)
    (hp : (s.port port).phase ≠ .sending) (hb : a = b + if granted then 1 else 0) :
    Moves a b s (s.modPort port fun q =>
      { q with asm := some { hasBuffer := granted, start := start }, line := f q.line, armed := false }) := by
  refine modPort_moves fun hs => ⟨⟨hs.fits, fun hd => absurd (of_decide_eq_true hd) hp⟩, ?_⟩
  rw [hb]
  cases granted with
  | false => simp [PortLoad.buffers, portLoad, ha]
  | true =>
    simp [PortLoad.buffers, portLoad, ha]
    omega

/-- An assembly begins with a buffer out of the pool, or without one (R126). -/
theorem beginAssembly_moves (ha : (s.port port).asm = none) (hp : (s.port port).phase ≠ .sending) :
    Moves 0 0 s (beginAssembly port s) := by
  unfold beginAssembly
  extract_lets granted s1
  split
  · next hg =>
    have hfree : s.pool.free ≠ 0 := by
      intro h0
      simp only [granted, mayReceive, h0] at hg
      cases port <;> simp at hg
    have htake : Moves 0 1 s (setFree (s.pool.free - 1) s) := setFree_moves (by omega)
    have hport : (setFree (s.pool.free - 1) s).port port = s.port port := by cases port <;> rfl
    have h := htake.trans (assembles_moves (granted := granted) (start := s.now) (f := carrying s.now)
      (hport ▸ ha) (hport ▸ hp) (b := 0) (by rw [if_pos hg]))
    have hswap : setFree (s1.pool.free - 1) s1 = (setFree (s.pool.free - 1) s).modPort port fun q =>
        { q with asm := some { hasBuffer := granted, start := s.now }, line := carrying s.now q.line, armed := false } := by
      simp only [s1]
      cases port <;> rfl
    unfold takeBuffer
    dsimp only
    rw [hswap]
    split
    · exact h.trans (enterHeld_moves _)
    · exact h
  · next hg => exact assembles_moves ha hp (by rw [if_neg hg])

theorem dropAssembly_moves : Moves 0 0 s (dropAssembly port s) := by
  unfold dropAssembly
  split
  · exact .refl 0 s
  · next a ha =>
    extract_lets s1
    have h1 : Moves 0 (if a.hasBuffer then 1 else 0) s s1 := modPort_moves fun hs =>
      ⟨⟨hs.fits, fun hd => ⟨rfl, (hs.sends hd).2⟩⟩, by simp [PortLoad.buffers, portLoad, ha]; omega⟩
    split
    · next hb => rw [if_pos hb] at h1; exact h1.trans (returnBuffer_moves s1)
    · next hb => rw [if_neg hb] at h1; exact h1

theorem enterBreak_moves : Moves 0 0 s (enterBreak port s) := by
  have broken (u : State) : Moves 0 0 u (match port with
      | .p => pBreak u
      | _ => u) := by
    cases port
    · exact .refl 0 u
    · exact .refl 0 u
    · exact moves_of_stock (stock_pBreak u)
  unfold enterBreak
  extract_lets s1 flushed s2
  have h1 : Moves 0 0 s s1 := dropAssembly_moves
  have hclose : Moves 0 flushed s1 (s1.modPort port (closePort s1.now)) := modPort_moves fun hs =>
    ⟨⟨Nat.zero_le _, fun hd => by cases hd⟩, buffers_of_queue rfl (Nat.add_comm _ _)⟩
  have h2 : Moves 0 0 s s2 := (h1.trans hclose).trans (returnBuffers_moves flushed _)
  exact (h2.trans (broken s2)).trans (settleNotices_moves _)

theorem leaveBreak_moves : Moves 0 0 s (leaveBreak port s) := by
  unfold leaveBreak
  extract_lets s1
  have h1 : Moves 0 0 s s1 := modPort_moves_none rfl
  have returned : Moves 0 0 s1 (match port with
      | .p => pReturn s1
      | _ => s1) := by
    cases port <;> exact moves_of_stock rfl
  exact (h1.trans returned).trans (settleNotices_moves _)

/-- A telegram received without error has a buffer, which goes with it (R127, R128). -/
theorem endAssembly_moves {a : Nat} (hasBuffer : Bool) (chars : List RxChar) (ha : a = if hasBuffer then 1 else 0) :
    Moves a 0 s (endAssembly port hasBuffer chars s) := by
  have delivers (t : Telegram) (u : State) : Moves 1 0 u (deliver port t u) := by
    unfold deliver
    split
    · exact takeFromRoom_moves u _ t
    · exact takeFromP_moves u t
  unfold endAssembly
  dsimp only
  split
  · next he =>
    have hb : hasBuffer = true := by
      simp only [RxErrors.isEmpty, errorsOf, Bool.and_eq_true, Bool.not_eq_true', Bool.not_eq_false'] at he
      obtain ⟨⟨⟨_, hb⟩, _⟩, _⟩ := he
      exact hb
    rw [ha, if_pos hb]
    split
    · exact (delivers _ _).behind (stock_countPort s port _)
    · exact (returnBuffer_moves _).behind (stock_countPort s port _)
  · split
    · next hb =>
      rw [ha, if_pos hb]
      exact (returnBuffer_moves _).behind (stock_countPort s port _)
    · next hb =>
      rw [ha, if_neg hb]
      exact moves_of_stock (stock_countPort s port _)

theorem telegramEnd_moves (chars : List RxChar) : Moves 0 0 s (telegramEnd port chars s) := by
  unfold telegramEnd
  split
  · next ha => exact modPort_moves_none (by rw [portLoad, portLoad, ha]; rfl)
  · next a ha =>
    have h1 : Moves 0 (if a.hasBuffer then 1 else 0) s (s.modPort port (quietAfterTelegram s.now)) :=
      modPort_moves fun hs =>
        ⟨⟨hs.fits, fun hd => ⟨rfl, (hs.sends hd).2⟩⟩, by simp [PortLoad.buffers, portLoad, ha, quietAfterTelegram]; omega⟩
    exact h1.trans (endAssembly_moves a.hasBuffer chars rfl)

/-! ### Transmission (R132 to R136) -/

/-- A port that stops sending takes the telegram on the line into assembly; its head still stands (R133, R136). -/
theorem takeOver_moves (ha : (s.port port).asm = none) :
    Moves 0 0 s (beginAssembly port (s.modPort port fun q => { q with phase := .wait })) := by
  have hself : (s.modPort port fun q => { q with phase := .wait }).port port = { s.port port with phase := .wait } := by
    cases port <;> rfl
  refine Moves.trans (modPort_moves fun hs => ⟨⟨hs.fits, fun hd => by cases hd⟩, rfl⟩) (beginAssembly_moves ?_ ?_)
  · rw [hself]; exact ha
  · rw [hself]; exact fun h => by cases h

theorem PortOffered.queue_ne_nil {q q' : PortState} (h : PortOffered q q') (hq : q.queue ≠ []) : q'.queue ≠ [] := by
  obtain ⟨its, f, g, rfl⟩ := h
  simp [hq]

theorem beginAssembly_queue_ne_nil (hq : (s.port port).queue ≠ []) : ((beginAssembly port s).port port).queue ≠ [] := by
  unfold beginAssembly
  extract_lets granted s1
  have h1 : (s1.port port).queue ≠ [] := by
    simp only [s1]
    cases port <;> exact hq
  split
  · exact ((takeBuffer_offers s1).port port).queue_ne_nil h1
  · exact h1

theorem takeOver_queue_ne_nil (hq : (s.port port).queue ≠ []) :
    ((beginAssembly port (s.modPort port fun q => { q with phase := .wait })).port port).queue ≠ [] :=
  beginAssembly_queue_ne_nil (by cases port <;> exact hq)

theorem earlyCollision_moves (ha : (s.port port).asm = none) (hq : (s.port port).queue ≠ []) :
    Moves 0 0 s (earlyCollision port s) := by
  unfold earlyCollision
  extract_lets s1 s2 k r
  have h1 : Moves 0 0 s s1 := takeOver_moves ha
  have hq1 : (s1.port port).queue ≠ [] := takeOver_queue_ne_nil hq
  have h2 : Moves 0 0 s s2 := h1.trans (modPort_moves_none rfl)
  split
  · refine (h2.trans (countPort_moves port _ s2)).trans (dropHead_moves ?_)
    cases port <;> exact hq1
  · refine h2.trans (Moves.behind (s' := s2.setFreeIdx (s2.freeIdx + 1))
      (modPort_moves fun hs => ⟨⟨hs.fits, fun hd => ?_⟩, rfl⟩) rfl)
    simp only [portLoad, backoffPhase] at hd
    split at hd <;> cases hd

theorem lateCollision_moves (ha : (s.port port).asm = none) (hq : (s.port port).queue ≠ []) :
    Moves 0 0 s (lateCollision port s) := by
  have hq1 := takeOver_queue_ne_nil hq
  refine ((takeOver_moves ha).trans (countPort_moves port _ _)).trans (dropHead_moves ?_)
  cases port <;> exact hq1

theorem pMismatch_moves (ha : s.portP.asm = none) (hq : s.portP.queue ≠ []) : Moves 0 0 s (pMismatch s) := by
  unfold pMismatch
  extract_lets s1 request s2
  have h1 : Moves 0 0 s s1 := takeOver_moves (port := .p) ha
  have hq1 : s1.portP.queue ≠ [] := takeOver_queue_ne_nil (port := .p) hq
  split
  · exact h1.trans (modPort_moves fun hs => ⟨⟨hs.fits, fun hd => by cases hd⟩, rfl⟩)
  · have h2 : Moves 0 0 s s2 := (h1.trans (countPort_moves .p _ s1)).trans (dropHead_moves hq1)
    split
    · exact h2.trans (moves_of_stock (stock_failExchange s2))
    · exact h2

theorem txSent_moves (hq : (s.port port).queue ≠ []) : Moves 0 0 s (txSent port s) := by
  unfold txSent
  extract_lets request s1 s2
  have h1 : Moves 0 0 s s1 := modPort_moves_none rfl
  have h2 : Moves 0 0 s s2 := h1.trans (dropHead_moves (by cases port <;> exact hq))
  split
  · exact h2.trans (moves_of_stock rfl)
  · exact h2

/-- The head of a port that waits for a quiet line is sent (R132). -/
theorem send_moves (h : maySend (s.port port) s.now = true) (f : Line → Line) :
    Moves 0 0 s (s.modPort port fun q => { q with phase := .sending, line := f q.line, armed := false }) := by
  simp only [maySend, Bool.and_eq_true, Bool.not_eq_true', List.isEmpty_eq_false_iff, Option.isNone_iff_eq_none] at h
  obtain ⟨⟨⟨⟨_, hq⟩, _⟩, ha⟩, _⟩ := h
  exact modPort_moves fun hs =>
    ⟨⟨hs.fits, fun _ => ⟨ha, Nat.ne_of_gt (List.length_pos_iff.mpr hq)⟩⟩, rfl⟩

end

/-! ### The resets (R141) -/

theorem resetPart_holds (s : State) : (stock (resetPart s)).Holds 0 := by
  have hloaded : (stock (loaded (storeFound s) (safetyFound s) s)).Holds 0 := by
    refine ⟨rfl, Nat.zero_le _, fun port => ?_⟩
    cases port <;> exact ⟨Nat.zero_le _, fun h => by cases h⟩
  unfold resetPart settleReset
  extract_lets s1
  have h1 : stock s1 = stock (loaded (storeFound s) (safetyFound s) s) := by
    simp only [s1]
    split
    · exact stock_requestSafetyWrite _
    · rfl
  refine Moves.behind (settleNotices_moves _) ?_ 0 hloaded
  split
  · exact h1
  · exact h1

end Sys2Proof.Machine
end

section
/-! Every step keeps the buffers (R131, R137, R154). -/

namespace Sys2Proof.Machine

/-- A command leaves each buffer in one place. -/
def StepHolds (o : Host.Outcome State Fault Refusal) : Prop := ∀ t, o = .next t → (stock t).Holds 0

theorem stepHolds_next {t : State} (h : (stock t).Holds 0) : StepHolds (.next t) := by
  rintro _ ⟨⟩; exact h

section
variable {s : State} {cause : Bool} {effect : State → State}

/-- An event holds the buffers if its effect moves none away. -/
theorem act_holds (h : (stock s).Holds 0) (he : cause = true → Moves 0 0 s (effect s)) : StepHolds (act cause effect s) := by
  cases cause with
  | false => exact stepHolds_next h
  | true => exact stepHolds_next ((he rfl).trans (finish_moves _) 0 h)

theorem act_stock (h : (stock s).Holds 0) (he : stock (effect s) = stock s) : StepHolds (act cause effect s) :=
  act_holds h fun _ => moves_of_stock he

theorem requested_holds (op : Op) (obj idx : Byte) (q : Req) (h : (stock s).Holds 0) :
    StepHolds (requested op obj idx q s) :=
  act_holds h fun _ => request_moves s op obj idx q

/-- A port that sends has a head and assembles nothing (R126, R131). -/
theorem Stock.Holds.sends {n : Nat} (h : (stock s).Holds n) {port : Port} (hp : sendingNow (s.port port) = true) :
    (s.port port).asm = none ∧ (s.port port).queue ≠ [] :=
  ((portLoad_sound_iff _).mp (stock_port s port ▸ h.ports port)).2 (of_decide_eq_true hp)

end

/-- Every command holds the buffers. -/
theorem exec_holds (c : Instr) {s : State} (h : (stock s).Holds 0) : StepHolds (exec c s) := by
  cases c with dsimp only [exec]
  | powerOn => exact stepHolds_next (resetPart_holds s)
  | pinReset => exact stepHolds_next (resetPart_holds s)
  | restartTaken =>
    refine stepHolds_next ?_
    split
    · exact resetPart_holds s
    · exact h
  | rxFirstCharacter port =>
    refine act_holds h fun hb => ?_
    simp only [mayBegin, sendingNow, Bool.and_eq_true, Option.isNone_iff_eq_none, Bool.not_eq_true',
      decide_eq_false_iff_not] at hb
    obtain ⟨⟨⟨_, ha⟩, hp⟩, _⟩ := hb
    exact beginAssembly_moves ha hp
  | rxTelegramEnd port chars => exact act_holds h fun _ => telegramEnd_moves chars
  | startupGraceExpiry =>
    unfold execStartupGraceExpiry
    exact act_holds h fun _ => (evaluateZones_moves _ _).behind rfl
  | hourWindowBoundary =>
    unfold execHourWindowBoundary
    exact act_holds h fun _ => evaluateZones_moves s _
  | dutyPortionEnd z => exact act_holds h fun _ => evaluateZones_moves s [z]
  | runSenseChange level => exact act_stock h rfl
  | lockoutSenseChange level => exact act_stock h rfl
  | runRise => exact act_stock h (stock_runRise s)
  | runFall => exact act_stock h (stock_runFall s)
  | lockoutTaken => exact act_holds h fun _ => lockoutTaken_moves s
  | lockoutReleased => exact act_stock h (stock_recLockoutReleased _)
  | minOffElapsed => exact act_stock h (testSupervisor_steers s).stock
  | minOnExpiry => exact act_stock h (testSupervisor_steers _).stock
  | startWindowExpiry => exact act_holds h fun _ => (raiseEvent_moves _ _).behind rfl
  | pumpOverrunExpiry => exact act_stock h (dropPump_steers s).stock
  | holdExtendExpiry => exact act_stock h rfl
  | retryDue => exact act_holds h fun _ => decideAttempt_moves s
  | safetyWriteStart => exact act_stock h rfl
  | safetyWriteComplete => exact act_stock h ((stock_startNextWrite _).trans (stock_recWriteDone _))
  | resetPulseEnd => exact act_stock h (stock_enterConfirming s)
  | confirmTimeout => exact act_holds h fun _ => attemptNotCleared_moves s
  | provingComplete => exact act_stock h rfl
  | resetHistoryLapse => exact act_stock h rfl
  | deliveryTimeout => exact act_stock h (stock_endDelivery s _)
  | staleTimerExpiry => exact act_stock h rfl
  | serviceHoldExpiry => exact act_stock h rfl
  | breakEntry port => exact act_holds h fun _ => enterBreak_moves
  | breakExit port => exact act_holds h fun _ => leaveBreak_moves
  | quietWaitMet port => exact act_holds h fun hs => send_moves hs _
  | earlyCollision r ch =>
    refine act_holds h fun hc => ?_
    simp only [Bool.and_eq_true] at hc
    obtain ⟨ha, hq⟩ := h.sends hc.1.1
    exact earlyCollision_moves ha hq
  | lateCollision r ch =>
    refine act_holds h fun hc => ?_
    simp only [Bool.and_eq_true] at hc
    obtain ⟨ha, hq⟩ := h.sends hc.1
    exact lateCollision_moves ha hq
  | backoffEnd r =>
    exact act_holds h fun _ => modPort_moves fun hs => ⟨⟨hs.fits, fun hd => by cases hd⟩, rfl⟩
  | pTxMismatch =>
    refine act_holds h fun hc => ?_
    obtain ⟨ha, hq⟩ := h.sends (port := .p) hc
    exact pMismatch_moves ha hq
  | pRetryPauseEnd => exact act_holds h fun _ => modPort_moves fun hs => ⟨⟨hs.fits, fun hd => by cases hd⟩, rfl⟩
  | txSent port => exact act_holds h fun hc => txSent_moves (h.sends hc).2
  | holdOffRepeat => exact act_holds h fun _ => (broadcastHoldOff_moves 30 _).behind rfl
  | nodeAgingCheck => exact act_holds h fun _ => (ageNodes_moves s).trans (moves_of_stock rfl)
  | stormIntervalStart => exact act_stock h rfl
  | broadcastIntervalStart => exact act_stock h rfl
  | pollDue => exact act_stock h rfl
  | responseWindowClose => exact act_holds h fun _ => silentWindow_moves s
  | valveTravelExpiry slot => exact act_stock h (stock_changeRecord s slot _)
  | noticeRepeat => exact act_holds h fun _ => (composeNotices_moves _).behind rfl
  | read obj idx q => exact requested_holds _ _ _ q h
  | enrolWrite idx q => exact requested_holds _ _ _ q h
  | zoneWrite idx q => exact requested_holds _ _ _ q h
  | reserveSetbackWrite q => exact requested_holds _ _ _ q h
  | pollWrite idx q => exact requested_holds _ _ _ q h
  | strapStagedWrite idx q => exact requested_holds _ _ _ q h
  | scalingWrite item q => exact requested_holds _ _ _ q h
  | filterShapeWrite item q => exact requested_holds _ _ _ q h
  | tankLevelsWrite item q => exact requested_holds _ _ _ q h
  | burnerSetWrite item q => exact requested_holds _ _ _ q h
  | recoverySetWrite item q => exact requested_holds _ _ _ q h
  | relaySettingsWrite item q => exact requested_holds _ _ _ q h
  | noticeMaskWrite q => exact requested_holds _ _ _ q h
  | counterClear obj idx q => exact requested_holds _ _ _ q h
  | mgmtWrite obj idx q => exact requested_holds _ _ _ q h
  | swapStrap idx q => exact requested_holds _ _ _ q h
  | store idx q => exact requested_holds _ _ _ q h
  | storeWriteStart =>
    refine act_stock h ?_
    unfold startStoreWrite
    split <;> rfl
  | storeComplete verified => exact act_holds h fun _ => endStore_moves s verified
  | clearNotice idx q => exact requested_holds _ _ _ q h
  | resetBurner idx q => exact requested_holds _ _ _ q h
  | clearHardLock idx q => exact requested_holds _ _ _ q h
  | holdTank idx q => exact requested_holds _ _ _ q h
  | forgetLevel idx q => exact requested_holds _ _ _ q h
  | restart idx q => exact requested_holds _ _ _ q h
  | segmentLineChange port level =>
    refine act_holds h fun _ => modPort_moves_none ?_
    unfold lineChange
    cases level <;> rfl

theorem step_holds {s : State} (h : (stock s).Holds 0) : StepHolds (step s) := by
  unfold step
  split
  · unfold idle
    split
    · exact stepHolds_next h
    · rintro _ ⟨⟩
  · exact exec_holds _ h

/-- Settles O58: the stock holds every buffer once, and whatever a command takes from one place it puts in another. -/
theorem stepKeepsTheBuffers : Obligations.StepKeepsTheBuffers := fun s t h hstep =>
  (buffersSound_iff t).mpr (step_holds ((buffersSound_iff s).mp h) t hstep)

end Sys2Proof.Machine
end

section
/-! SUPPORT. Commands that change ports and the pool alone: the frame they keep, and the settled state that they leave as it is. -/

namespace Sys2Proof.Machine

/-! ### Frames -/

theorem OnlyPortsChange.refl (s : State) : OnlyPortsChange s s :=
  ⟨⟨rfl, rfl, rfl⟩, ⟨rfl, rfl, rfl, rfl⟩, ⟨rfl, rfl, rfl⟩, rfl, rfl, rfl⟩

theorem OnlyPortsChange.trans {s t u : State} (h : OnlyPortsChange s t) (k : OnlyPortsChange t u) : OnlyPortsChange s u := by
  obtain ⟨⟨h1, h2, h3⟩, ⟨h4, h5, h6, h7⟩, ⟨h8, h9, h10⟩, h11, h12, h13⟩ := h
  obtain ⟨⟨k1, k2, k3⟩, ⟨k4, k5, k6, k7⟩, ⟨k8, k9, k10⟩, k11, k12, k13⟩ := k
  exact ⟨⟨k1.trans h1, k2.trans h2, k3.trans h3⟩, ⟨k4.trans h4, k5.trans h5, k6.trans h6, k7.trans h7⟩,
    ⟨k8.trans h8, k9.trans h9, k10.trans h10⟩, k11.trans h11, k12.trans h12, k13.trans h13⟩

theorem Offers.onlyPorts {s t : State} (h : Offers s t) : OnlyPortsChange s t :=
  ⟨⟨h.now, h.pending, h.freeIdx⟩, ⟨h.relay, h.zone, h.sup, h.recov⟩, ⟨h.level, h.vol, h.acct⟩, h.sched, h.mgmt, h.nv⟩

theorem setPort_onlyPorts (port : Port) (v : PortState) (s : State) : OnlyPortsChange s (s.setPort port v) := by
  cases port <;> exact .refl s

theorem modPort_onlyPorts (port : Port) (f : PortState → PortState) (s : State) : OnlyPortsChange s (s.modPort port f) :=
  setPort_onlyPorts port _ s

/-! ### Ports -/

theorem modPort_eq_setPort (port : Port) (f : PortState → PortState) (s : State) :
    s.modPort port f = s.setPort port (f (s.port port)) := rfl

theorem setPort_setPort (port : Port) (v w : PortState) (s : State) : (s.setPort port v).setPort port w = s.setPort port w := by
  cases port <;> rfl

theorem setPort_port (port : Port) (s : State) : s.setPort port (s.port port) = s := by cases port <;> rfl

theorem setPort_pool (port : Port) (v : PortState) (s : State) : (s.setPort port v).pool = s.pool := by cases port <;> rfl

theorem setPort_now (port : Port) (v : PortState) (s : State) : (s.setPort port v).now = s.now := by cases port <;> rfl

theorem setFree_setPort (n : Nat) (port : Port) (v : PortState) (s : State) :
    setFree n (s.setPort port v) = ({ s with pool := { s.pool with free := n } } : State).setPort port v := by
  cases port <;> rfl

/-! ### Settled states -/

/-- A port that keeps its mode, changed, leaves a settled state settled (R177). -/
theorem Settled.setPort {s : State} (h : Settled s) {port : Port} {v : PortState} (hm : v.mode = (s.port port).mode) :
    Settled (s.setPort port v) := by
  have mode (other : Port) : ((s.setPort port v).port other).mode = (s.port other).mode := by
    by_cases ho : other = port
    · subst ho; rw [port_setPort_self, hm]
    · rw [port_setPort_other ho]
  have hH : (s.setPort port v).portH.mode = s.portH.mode := mode .h
  have hY : (s.setPort port v).portY.mode = s.portY.mode := mode .y
  have hP : (s.setPort port v).portP.mode = s.portP.mode := mode .p
  have he : enabledSet (s.setPort port v) = enabledSet s := by
    cases port <;> exact enabledSet_congr hH hY hP rfl rfl rfl rfl rfl rfl rfl
  cases port <;> exact h.congr rfl he rfl rfl

theorem Settled.setPool {s : State} (h : Settled s) (v : Pool) : Settled (s.setPool v) := h.congr rfl rfl rfl rfl

/-- An event whose cause does not hold changes nothing (log 2). -/
theorem act_not {cause : Bool} {effect : State → State} {s : State} (hc : cause = false) : act cause effect s = .next s := by
  rw [act, if_neg (by simp [hc])]

/-- An event that changes one port alone, in its mode not. -/
theorem act_setPort {cause : Bool} {effect : State → State} {s : State} {port : Port} {v : PortState} (h : Settled s)
    (hc : cause = true) (he : effect s = s.setPort port v) (hm : v.mode = (s.port port).mode) :
    act cause effect s = .next (s.setPort port v) :=
  act_next hc he (h.setPort hm)

/-! ### The line -/

theorem lineIdleFor_iff {q : PortState} {ticks now : Nat} :
    lineIdleFor q ticks now = true ↔ ∃ since, q.line = .idle since ∧ since + ticks ≤ now := by
  unfold lineIdleFor
  cases q.line <;> simp

theorem sendingNow_eq_false {q : PortState} (h : q.phase ≠ .sending) : sendingNow q = false := by simp [sendingNow, h]

end Sys2Proof.Machine
end

section
/-! Line events, the pool's hold-offs, and the repeated NOTICE (R130 to R139, R177). -/

namespace Sys2Proof.Machine

/-- Settles O37: each event changes one port alone and leaves the state settled. -/
theorem lineEventsMoveTheHead : Obligations.LineEventsMoveTheHead := by
  intro port r since s hs
  dsimp only [exec, execQuietWaitMet, execBackoffEnd, execPRetryPauseEnd, execSegmentLineChange]
  refine ⟨fun hm hq hp ha hl hidle => ?_, fun hp hover => ?_, fun hp hover => ?_, fun hp ha hl => ?_, fun hp ha hl => ?_⟩
  · have hquiet : lineIdleFor (s.port port) quietTicks s.now = true := lineIdleFor_iff.mpr ⟨since, hl, hidle⟩
    refine act_setPort hs (by simp [maySend, hm, hq, hp, ha, hquiet]) ?_ rfl
    rw [modPort_eq_setPort, hl]; rfl
  · exact act_setPort hs (by simp [backoffOver, hp, hover]) rfl rfl
  · exact act_setPort (port := .p) hs (by simp [pauseOver, hp, hover]) rfl rfl
  · refine act_setPort hs (by simp [sendingNow_eq_false hp, ha, lineIsIdle, hl]) ?_ rfl
    rw [modPort_eq_setPort, lineChange, if_pos rfl, lineIdleFor, hl]; rfl
  · have hnot : lineIsIdle (s.port port) = false := by
      unfold lineIsIdle
      split
      · next m hm => exact absurd hm (hl m)
      · rfl
    exact act_setPort hs (by simp [sendingNow_eq_false hp, ha, hnot]) rfl rfl

/-! ### The pool's hold-offs (R138, R139) -/

/-- A port's queue with one telegram more. -/
def queueing (t : Telegram) (q : PortState) : PortState := { q with queue := q.queue ++ [{ tel := t, mark := .plain }] }

/-- A telegram joins the queue of a port: it is ACTIVE and its queue has room (R131). -/
def HasRoom (q : PortState) : Prop := q.mode = .active ∧ q.queue.length < queueCap

/-- With a free buffer and room in the queue a telegram of the pool's own joins it (R139). -/
theorem generateRaw_joins {port : Port} {t : Telegram} {s : State} (hf : s.pool.free ≠ 0) (hq : HasRoom (s.port port)) :
    generateRaw port t s = (setFree (s.pool.free - 1) s).setPort port (queueing t (s.port port)) := by
  obtain ⟨hm, hroom⟩ := hq
  rw [generateRaw, if_neg hf, offerItem]
  simp [setFree_port, hm, hroom, queueing]

/-- With two free buffers and room in both queues a hold-off is broadcast on H and on Y. -/
theorem broadcastHoldOff_joins {n : Nat} {s : State} (hf : 2 ≤ s.pool.free) (hH : HasRoom s.portH) (hY : HasRoom s.portY) :
    broadcastHoldOff n s =
      { s with
        pool := { s.pool with free := s.pool.free - 2 }
        portH := queueing (holdOffTel broadcast n) s.portH, portY := queueing (holdOffTel broadcast n) s.portY } := by
  have hfirst : generateRaw .h (holdOffTel broadcast n) s = _ := generateRaw_joins (by omega) hH
  have hleft : s.pool.free - 1 ≠ 0 := by omega
  rw [broadcastHoldOff, hfirst]
  exact generateRaw_joins (port := .y) (s := (setFree (s.pool.free - 1) s).setPort .h _) hleft hY

/-- A hold-off's payload is one byte (R124). -/
theorem holdOffTel_eq (n : Nat) : holdOffTel broadcast n = composeTel 127 0x30 [BitVec.ofNat 8 n] := by
  rw [holdOffTel, beBytes_one]; rfl

/-- Settles O41: the thresholds, and a broadcast that both queues have room for. -/
theorem poolHoldsOffTheRooms : Obligations.PoolHoldsOffTheRooms := by
  intro s room add hroom hadd hH hY
  have hqueue (n : Nat) (q : PortState) : queueing (holdOffTel broadcast n) q = add n q := by
    rw [hadd, holdOffTel_eq]; rfl
  have hH : HasRoom s.portH := (hroom _).mp hH
  have hY : HasRoom s.portY := (hroom _).mp hY
  refine ⟨fun hh hf => ?_, fun hh hf => ?_, fun since hs hh hr hdue hf => ?_⟩
  · have hheld : takeBuffer s = enterHeld (setFree 6 s) := by simp [takeBuffer, setFree, hh, hf, holdThreshold]
    have hjoins := broadcastHoldOff_joins (n := 30) (s := (setFree 6 s).setPool
      { s.pool with free := 6, held := true, holdEntry := bump s.pool.holdEntry, repeatFrom := some s.now })
      (by decide : 2 ≤ 6) hH hY
    rw [hqueue, hqueue] at hjoins
    exact hheld.trans hjoins
  · have hopen : returnBuffer s = enterOpen (setFree 14 s) := by simp [returnBuffer, setFree, hh, hf, openThreshold]
    have hjoins := broadcastHoldOff_joins (n := 0) (s := (setFree 14 s).setPool
      { s.pool with free := 14, held := false, repeatFrom := none }) (by decide : 2 ≤ 14) hH hY
    rw [hqueue, hqueue] at hjoins
    exact hopen.trans hjoins
  · have hbroadcast := broadcastHoldOff_joins (n := 30) (s := s.setPool { s.pool with repeatFrom := some s.now }) hf hH hY
    rw [hqueue, hqueue] at hbroadcast
    have hover : holdOffRepeatDue s = true := by
      rw [holdOffRepeatDue, hh, Bool.true_and]
      exact ranOut_of hr (by simpa [holdOffRepeatTicks, ticksPerSecond] using hdue)
    have hset : Settled (broadcastHoldOff 30 (s.setPool { s.pool with repeatFrom := some s.now })) :=
      (broadcastHoldOff_offers 30 _).settled (hs.setPool _)
    rw [hbroadcast] at hset
    dsimp only [exec, execHoldOffRepeat]
    exact act_next hover hbroadcast hset

/-! ### The repeated NOTICE (R177) -/

/-- With two free buffers, no threshold near, and room in both queues the NOTICE joins them (R177). -/
theorem composeNotices_joins {s : State} (hf : 2 ≤ s.pool.free) (hh : s.pool.held = true ∨ holdThreshold + 2 < s.pool.free)
    (hH : HasRoom s.portH) (hY : HasRoom s.portY) :
    composeNotices s =
      { s with
        pool := { s.pool with free := s.pool.free - 2 }
        portH := queueing (noticeTel s) s.portH, portY := queueing (noticeTel s) s.portY } := by
  have hfirst := generate_joins .h (noticeTel s) .plain s (by omega) (hh.imp_right fun h => by omega) hH.1 hH.2
  have hsecond := generate_joins .y (noticeTel s) .plain
    ((setFree (s.pool.free - 1) s).setPort .h (queueing (noticeTel s) s.portH))
    (by show s.pool.free - 1 ≠ 0; omega)
    (hh.imp_right fun h => by show holdThreshold < s.pool.free - 1 - 1; omega) hY.1 hY.2
  rw [composeNotices, hfirst]
  exact congrArg Prod.fst hsecond

/-- Settles O48: the NOTICE is generated for H and then for Y, and neither buffer crosses a threshold. -/
theorem noticeIsRepeated : Obligations.NoticeIsRepeated := by
  intro since item s hs hne hr hdue hf hh hHm hHq hYm hYq hitem
  have hline : s.mgmt.line = true := hs.notices.mpr hne
  have hover : noticeRepeatDue s = true := by
    rw [noticeRepeatDue, hline, Bool.true_and]
    exact ranOut_of hr (by simpa [noticeRepeatTicks, ticksPerSecond] using hdue)
  have hset : Settled (composeNotices (s.setMgmt { s.mgmt with repeatFrom := some s.now })) :=
    (composeNotices_offers _).settled ⟨hs.quiet, hs.notices, fun h0 => absurd h0 hne⟩
  have hjoins := composeNotices_joins (s := s.setMgmt { s.mgmt with repeatFrom := some s.now }) hf hh ⟨hHm, hHq⟩ ⟨hYm, hYq⟩
  have htel : noticeTel (s.setMgmt { s.mgmt with repeatFrom := some s.now }) = item.tel := by rw [hitem]; rfl
  have hmark : item = { tel := item.tel, mark := .plain } := by rw [hitem]
  rw [htel] at hjoins
  rw [hjoins] at hset
  rw [hmark]
  dsimp only [exec, execNoticeRepeat]
  exact act_next hover hjoins hset

end Sys2Proof.Machine
end

section
/-! SUPPORT. What a port's assembly and the drop of its head make of the port (`Offers` from the port set to what the command makes
of it), and arbitration after them (R126, R131, R138, R139, R161). -/

namespace Sys2Proof.Machine

/-! ### A port changed, and offers -/

section
variable {port : Port} {v : PortState} {s t : State}

theorem Offers.self (h : Offers (s.setPort port v) t) : PortOffered v (t.port port) := by
  have hp := h.port port
  rwa [port_setPort_self] at hp

theorem Offers.other (h : Offers (s.setPort port v) t) {other : Port} (ho : other ≠ port) :
    PortOffered (s.port other) (t.port other) := by
  have hp := h.port other
  rwa [port_setPort_other ho] at hp

/-- The port changed once more: what was offered to it is in the change. -/
theorem Offers.modPort (h : Offers (s.setPort port v) t) (f : PortState → PortState) :
    Offers (s.setPort port (f (t.port port))) (t.modPort port f) := by
  cases port
  · exact ⟨h.now, .refl _, h.portY, h.portP, h.relay, h.zone, h.sup, h.recov, h.sched, h.level, h.vol, h.acct, h.mgmt, h.nv,
      h.freeIdx, h.pending⟩
  · exact ⟨h.now, h.portH, .refl _, h.portP, h.relay, h.zone, h.sup, h.recov, h.sched, h.level, h.vol, h.acct, h.mgmt, h.nv,
      h.freeIdx, h.pending⟩
  · exact ⟨h.now, h.portH, h.portY, .refl _, h.relay, h.zone, h.sup, h.recov, h.sched, h.level, h.vol, h.acct, h.mgmt, h.nv,
      h.freeIdx, h.pending⟩

theorem Offers.onlyPorts_of_setPort (h : Offers (s.setPort port v) t) : OnlyPortsChange s t :=
  (setPort_onlyPorts port v s).trans h.onlyPorts

theorem Offers.settled_of_setPort (h : Offers (s.setPort port v) t) (hs : Settled s) (hm : v.mode = (s.port port).mode) :
    Settled t :=
  h.settled (hs.setPort hm)

end

theorem port_modPort_self (port : Port) (f : PortState → PortState) (s : State) :
    (s.modPort port f).port port = f (s.port port) :=
  port_setPort_self port _ s

/-! ### An assembly begins (R126) -/

/-- The port with the telegram on the line in assembly. -/
def assembling (granted : Bool) (now : Nat) (q : PortState) : PortState :=
  { q with asm := some { hasBuffer := granted, start := now }, line := carrying now q.line, armed := false }

theorem beginAssembly_eq (port : Port) (s : State) :
    beginAssembly port s = if mayReceive port s.pool.free then
      takeBuffer (s.setPort port (assembling (mayReceive port s.pool.free) s.now (s.port port)))
      else s.setPort port (assembling (mayReceive port s.pool.free) s.now (s.port port)) := rfl

theorem beginAssembly_offers (port : Port) (s : State) :
    Offers (s.setPort port (assembling (mayReceive port s.pool.free) s.now (s.port port))) (beginAssembly port s) := by
  rw [beginAssembly_eq]
  split
  · exact takeBuffer_offers _
  · exact .refl _

/-- What a port that stops sending becomes: the telegram on the line is in its assembly (R133, R136). -/
def takenOver (port : Port) (s : State) : PortState :=
  assembling (mayReceive port s.pool.free) s.now { s.port port with phase := .wait }

theorem takeOver_offers (port : Port) (s : State) :
    Offers (s.setPort port (takenOver port s))
      (beginAssembly port (s.modPort port fun q => { q with phase := .wait })) := by
  have h := beginAssembly_offers port (s.modPort port fun q => { q with phase := .wait })
  rwa [modPort_eq_setPort, setPort_setPort, setPort_pool, setPort_now, port_setPort_self] at h

theorem mayReceive_eq (port : Port) (free : Nat) :
    mayReceive port free = if port = .p then decide (0 < free) else decide (2 < free) := by
  cases port <;> rfl

theorem mayReceive_room (r : Room) (free : Nat) : mayReceive (roomPort r) free = decide (2 < free) := by cases r <;> rfl

/-! ### The head dropped (R131) -/

/-- The port with its head dropped. -/
def headless (q : PortState) : PortState := { q with queue := q.queue.drop 1, phase := .wait, attempts := 0 }

theorem dropHead_eq (port : Port) (s : State) : dropHead port s = returnBuffer (s.setPort port (headless (s.port port))) := rfl

theorem Offers.dropHead {port : Port} {v : PortState} {s t : State} (h : Offers (s.setPort port v) t) :
    Offers (s.setPort port (headless (t.port port))) (dropHead port t) :=
  (h.modPort headless).trans (returnBuffer_offers _)

/-! ### Arbitration after the port (R160, R161) -/

/-- With no NOTICE owed the end of a command only arbitrates. -/
theorem finish_eq_arbitrate {s : State} (hn : NoticeSettled s) (ht : enabledSet s = 0 → s.mgmt.repeatFrom = none)
    (hm : (arbitrate s).mgmt = s.mgmt) : finish s = arbitrate s := by
  refine settleNotices_settled _ ?_ ?_
  · rw [hm, (arbitrate_finishes s).enabledSet]; exact hn
  · rw [hm, (arbitrate_finishes s).enabledSet]; exact ht

/-- Arbitration keeps the management unit, and counts neither misses nor retries (R161, R169). -/
structure KeepsTallies (s t : State) : Prop where
  mgmt : t.mgmt = s.mgmt
  miss : t.sched.ctr.miss = s.sched.ctr.miss
  retry : t.sched.ctr.retry = s.sched.ctr.retry

theorem KeepsTallies.trans {a b c : State} (h : KeepsTallies a b) (k : KeepsTallies b c) : KeepsTallies a c :=
  ⟨k.mgmt.trans h.mgmt, k.miss.trans h.miss, k.retry.trans h.retry⟩

theorem Offers.keepsTallies {s t : State} (h : Offers s t) : KeepsTallies s t := ⟨h.mgmt, by rw [h.sched], by rw [h.sched]⟩

theorem beginRequest_keepsTallies (k : ExKind) (slot : Nat) (e : PollEntry) (s : State) :
    KeepsTallies s (beginRequest k slot e s) := by
  have h := (generate_offers .p (requestTel k (BitVec.ofNat 8 e.addr)) .request s).keepsTallies
  unfold beginRequest
  dsimp only
  split
  · next he => rw [he] at h; exact h
  · next s' he =>
    rw [he] at h
    refine h.trans ?_
    unfold countRequest
    split <;> exact ⟨rfl, rfl, rfl⟩

theorem beginRelay_keepsTallies (t : Telegram) (room : Room) (s : State) : KeepsTallies s (beginRelay t room s) := by
  have h : KeepsTallies s
      (moveToQueue .p t .request (s.setSched { s.sched with relayList := s.sched.relayList.drop 1 })).1 :=
    KeepsTallies.trans (b := s.setSched { s.sched with relayList := s.sched.relayList.drop 1 }) ⟨rfl, rfl, rfl⟩
      (moveToQueue_offers .p t .request _).keepsTallies
  unfold beginRelay
  dsimp only
  split
  · next he => rw [he] at h; exact h
  · next he => rw [he] at h; exact h.trans ⟨rfl, rfl, rfl⟩

theorem arbitrate_keepsTallies (s : State) : KeepsTallies s (arbitrate s) := by
  have chosen (u : State) : KeepsTallies u (chooseExchange u) := by
    unfold chooseExchange
    split
    · exact beginRequest_keepsTallies _ _ _ u
    · split
      · exact beginRelay_keepsTallies _ _ u
      · split
        · next i e _ =>
          have h := beginRequest_keepsTallies (.poll i) i e u
          dsimp only
          split
          · exact h.trans ⟨rfl, rfl, rfl⟩
          · exact h
        · exact ⟨rfl, rfl, rfl⟩
  unfold arbitrate
  split
  · dsimp only
    split
    · exact KeepsTallies.trans (b := s.setSched { s.sched with wake := false }) ⟨rfl, rfl, rfl⟩ (chosen _)
    · exact ⟨rfl, rfl, rfl⟩
  · exact ⟨rfl, rfl, rfl⟩

end Sys2Proof.Machine
end

section
/-! Transmission: collisions, mismatches on P, and telegrams sent (R133 to R136, R160). -/

namespace Sys2Proof.Machine

/-- A head dropped from a queue to which telegrams have been offered. -/
theorem drop_one_append {α : Type} {xs : List α} (h : xs ≠ []) (ys : List α) : (xs ++ ys).drop 1 = xs.drop 1 ++ ys := by
  cases xs with
  | nil => exact absurd rfl h
  | cons x xs => rfl

/-! ### Telegrams sent (R135, R136, R160) -/

/-- The port that has sent its head to the last stop bit: the line is idle, and the telegram counted. -/
def sentPort (now : Nat) (q : PortState) : PortState :=
  { q with line := .idle now, armed := false, ctr := { q.ctr with txSent := bump q.ctr.txSent } }

theorem txSent_eq (port : Port) (s : State) : txSent port s =
    if headIsRequest (s.port port) then openWindow (dropHead port (s.modPort port (sentPort s.now)))
    else dropHead port (s.modPort port (sentPort s.now)) := rfl

/-- The head sent and dropped, with the pool away from its threshold (R131, R138). -/
theorem dropHead_calm {port : Port} {s : State} (h : s.pool.held = false ∨ s.pool.free < 13) :
    (dropHead port s).pool = { s.pool with free := s.pool.free + 1 } ∧
      (dropHead port s).port port = headless (s.port port) := by
  have hpool := setPort_pool port (headless (s.port port)) s
  rw [dropHead_eq, returnBuffer_calm (by rw [hpool]; exact h.imp_right Nat.succ_lt_succ), hpool, setFree_port,
    port_setPort_self]
  exact ⟨congrArg (fun v : Pool => { v with free := s.pool.free + 1 }) hpool, rfl⟩

theorem openWindow_settled {s : State} (h : Settled s) : Settled (openWindow s) :=
  h.congr rfl (enabledSet_congr rfl rfl rfl rfl rfl rfl rfl rfl rfl rfl) rfl rfl

/-- Settles O40: the head leaves, its buffer returns, and on P the window opens. -/
theorem sentTelegramLeavesTheQueue : Obligations.SentTelegramLeavesTheQueue := by
  intro port q s hs hq hp hne
  subst hq
  have hsent : Offers (s.setPort port (sentPort s.now (s.port port))) (s.modPort port (sentPort s.now)) := .refl _
  have hoffers := hsent.dropHead
  have hport : (s.modPort port (sentPort s.now)).port port = sentPort s.now (s.port port) := port_modPort_self ..
  have hpool : (s.modPort port (sentPort s.now)).pool = s.pool := setPort_pool ..
  have hcalm := dropHead_calm (port := port) (s := s.modPort port (sentPort s.now))
  rw [hport] at hoffers hcalm
  rw [hpool] at hcalm
  have hexec : exec (.txSent port) s = .next (finish (txSent port s)) := act_finish (decide_eq_true hp)
  rw [txSent_eq] at hexec
  generalize dropHead port (s.modPort port (sentPort s.now)) = u at hoffers hcalm hexec
  have hset : Settled u := hoffers.settled_of_setPort hs rfl
  obtain ⟨hclock, hheat, hoil, hsched, hmgmt, hnv⟩ := hoffers.onlyPorts_of_setPort
  obtain ⟨its, fl, qf, hu⟩ := hoffers.self
  have hits (hc : s.pool.held = false ∨ s.pool.free < 13) : its = [] := by
    have hqueue := congrArg PortState.queue ((hcalm hc).2.symm.trans hu)
    simpa using hqueue
  cases hr : headIsRequest (s.port port) with
  | true =>
    rw [hr, if_pos rfl, finish_of_settled (openWindow_settled hset)] at hexec
    have hkeep : (openWindow u).port port = u.port port := by cases port <;> rfl
    refine ⟨_, its, hexec, ?_⟩
    rw [hkeep, hu]
    refine ⟨rfl, rfl, rfl, rfl, rfl, rfl, rfl, fun _ => ?_, nofun, fun hc => ⟨(hcalm hc).1, hits hc⟩, hclock,
      hheat, hoil, hmgmt, hnv⟩
    rw [← hsched, ← hclock.1]; rfl
  | false =>
    rw [hr, if_neg (by simp), finish_of_settled hset] at hexec
    refine ⟨_, its, hexec, ?_⟩
    rw [hu]
    exact ⟨rfl, rfl, rfl, rfl, rfl, rfl, rfl, nofun, fun _ => hsched, fun hc => ⟨(hcalm hc).1, hits hc⟩, hclock,
      hheat, hoil, hmgmt, hnv⟩

/-! ### Collisions (R133 to R135) -/

section
variable {port : Port} {s : State}

/-- A late collision counted. -/
def lateCounted (q : PortState) : PortState := { q with ctr := { q.ctr with lateCollision := bump q.ctr.lateCollision } }

/-- An early collision counted, with the head's attempt (R134). -/
def earlyCounted (q : PortState) : PortState :=
  { q with attempts := q.attempts + 1, ctr := { q.ctr with collision := bump q.ctr.collision } }

/-- A head dropped for its eighth collision is counted. -/
def excessCounted (q : PortState) : PortState :=
  { q with ctr := { q.ctr with excessCollision := bump q.ctr.excessCollision } }

/-- The state in which the assembly has taken over the telegram on the line. -/
def takeOver (port : Port) (s : State) : State := beginAssembly port (s.modPort port fun q => { q with phase := .wait })

theorem lateCollision_eq : lateCollision port s = dropHead port ((takeOver port s).modPort port lateCounted) := rfl

/-- The head waits for `r` slots (R134). -/
def backingOff (r now : Nat) (q : PortState) : PortState := { q with phase := backoffPhase r now }

theorem earlyCollision_eq {u : State} {k : Nat} (hu : (takeOver port s).modPort port earlyCounted = u)
    (hk : (u.port port).attempts = k) : earlyCollision port s =
      if 8 ≤ k then dropHead port (u.modPort port excessCounted)
      else (u.setFreeIdx (u.freeIdx + 1)).modPort port (backingOff (backoffSlots u.freeIdx k) u.now) := by
  subst hu hk; rfl

end

/-- Settles O38: the assembly takes over the line; then the head is counted and backs off, or is dropped. -/
theorem collisionsBackOffOrDrop : Obligations.CollisionsBackOffOrDrop := by
  intro r ch k q s hs hq hp hk
  subst hq
  have htake : Offers (s.setPort (roomPort r) (takenOver (roomPort r) s)) (takeOver (roomPort r) s) := takeOver_offers ..
  obtain ⟨its, fl, qf, hv⟩ := htake.self
  have hgranted := mayReceive_room r s.pool.free
  refine ⟨fun h1 h4 => ?_, fun h5 => ?_⟩
  · have hexec : exec (.earlyCollision r ch) s = .next (finish (earlyCollision (roomPort r) s)) :=
      act_finish (by simp [sendingNow, hp, h1, h4])
    have hcount := htake.modPort earlyCounted
    have hself := port_modPort_self (roomPort r) earlyCounted (takeOver (roomPort r) s)
    rw [hv] at hself hcount
    generalize hu : (takeOver (roomPort r) s).modPort (roomPort r) earlyCounted = u at *
    rw [earlyCollision_eq (k := k) hu (by rw [hself, hk]; rfl)] at hexec
    by_cases h8 : 8 ≤ k
    · rw [if_pos h8] at hexec
      have hdrop := (hcount.modPort excessCounted).dropHead
      rw [port_modPort_self, hself] at hdrop
      rw [finish_of_settled (hdrop.settled_of_setPort hs rfl)] at hexec
      obtain ⟨⟨hnow, hpending, -⟩, hheat, hoil, hsched, hmgmt, hnv⟩ := hdrop.onlyPorts_of_setPort
      obtain ⟨its', fl', qf', ht⟩ := hdrop.self
      refine ⟨_, its ++ its', hexec, ?_⟩
      rw [ht]
      refine ⟨by rw [← hgranted]; rfl, rfl, fun h => absurd h8 (by omega), fun _ => ⟨rfl, rfl, fun hne => ?_, rfl⟩, hnow,
        hpending, hheat, hoil, hsched, hmgmt, hnv⟩
      exact (congrArg (· ++ its') (drop_one_append hne its)).trans (List.append_assoc ..)
    · rw [if_neg h8] at hexec
      obtain ⟨⟨hnow, hpending, hidx⟩, hheat, hoil, hsched, hmgmt, hnv⟩ := hcount.onlyPorts_of_setPort
      have hset : Settled (u.setFreeIdx (u.freeIdx + 1)) :=
        (hcount.settled_of_setPort hs rfl).congr rfl rfl rfl rfl
      have hkeep : (u.setFreeIdx (u.freeIdx + 1)).port (roomPort r) = u.port (roomPort r) := by cases r <;> rfl
      have hone := modPort_onlyPorts (roomPort r) (backingOff (backoffSlots u.freeIdx k) u.now)
        (u.setFreeIdx (u.freeIdx + 1))
      have hport := port_modPort_self (roomPort r) (backingOff (backoffSlots u.freeIdx k) u.now)
        (u.setFreeIdx (u.freeIdx + 1))
      have hend : Settled ((u.setFreeIdx (u.freeIdx + 1)).modPort (roomPort r) (backingOff (backoffSlots u.freeIdx k) u.now)) :=
        hset.setPort rfl
      rw [finish_of_settled hend] at hexec
      obtain ⟨⟨hnow', hpending', hidx'⟩, ⟨hrelay, hzone, hsup, hrecov⟩, ⟨hlevel, hvol, hacct⟩, hsched', hmgmt', hnv'⟩ := hone
      obtain ⟨hr, hz, hsu, hre⟩ := hheat
      obtain ⟨hl, hvo, hac⟩ := hoil
      refine ⟨_, its, hexec, ?_⟩
      rw [hport, hkeep, hself]
      refine ⟨by rw [← hgranted]; rfl, rfl, fun _ => ⟨backoffSlots u.freeIdx k, Nat.mod_lt _ (Nat.two_pow_pos _), hk.symm, rfl,
        ?_, hidx'.trans (congrArg (· + 1) hidx)⟩, fun h => absurd h h8, hnow'.trans hnow, hpending'.trans hpending,
        ⟨hrelay.trans hr, hzone.trans hz, hsup.trans hsu, hrecov.trans hre⟩,
        ⟨hlevel.trans hl, hvol.trans hvo, hacct.trans hac⟩, hsched'.trans hsched, hmgmt'.trans hmgmt, hnv'.trans hnv⟩
      rw [← hnow]; rfl
  · have hexec : exec (.lateCollision r ch) s = .next (finish (lateCollision (roomPort r) s)) :=
      act_finish (by simp [sendingNow, hp, h5])
    have hdrop := (htake.modPort lateCounted).dropHead
    rw [port_modPort_self, hv] at hdrop
    rw [lateCollision_eq, finish_of_settled (hdrop.settled_of_setPort hs rfl)] at hexec
    obtain ⟨its', fl', qf', ht⟩ := hdrop.self
    refine ⟨_, its ++ its', hexec, hdrop.onlyPorts_of_setPort, ?_⟩
    rw [ht]
    refine ⟨by rw [← hgranted]; rfl, rfl, rfl, fun hne => ?_, rfl, rfl⟩
    exact (congrArg (· ++ its') (drop_one_append hne its)).trans (List.append_assoc ..)

/-! ### Mismatches on P (R136, R160) -/

/-- The port pauses before the second attempt of its head. -/
def pausing (now : Nat) (q : PortState) : PortState := { q with attempts := 1, phase := .pause (now + slotTicks) }

/-- A head that failed twice is counted. -/
def failCounted (q : PortState) : PortState := { q with ctr := { q.ctr with txFail := bump q.ctr.txFail } }

theorem pMismatch_eq {s u : State} (hu : takeOver .p s = u) : pMismatch s =
    if u.portP.attempts = 0 then u.modPort .p (pausing u.now)
    else if headIsRequest u.portP then failExchange (dropHead .p (u.modPort .p failCounted))
    else dropHead .p (u.modPort .p failCounted) := by
  subst hu; rfl

/-- What fails with the line leaves no exchange, counts neither a miss nor a retry, and shows nothing of the nodes (R160). -/
theorem failExchange_spec (s : State) : ∃ d, failExchange s = s.setSched d ∧ d.exch = none ∧ d.relayList = s.sched.relayList ∧
    d.ctr = s.sched.ctr ∧ KeepsNodes s (s.setSched d) := by
  have due (u : State) (i : Nat) : KeepsNodes u (redecide i u) := by
    have h : KeepsNodes u (modEntry i decideDue u) := map_modifySlot (g := nodeSeen) (f := decideDue) (fun _ => rfl) _ i
    unfold redecide
    dsimp only
    split
    · exact h
    · exact h
  have kept (u : State) (i : Nat) : (redecide i u).sched.exch = u.sched.exch ∧
      (redecide i u).sched.relayList = u.sched.relayList ∧ (redecide i u).sched.ctr = u.sched.ctr := by
    unfold redecide
    dsimp only
    split <;> exact ⟨rfl, rfl, rfl⟩
  unfold failExchange
  split
  · next hx => exact ⟨s.sched, rfl, hx, rfl, rfl, .refl s⟩
  · split
    · exact ⟨_, rfl, rfl, rfl, rfl, .refl s⟩
    · next i _ =>
      obtain ⟨hexch, hlist, hctr⟩ := kept (endExchange s) i
      have hframe : redecide i (endExchange s) = s.setSched (redecide i (endExchange s)).sched :=
        redecide_frame i (endExchange s)
      exact ⟨_, hframe, hexch, hlist, hctr, hframe ▸ due (endExchange s) i⟩

/-- Settles O39: the assembly takes over the line; then the head pauses, or is dropped and its exchange fails. -/
theorem plantMismatchRetriesOnce : Obligations.PlantMismatchRetriesOnce := by
  intro s hs hp
  have htake : Offers (s.setPort .p (takenOver .p s)) (takeOver .p s) := takeOver_offers .p s
  obtain ⟨its, fl, qf, hv⟩ := htake.self
  have hexec : exec .pTxMismatch s = .next (finish (pMismatch s)) := act_finish (decide_eq_true hp)
  have hnow : (takeOver .p s).now = s.now := htake.now
  generalize hu : takeOver .p s = u at *
  have hv' : u.portP = _ := hv
  rw [pMismatch_eq hu] at hexec
  refine ⟨fun h0 => ?_, fun h0 hne => ?_⟩
  · have hattempts : u.portP.attempts = 0 := by rw [hv']; exact h0
    have hpause := htake.modPort (pausing u.now)
    have hself := port_modPort_self .p (pausing u.now) u
    rw [hv] at hpause hself
    rw [if_pos hattempts, finish_of_settled (hpause.settled_of_setPort hs rfl)] at hexec
    have hself' : (u.modPort .p (pausing u.now)).portP = _ := hself
    refine ⟨_, its, hexec, hpause.onlyPorts_of_setPort, ?_⟩
    rw [hself']
    refine ⟨rfl, ?_, rfl, rfl, rfl, rfl⟩
    rw [← hnow]; rfl
  · have hattempts : u.portP.attempts ≠ 0 := by rw [hv']; exact h0
    have hhead : headIsRequest u.portP = headIsRequest s.portP := by
      have hfirst : (s.portP.queue ++ its).head? = s.portP.queue.head? := by
        cases hq : s.portP.queue with
        | nil => exact absurd hq hne
        | cons x xs => rfl
      rw [hv']
      exact congrArg (fun o : Option QItem => o.any fun it => it.mark = .request) hfirst
    have hdrop := (htake.modPort failCounted).dropHead
    rw [port_modPort_self, hv] at hdrop
    rw [if_neg hattempts, hhead] at hexec
    generalize dropHead .p (u.modPort .p failCounted) = w at *
    have hset := hdrop.settled_of_setPort hs rfl
    obtain ⟨hclock, hheat, hoil, hsched, hmgmt, hnv⟩ := hdrop.onlyPorts_of_setPort
    obtain ⟨its', fl', qf', ht⟩ := hdrop.self
    have ht' : w.portP = _ := ht
    cases hr : headIsRequest s.portP with
    | false =>
      rw [hr, if_neg (by simp), finish_of_settled hset] at hexec
      refine ⟨_, its ++ its', hexec, ?_⟩
      rw [ht']
      refine ⟨rfl, rfl, ?_, rfl, rfl, by rw [hsched], by rw [hsched], hclock, hheat, hoil, hmgmt, hnv,
        by rw [KeepsNodes, hsched], nofun, fun _ => hsched⟩
      exact (congrArg (· ++ its') (drop_one_append hne its)).trans (List.append_assoc ..)
    | true =>
      obtain ⟨d, hd, hexch, -, hctr, hnodes⟩ := failExchange_spec w
      rw [hr, if_pos rfl, hd] at hexec
      have hfin := finish_finishes (w.setSched d)
      have hkeep := arbitrate_keepsTallies (w.setSched d)
      have henabled : enabledSet (w.setSched d) = enabledSet w :=
        enabledSet_congr rfl rfl rfl rfl rfl rfl rfl hnodes rfl rfl
      have heq : finish (w.setSched d) = arbitrate (w.setSched d) :=
        finish_eq_arbitrate (by rw [NoticeSettled, henabled]; exact hset.notices) (by rw [henabled]; exact hset.timer)
          hkeep.mgmt
      rw [heq] at hfin
      obtain ⟨its'', fl'', qf'', hend⟩ := hfin.portP
      have hbegun (x : Exchange) (hx : (arbitrate (w.setSched d)).sched.exch = some x) : BegunNow (w.setSched d) x :=
        finish_exch_begun hexch (heq ▸ hx)
      rw [heq] at hexec
      obtain ⟨hn, hpe, hi⟩ := hclock
      obtain ⟨hrelay, hzone, hsup, hrecov⟩ := hheat
      obtain ⟨hlevel, hvol, hacct⟩ := hoil
      refine ⟨_, its ++ its' ++ its'', hexec, ?_⟩
      rw [hend, State.setSched_portP, ht']
      refine ⟨rfl, rfl, ?_, rfl, rfl, hkeep.miss.trans (by rw [State.setSched_sched, hctr, hsched]),
        hkeep.retry.trans (by rw [State.setSched_sched, hctr, hsched]),
        ⟨hfin.now.trans hn, hfin.pending.trans hpe, hfin.freeIdx.trans hi⟩,
        ⟨hfin.relay.trans hrelay, hfin.zone.trans hzone, hfin.sup.trans hsup, hfin.recov.trans hrecov⟩,
        ⟨hfin.level.trans hlevel, hfin.vol.trans hvol, hfin.acct.trans hacct⟩, hkeep.mgmt.trans hmgmt, hfin.nv.trans hnv,
        KeepsNodes.trans (by rw [KeepsNodes, hsched]) (hnodes.trans hfin.keepsNodes), fun _ x hx => ?_, nofun⟩
      · have hqueue : ((s.portP.queue ++ its).drop 1 ++ its') ++ its'' = s.portP.queue.drop 1 ++ (its ++ its' ++ its'') := by
          rw [drop_one_append hne]; simp only [List.append_assoc]
        exact hqueue
      · obtain ⟨⟨hstart, hattempt, hwindow⟩, -⟩ := hbegun x hx
        have htenths : (w.setSched d).tenths = s.tenths := congrArg (· / ticksPerTenth) hn
        exact ⟨hstart.trans htenths, hattempt, hwindow⟩

end Sys2Proof.Machine
end

section
/-! Telegrams on the wire: what is received as it was sent, and CHECK (R121 to R123, R127). -/

namespace Sys2Proof.Machine

/-- The errors of a telegram received as it was sent (R127). -/
theorem errorsOf_received_eq {t : Telegram} (h : t.payload.length ≤ 16) (hasBuffer : Bool) :
    errorsOf hasBuffer (received t) =
      { parity := false, framing := false, noBuffer := !hasBuffer, length := false
        check := hasBuffer && decide (checkOf t.body ≠ t.check) } := by
  have hparity : (received t).any parityError = false := by simp [received, parityError, cleanChar]
  have hframing : (received t).any framingError = false := by simp [received, framingError, cleanChar]
  have hbad : badCheck (received t) = decide (checkOf t.body ≠ t.check) := by
    simp only [badCheck, received_data, parseTel_wire h]
  simp [errorsOf, hparity, hframing, badLength_received h, hbad]

/-- A telegram received as it was sent has no error but for a missing buffer. -/
theorem errorsOf_clean {t : Telegram} (h : t.payload.length ≤ 16) (hcheck : t.check = checkOf t.body) (hasBuffer : Bool) :
    errorsOf hasBuffer (received t) =
      { parity := false, framing := false, noBuffer := !hasBuffer, length := false, check := false } := by
  rw [errorsOf_received_eq h, hcheck]; simp

/-- Settles O31: the characters read back are the telegram sent, and CHECK alone can differ. -/
theorem telegramsDecodeAsTheyWereSent : Obligations.TelegramsDecodeAsTheyWereSent := fun t h =>
  ⟨parseTel_wire h, length_wire t, fun hc => ⟨errorsOf_clean h hc true, errorsOf_clean h hc false⟩, fun hc => by
    rw [errorsOf_received_eq h]; simp [Ne.symm hc]⟩

/-! ### CHECK (R123) -/

/-- The shift as R123 says it. -/
theorem crcShift_eq (v : Word16) : crcShift v = (v <<< 1) ^^^ (if v.msb then 0x1021 else 0) := by
  unfold crcShift
  split <;> simp

theorem crcShifts_eq_iterate (n : Nat) (v : Word16) :
    crcShifts n v = (fun v : Word16 => (v <<< 1) ^^^ (if v.msb then 0x1021 else 0))^[n] v := by
  induction n generalizing v with
  | zero => rfl
  | succ n ih => rw [crcShifts, ih, crcShift_eq]; rfl

theorem checkOf_append (bs cs : List Byte) : checkOf (bs ++ cs) = cs.foldl crcByte (checkOf bs) := List.foldl_append ..

/-- While no bit is shifted out the shifts are a shift. -/
theorem crcShifts_small (n : Nat) (v : Word16) (h : v.toNat * 2 ^ n < 2 ^ 16) : crcShifts n v = v <<< n := by
  induction n generalizing v with
  | zero => simp [crcShifts]
  | succ n ih =>
    have hpow : 2 ^ (n + 1) = 2 ^ n * 2 := Nat.pow_succ ..
    have hle : v.toNat * 2 ≤ v.toNat * 2 ^ (n + 1) := Nat.mul_le_mul_left _ (by have := Nat.two_pow_pos n; omega)
    have htop : v.msb = false := by rw [BitVec.msb_eq_false_iff_two_mul_lt]; omega
    have hshift : (v <<< 1).toNat = v.toNat * 2 := by
      rw [BitVec.toNat_shiftLeft, Nat.shiftLeft_eq, Nat.mod_eq_of_lt (by omega)]
    have hstep : crcShift v = v <<< 1 := by rw [crcShift, htop]; rfl
    rw [crcShifts, hstep, ih _ (by rw [hshift, Nat.mul_assoc, Nat.mul_comm 2, ← hpow]; exact h), ← BitVec.shiftLeft_add,
      Nat.add_comm]

/-- The two bytes of a value, added into the value one after the other, leave 0. -/
theorem crcByte_residue (hi lo : Byte) : crcByte (crcByte (hi ++ lo : BitVec 16) hi) lo = 0 := by
  have hlow : (hi ++ lo : BitVec 16) ^^^ (hi.zeroExtend 16 <<< 8) = lo.zeroExtend 16 := by
    refine BitVec.eq_of_getLsbD_eq fun i hi' => ?_
    have happ : (hi ++ lo : BitVec 16).getLsbD i = if i < 8 then lo.getLsbD i else hi.getLsbD (i - 8) :=
      BitVec.getLsbD_append
    rw [BitVec.getLsbD_xor, happ]
    by_cases h8 : i < 8
    · simp [h8, hi']
    · have hlo : lo.getLsbD i = false := BitVec.getLsbD_of_ge _ _ (by omega)
      simp [h8, hi', hlo]
  have hsmall : (lo.zeroExtend 16).toNat * 2 ^ 8 < 2 ^ 16 := by
    have := lo.isLt
    simp only [BitVec.truncate_eq_setWidth, BitVec.toNat_setWidth]
    omega
  have hzero : crcShifts 8 0 = 0 := by decide
  rw [crcByte, crcByte, hlow, crcShifts_small 8 _ hsmall, BitVec.xor_self]
  exact hzero

/-- Two bytes as a value are the value. -/
theorem ofBytes_pair (hi lo : Byte) : BitVec.ofNat 16 (ofBytes [hi, lo]) = (hi ++ lo : BitVec 16) := by
  have hl := lo.isLt
  have hh := hi.isLt
  have hvalue : ofBytes [hi, lo] = hi.toNat * 256 + lo.toNat := by simp [ofBytes]
  refine BitVec.eq_of_toNat_eq ?_
  rw [BitVec.toNat_ofNat, BitVec.toNat_append, hvalue, ← Nat.shiftLeft_add_eq_or_of_lt hl, Nat.shiftLeft_eq,
    Nat.mod_eq_of_lt (by omega)]

/-- Bytes of a good length are the body of the telegram that stands in them and its CHECK (R122). -/
theorem split_of_length {chars : List RxChar} (h : badLength chars = false) : ∃ hi lo : Byte,
    chars.map (·.data) = (parseTel (chars.map (·.data))).body ++ [hi, lo] ∧
      (parseTel (chars.map (·.data))).check = (hi ++ lo : BitVec 16) := by
  unfold badLength at h
  split at h
  · next c0 c1 c2 len c4 c5 rest =>
    simp only [Bool.or_eq_false_iff, decide_eq_false_iff_not, not_not, List.length_cons] at h
    obtain ⟨hmax, hlen⟩ := h
    generalize hrest : (c4 :: c5 :: rest).map (·.data) = tail
    have htail : tail.length = len.data.toNat + 2 := by rw [← hrest]; simp; omega
    have hdata : (c0 :: c1 :: c2 :: len :: c4 :: c5 :: rest).map (·.data) =
        c0.data :: c1.data :: c2.data :: len.data :: tail := by rw [← hrest]; rfl
    have hcheck : (tail.drop len.data.toNat).length = 2 := by rw [List.length_drop]; omega
    obtain ⟨hi, lo, hpair⟩ := List.length_eq_two.mp hcheck
    have hparse : parseTel (c0.data :: c1.data :: c2.data :: len.data :: tail) =
        { dest := c0.data, src := c1.data, kind := c2.data, payload := tail.take len.data.toNat
          check := BitVec.ofNat 16 (ofBytes ((tail.drop len.data.toNat).take 2)) } := by
      have hdrop : (c0.data :: c1.data :: c2.data :: len.data :: tail).drop (4 + len.data.toNat) =
          tail.drop len.data.toNat := by rw [← List.drop_drop]; rfl
      rw [← hdrop]; rfl
    have hfield : BitVec.ofNat 8 (tail.take len.data.toNat).length = len.data := by
      rw [List.length_take_of_le (by omega), BitVec.ofNat_toNat, BitVec.setWidth_eq]
    refine ⟨hi, lo, ?_, ?_⟩
    · rw [hdata, hparse, Telegram.body, Telegram.len, hfield]
      simp only [List.cons_append, ← hpair, List.take_append_drop]
    · rw [hdata, hparse, hpair]
      exact ofBytes_pair hi lo
  · cases h

/-- Settles O32: the shifts byte by byte, and the residue of a telegram whose CHECK matches. -/
theorem checkIsComputedByByte : Obligations.CheckIsComputedByByte := by
  refine ⟨rfl, fun bs b => ?_, fun dest kind payload => rfl, fun t h => ?_, fun chars hempty => ?_⟩
  · rw [checkOf_append, ← crcShifts_eq_iterate]; rfl
  · have hbad : badCheck (received t) = decide (checkOf t.body ≠ t.check) := by
      simp only [badCheck, received_data, parseTel_wire h]
    rw [hbad, decide_eq_true_eq, ne_comm]; rfl
  · simp only [RxErrors.isEmpty, errorsOf, Bool.and_eq_true, Bool.not_eq_true', Bool.true_and, Bool.and_eq_false_iff,
      Bool.not_eq_false'] at hempty
    obtain ⟨⟨-, hlength⟩, hcheck⟩ := hempty
    obtain ⟨hi, lo, hsplit, hvalue⟩ := split_of_length hlength
    have hmatch : badCheck chars = false := by
      rcases hcheck with h | h
      · rw [hlength] at h; cases h
      · exact h
    have hbody : checkOf (parseTel (chars.map (·.data))).body = (hi ++ lo : BitVec 16) := by
      rw [← hvalue]
      by_contra hne
      simp [badCheck, hne] at hmatch
    rw [hsplit, checkOf_append, hbody]
    exact crcByte_residue hi lo

end Sys2Proof.Machine
end

section
/-! Reception: first characters, and telegrams with an error or a bad address (R122, R126 to R128, R137 to R139). -/

namespace Sys2Proof.Machine

/-! ### The pool through a hold-off (R138, R139) -/

/-- The pool as telegrams of its own leave it: fewer free buffers, and drops counted. -/
def PoolOffered (p p' : Pool) : Prop := ∃ free dropped, p' = { p with free := free, genDropped := dropped }

theorem generateRaw_offered (port : Port) (t : Telegram) (s : State) : PoolOffered s.pool (generateRaw port t s).pool := by
  have hp := offerItem_pool port { tel := t, mark := .plain } (setFree (s.pool.free - 1) s)
  unfold generateRaw
  split
  · exact ⟨_, _, rfl⟩
  · split
    · next he => rw [he] at hp; exact ⟨_, _, hp⟩
    · next u he =>
      rw [he] at hp
      exact ⟨u.pool.free + 1, s.pool.genDropped, by rw [setFree, State.setPool_pool, show u.pool = _ from hp]; rfl⟩

theorem enterHeld_offered (s : State) : PoolOffered
    { s.pool with held := true, holdEntry := bump s.pool.holdEntry, repeatFrom := some s.now } (enterHeld s).pool := by
  let s1 := s.setPool { s.pool with held := true, holdEntry := bump s.pool.holdEntry, repeatFrom := some s.now }
  obtain ⟨f, d, h⟩ := generateRaw_offered .h (holdOffTel broadcast 30) s1
  obtain ⟨f', d', h'⟩ := generateRaw_offered .y (holdOffTel broadcast 30) (generateRaw .h (holdOffTel broadcast 30) s1)
  exact ⟨f', d', by rw [enterHeld, broadcastHoldOff, h', h]; rfl⟩

/-- A buffer taken that leaves too few free puts the pool in HELD (R139). -/
theorem takeBuffer_held {s : State} (hh : s.pool.held = false) (hf : s.pool.free ≤ holdThreshold + 1) :
    takeBuffer s = enterHeld (setFree (s.pool.free - 1) s) := by
  refine if_pos ?_
  simp only [setFree, State.setPool_pool, hh, Bool.not_false, Bool.true_and, decide_eq_true_eq]
  omega

/-! ### First characters (R122, R126) -/

theorem mayBegin_iff {q : PortState} {now : Nat} : mayBegin q now = true ↔ MayListen q now := by
  simp only [mayBegin, Bool.and_eq_true, Bool.or_eq_true, decide_eq_true_eq, Option.isNone_iff_eq_none, sendingNow,
    Bool.not_eq_true', decide_eq_false_iff_not, lineIdleFor_iff]
  constructor
  · intro ⟨⟨⟨hm, ha⟩, hp⟩, hi⟩
    exact ⟨hm, ha, hp, hi⟩
  · intro ⟨hm, ha, hp, hi⟩
    exact ⟨⟨⟨hm, ha⟩, hp⟩, hi⟩

/-- Settles O33: the assembly begins, and asks the pool for its buffer; where it may not begin, nothing happens. -/
theorem firstCharacterAsksForABuffer : Obligations.FirstCharacterAsksForABuffer := by
  refine ⟨fun port granted took s hs hl hg ht => ?_, fun port s hnot => ?_⟩
  · have hgranted : mayReceive port s.pool.free = granted := by rw [mayReceive_eq, hg]
    have htook : assembling granted s.now (s.port port) = took := by
      rw [ht]
      unfold assembling carrying
      cases (s.port port).line <;> rfl
    have hoffers := beginAssembly_offers port s
    have heq := beginAssembly_eq port s
    rw [hgranted, htook] at hoffers heq
    have hmode : took.mode = (s.port port).mode := by rw [← htook]; rfl
    have hexec : exec (.rxFirstCharacter port) s = .next (finish (beginAssembly port s)) := act_finish (mayBegin_iff.mpr hl)
    rw [finish_of_settled (hoffers.settled_of_setPort hs hmode)] at hexec
    obtain ⟨its, fl, qf, hself⟩ := hoffers.self
    refine ⟨_, hexec, hoffers.onlyPorts_of_setPort, hoffers.self, ?_⟩
    rw [hself, ht]
    refine ⟨rfl, fun since hi => by simp [hi], fun since hi => by rcases hi with hi | hi <;> simp [hi], rfl, hl.active, rfl,
      fun other ho => hoffers.other ho, fun hb => ?_, fun hb hc => ?_, fun hb hh hf => ?_⟩
    · rw [heq, if_neg (by simp [hb]), ht]
    · have hcalm : takeBuffer (s.setPort port took) = setFree (s.pool.free - 1) (s.setPort port took) := by
        rw [takeBuffer_calm (by rw [setPort_pool]; exact hc), setPort_pool]
      rw [heq, if_pos hb, hcalm, setFree_setPort, ht]
    · have hheld : (beginAssembly port s).pool = (enterHeld (setFree (s.pool.free - 1) (s.setPort port took))).pool := by
        rw [heq, if_pos hb, takeBuffer_held (by rw [setPort_pool]; exact hh) (by rw [setPort_pool]; exact hf), setPort_pool]
      obtain ⟨free, dropped, hpool⟩ := enterHeld_offered (setFree (s.pool.free - 1) (s.setPort port took))
      rw [hheld, hpool, setFree_setPort]
      cases port <;> exact ⟨rfl, rfl, rfl⟩
  · refine act_not (Bool.eq_false_iff.mpr fun hb => ?_)
    obtain ⟨hm, ha, hp, hi⟩ := mayBegin_iff.mp hb
    rcases hnot with h | h | h | ⟨harm, hidle⟩
    · rw [hm] at h; cases h
    · exact h ha
    · exact hp h
    · rcases hi with h | ⟨since, hline, hle⟩
      · rw [harm] at h; cases h
      · exact absurd (hidle since hline) (Nat.not_lt.mpr hle)

/-! ### Telegrams with an error (R127, R128) -/

/-- The counters of a telegram with errors. -/
theorem countErrors_eq (a : Bool) (chars : List RxChar) (c : PortCounters) : countErrors (errorsOf a chars) c =
    { c with
      parity := if chars.any (fun c => c.parity != parityOf c.data) then bump c.parity else c.parity
      framing := if chars.any (fun c => !c.stop) then bump c.framing else c.framing
      noBuffer := if a then c.noBuffer else bump c.noBuffer
      length := if a && badLength chars then bump c.length else c.length
      check := if a && !badLength chars && badCheck chars then bump c.check else c.check } := by
  cases a <;> rfl

theorem errorsOf_isEmpty (a : Bool) (chars : List RxChar) : (errorsOf a chars).isEmpty =
    !(chars.any (fun c => c.parity != parityOf c.data) || chars.any (fun c => !c.stop) || !a || (a && badLength chars) ||
      (a && !badLength chars && badCheck chars)) := by
  have hp : chars.any parityError = chars.any fun c => c.parity != parityOf c.data := rfl
  have hf : chars.any framingError = chars.any fun c => !c.stop := rfl
  simp only [RxErrors.isEmpty, errorsOf, hp, hf, Bool.not_or]

theorem exec_telegramEnd {port : Port} {a : Assembly} {chars : List RxChar} {s : State} (ha : (s.port port).asm = some a)
    (hp : (s.port port).phase ≠ .sending) : exec (.rxTelegramEnd port chars) s =
      .next (finish (endAssembly port a.hasBuffer chars (s.setPort port (ended s.now (s.port port))))) := by
  have hexec : exec (.rxTelegramEnd port chars) s = .next (finish (telegramEnd port chars s)) :=
    act_finish (by simp [sendingNow_eq_false hp, ha])
  rw [hexec, telegramEnd, ha]
  rfl

/-- A telegram discarded: its port is as counted, and its buffer returns. -/
theorem returned_spec {port : Port} {q : PortState} {s : State} (hs : Settled s) (hm : q.mode = (s.port port).mode) :
    finish (returnBuffer (s.setPort port q)) = returnBuffer (s.setPort port q) ∧
      OnlyPortsChange s (returnBuffer (s.setPort port q)) ∧ PortOffered q ((returnBuffer (s.setPort port q)).port port) ∧
      (∀ other, other ≠ port → PortOffered (s.port other) ((returnBuffer (s.setPort port q)).port other)) ∧
      (s.pool.held = false ∨ s.pool.free < 13 →
        returnBuffer (s.setPort port q) =
          ({ s with pool := { s.pool with free := s.pool.free + 1 } } : State).setPort port q) := by
  have h := returnBuffer_offers (s.setPort port q)
  refine ⟨finish_of_settled (h.settled_of_setPort hs hm), h.onlyPorts_of_setPort, h.self, fun other ho => h.other ho,
    fun hc => ?_⟩
  rw [returnBuffer_calm (by rw [setPort_pool]; exact hc.imp_right Nat.succ_lt_succ), setFree_setPort, setPort_pool]

/-- Settles O34: the errors or the bad address are counted, and the buffer returns. -/
theorem erroneousTelegramIsOnlyCounted : Obligations.ErroneousTelegramIsOnlyCounted := by
  refine ⟨fun port a chars bad length check q s hs ha hp hlength hcheck hbad hb hq => ?_,
    fun port start tel q s hs ha hp hlen hcheck haddr hq => ?_⟩
  · have hempty : (errorsOf a.hasBuffer chars).isEmpty = false := by
      rw [errorsOf_isEmpty, ← hlength, ← hcheck, ← hbad, hb]; rfl
    have hcounted : (s.setPort port (ended s.now (s.port port))).countPort port (countErrors (errorsOf a.hasBuffer chars)) =
        s.setPort port q := by
      rw [State.countPort, modPort_eq_setPort, setPort_setPort, port_setPort_self, countErrors_eq, hq, hlength, hcheck]
      rfl
    have hmode : q.mode = (s.port port).mode := by rw [hq]; rfl
    have hexec := exec_telegramEnd (chars := chars) ha hp
    rw [endAssembly] at hexec
    simp only [hempty, hcounted, Bool.false_eq_true, if_false] at hexec
    cases hbuf : a.hasBuffer with
    | false =>
      rw [hbuf, if_neg (by simp), finish_of_settled (hs.setPort hmode)] at hexec
      exact ⟨_, hexec, setPort_onlyPorts port q s, by rw [port_setPort_self]; exact .refl q,
        fun other ho => by rw [port_setPort_other ho]; exact .refl _, fun _ => rfl, nofun⟩
    | true =>
      obtain ⟨hfin, hone, hself, hothers, hcalm⟩ := returned_spec hs hmode
      rw [hbuf, if_pos rfl, hfin] at hexec
      exact ⟨_, hexec, hone, hself, hothers, nofun, fun _ => hcalm⟩
  · have herrors := errorsOf_clean hlen hcheck true
    have hgood : goodAddresses tel = false := by
      simp only [goodAddresses, Bool.and_eq_false_iff, decide_eq_false_iff_not]
      omega
    have hcounted : (s.setPort port (ended s.now (s.port port))).countPort port
        (fun c => { c with badAddress := bump c.badAddress }) = s.setPort port q := by
      rw [State.countPort, modPort_eq_setPort, setPort_setPort, port_setPort_self, hq]; rfl
    have hmode : q.mode = (s.port port).mode := by rw [hq]; rfl
    have hempty : (errorsOf true (received tel)).isEmpty = true := by rw [herrors]; rfl
    have hexec := exec_telegramEnd (chars := received tel) ha hp
    rw [endAssembly] at hexec
    simp only [hempty, received_data, parseTel_wire hlen, hgood, hcounted, if_true, Bool.false_eq_true, if_false] at hexec
    obtain ⟨hfin, hone, hself, hothers, hcalm⟩ := returned_spec hs hmode
    rw [hfin] at hexec
    exact ⟨_, hexec, hone, hself, hothers, hcalm⟩

end Sys2Proof.Machine
end

section
/-! SUPPORT. A port in BREAK is closed to offers (`KeepsShut`), and what the poll scheduler makes of a break of P (R129, R131, R168). -/

namespace Sys2Proof.Machine

/-! ### Closed ports (R131) -/

/-- Nothing joins the queue of a port in BREAK, and it stays in BREAK. -/
def KeepsShut (port : Port) (s t : State) : Prop :=
  (s.port port).mode = .broken → (t.port port).mode = .broken ∧ (t.port port).queue = (s.port port).queue

section
variable {port : Port} {s t u : State}

theorem KeepsShut.trans (h : KeepsShut port s t) (k : KeepsShut port t u) : KeepsShut port s u := fun hb => by
  obtain ⟨hm, hq⟩ := h hb
  obtain ⟨hm', hq'⟩ := k hm
  exact ⟨hm', hq'.trans hq⟩

theorem keepsShut_of_port (h : t.port port = s.port port) : KeepsShut port s t := fun hb => by rw [h]; exact ⟨hb, rfl⟩

theorem setPool_port (v : Pool) (s : State) (port : Port) : (s.setPool v).port port = s.port port := by cases port <;> rfl

theorem setSched_port (v : Scheduler) (s : State) (port : Port) : (s.setSched v).port port = s.port port := by cases port <;> rfl

theorem setMgmt_port (v : Management) (s : State) (port : Port) : (s.setMgmt v).port port = s.port port := by cases port <;> rfl

variable (port s)

/-- A telegram offered to a port in BREAK is flushed (R131). -/
theorem offerItem_shut (dst : Port) (it : QItem) : KeepsShut port s (offerItem dst it s).1 := by
  by_cases hp : port = dst
  · subst hp
    intro hb
    unfold offerItem
    simp only [hb, State.countPort, port_modPort_self, and_self]
  · obtain ⟨q, hq, -⟩ := offerItem_port dst it s
    exact keepsShut_of_port (by rw [hq, port_setPort_other hp])

theorem setPool_shut (v : Pool) : KeepsShut port s (s.setPool v) := keepsShut_of_port (setPool_port v s port)

theorem generateRaw_shut (dst : Port) (t : Telegram) : KeepsShut port s (generateRaw dst t s) := by
  unfold generateRaw
  split
  · exact setPool_shut port s _
  · have h := (setPool_shut port s _).trans (offerItem_shut port (setFree (s.pool.free - 1) s) dst { tel := t, mark := .plain })
    split
    · next he => rw [he] at h; exact h
    · next he => rw [he] at h; exact h.trans (setPool_shut port _ _)

theorem broadcastHoldOff_shut (n : Nat) : KeepsShut port s (broadcastHoldOff n s) :=
  (generateRaw_shut port s .h _).trans (generateRaw_shut port _ .y _)

theorem takeBuffer_shut : KeepsShut port s (takeBuffer s) := by
  unfold takeBuffer
  dsimp only
  split
  · exact (setPool_shut port s _).trans ((setPool_shut port _ _).trans (broadcastHoldOff_shut port _ 30))
  · exact setPool_shut port s _

theorem returnBuffer_shut : KeepsShut port s (returnBuffer s) := by
  unfold returnBuffer
  dsimp only
  split
  · exact (setPool_shut port s _).trans ((setPool_shut port _ _).trans (broadcastHoldOff_shut port _ 0))
  · exact setPool_shut port s _

theorem returnBuffers_shut (n : Nat) : KeepsShut port s (returnBuffers n s) := by
  induction n generalizing s with
  | zero => exact keepsShut_of_port rfl
  | succ n ih => exact (returnBuffer_shut port s).trans (ih _)

theorem generate_shut (dst : Port) (t : Telegram) (m : QMark) : KeepsShut port s (generate dst t m s).1 := by
  unfold generate
  split
  · exact setPool_shut port s _
  · have h := (takeBuffer_shut port s).trans (offerItem_shut port (takeBuffer s) dst { tel := t, mark := m })
    split
    · next he => rw [he] at h; exact h
    · next he => rw [he] at h; exact h.trans (returnBuffer_shut port _)

theorem moveToQueue_shut (dst : Port) (t : Telegram) (m : QMark) : KeepsShut port s (moveToQueue dst t m s).1 := by
  have h := offerItem_shut port s dst { tel := t, mark := m }
  unfold moveToQueue
  split
  · next he => rw [he] at h; exact h
  · next he => rw [he] at h; exact h.trans (returnBuffer_shut port _)

theorem settleNotices_shut : KeepsShut port s (settleNotices s) := by
  unfold settleNotices
  split
  · exact keepsShut_of_port (setMgmt_port _ s port)
  · split
    · exact keepsShut_of_port rfl
    · exact (keepsShut_of_port (setMgmt_port _ s port)).trans
        ((generate_shut port _ .h _ _).trans (generate_shut port _ .y _ _))

theorem chooseExchange_shut : KeepsShut port s (chooseExchange s) := by
  have request (k : ExKind) (slot : Nat) (e : PollEntry) : KeepsShut port s (beginRequest k slot e s) := by
    have h := generate_shut port s .p (requestTel k (BitVec.ofNat 8 e.addr)) .request
    unfold beginRequest
    dsimp only
    split
    · next he => rw [he] at h; exact h
    · next s' he =>
      rw [he] at h
      have hcount : (countRequest k s').port port = s'.port port := by
        unfold countRequest
        split <;> rfl
      refine h.trans (keepsShut_of_port ?_)
      rw [setSched_port, modEntry, setSlots, setSched_port, hcount]
  have relay (t : Telegram) (room : Room) : KeepsShut port s (beginRelay t room s) := by
    have h := (keepsShut_of_port (setSched_port { s.sched with relayList := s.sched.relayList.drop 1 } s port)).trans
      (moveToQueue_shut port _ .p t .request)
    unfold beginRelay
    dsimp only
    split
    · next he => rw [he] at h; exact h
    · next he => rw [he] at h; exact h.trans (keepsShut_of_port (setSched_port _ _ port))
  unfold chooseExchange
  split
  · exact request _ _ _
  · split
    · exact relay _ _
    · split
      · dsimp only
        split
        · exact (request _ _ _).trans (keepsShut_of_port (setSched_port _ _ port))
        · exact request _ _ _
      · exact keepsShut_of_port rfl

theorem finish_shut : KeepsShut port s (finish s) := by
  have arbitrated : KeepsShut port s (arbitrate s) := by
    have hwake := keepsShut_of_port (setSched_port { s.sched with wake := false } s port)
    unfold arbitrate
    split
    · dsimp only
      split
      · exact hwake.trans (chooseExchange_shut port _)
      · exact hwake
    · exact keepsShut_of_port rfl
  exact arbitrated.trans (settleNotices_shut port _)

end

/-! ### What a break makes of the poll list (R168) -/

/-- What an entry keeps through a break: all but its times and its valve record. -/
def nodeKept (e : PollEntry) : Nat × Nat × Bool × Nat × Nat := (e.addr, e.interval, e.present, e.misses, e.lastAnswer)

theorem KeepsNodes.kept {s t : State} (h : KeepsNodes s t) :
    t.sched.slots.map (Option.map nodeKept) = s.sched.slots.map (Option.map nodeKept) := by
  have hf : (fun n : Nat × Nat × Bool × Nat × Nat × Option (Reported × Bool) =>
      (n.1, n.2.1, n.2.2.1, n.2.2.2.1, n.2.2.2.2.1)) ∘ nodeSeen = nodeKept := rfl
  have hm := congrArg (List.map (Option.map fun n : Nat × Nat × Bool × Nat × Nat × Option (Reported × Bool) =>
      (n.1, n.2.1, n.2.2.1, n.2.2.2.1, n.2.2.2.2.1))) h
  simpa only [List.map_map, Option.map_comp_map, hf] using hm

theorem KeepsNodes.reported {s t : State} (h : KeepsNodes s t) (slot : Nat) :
    (recordOf t slot).map (·.reported) = (recordOf s slot).map (·.reported) := by
  have seen (u : State) : (recordOf u slot).map (·.reported) =
      ((slotGet u.sched.slots slot).map nodeSeen).bind fun n => n.2.2.2.2.2.map (·.1) := by
    unfold recordOf
    cases slotGet u.sched.slots slot with
    | none => rfl
    | some e => cases hv : e.valve? <;> simp [nodeSeen, hv]
  rw [seen, seen, h.slot]

/-- The valve in a slot, if there is one, reports UNKNOWN. -/
def ReportsUnknown (s : State) (slot : Nat) : Prop := ∀ r, recordOf s slot = some r → r.reported = .unknown

theorem KeepsNodes.reportsUnknown {s t : State} (h : KeepsNodes s t) {slot : Nat} (hs : ReportsUnknown s slot) :
    ReportsUnknown t slot := fun r hr => by
  have hrep := h.reported slot
  rw [hr] at hrep
  obtain ⟨r', hr', he⟩ := Option.map_eq_some_iff.mp hrep.symm
  exact he.symm.trans (hs r' hr')

theorem slotGet_modifySlot_other {α : Type} (xs : List (Option α)) {i j : Nat} (h : i ≠ j) (f : α → α) :
    slotGet (modifySlot xs i f) j = slotGet xs j := by
  simp [slotGet, modifySlot, h]

/-- A slot's record changed: in the slot it is the changed record, elsewhere as it was. -/
theorem recordOf_modRecord (i j : Nat) (f : ValveRecord → ValveRecord) (s : State) :
    recordOf (modRecord i f s) j = if i = j then (recordOf s j).map f else recordOf s j := by
  have changed : recordOf (modEntry i (PollEntry.modValve f) s) j = if i = j then (recordOf s j).map f else recordOf s j := by
    have hslots : (modEntry i (PollEntry.modValve f) s).sched.slots = modifySlot s.sched.slots i (PollEntry.modValve f) := rfl
    rw [recordOf, recordOf, hslots]
    split
    · next h =>
      subst h
      rw [slotGet_modifySlot]
      cases slotGet s.sched.slots i with
      | none => rfl
      | some e => obtain ⟨_, _ | r⟩ := e <;> rfl
    · next h => rw [slotGet_modifySlot_other _ h]
  unfold modRecord
  split
  · next hn =>
    split
    · next h => subst h; rw [hn]; rfl
    · rfl
  · dsimp only
    split
    · exact changed
    · rw [recordOf_redecide]; exact changed

/-- What a change of the valve records leaves of the state: the poll list but for them and its times. -/
structure KeepsPlant (s t : State) : Prop where
  frame : t = s.setSched t.sched
  exch : t.sched.exch = s.sched.exch
  list : t.sched.relayList = s.sched.relayList
  kept : t.sched.slots.map (Option.map nodeKept) = s.sched.slots.map (Option.map nodeKept)

theorem KeepsPlant.refl (s : State) : KeepsPlant s s := ⟨rfl, rfl, rfl, rfl⟩

theorem KeepsPlant.trans {a b c : State} (h : KeepsPlant a b) (k : KeepsPlant b c) : KeepsPlant a c :=
  ⟨by rw [k.frame, h.frame]; rfl, k.exch.trans h.exch, k.list.trans h.list, k.kept.trans h.kept⟩

theorem modEntry_keepsPlant {f : PollEntry → PollEntry} (h : ∀ e, nodeKept (f e) = nodeKept e) (slot : Nat) (s : State) :
    KeepsPlant s (modEntry slot f s) :=
  ⟨rfl, rfl, rfl, map_modifySlot h _ slot⟩

theorem redecide_keepsPlant (slot : Nat) (s : State) : KeepsPlant s (redecide slot s) := by
  have h : KeepsPlant s (modEntry slot decideDue s) := modEntry_keepsPlant (f := decideDue) (fun _ => rfl) slot s
  unfold redecide
  dsimp only
  split
  · exact h.trans ⟨rfl, rfl, rfl, rfl⟩
  · exact h

theorem modRecord_keepsPlant (slot : Nat) (f : ValveRecord → ValveRecord) (s : State) :
    KeepsPlant s (modRecord slot f s) := by
  have h : KeepsPlant s (modEntry slot (PollEntry.modValve f) s) :=
    modEntry_keepsPlant (fun e => by obtain ⟨_, _ | r⟩ := e <;> rfl) slot s
  unfold modRecord
  split
  · exact .refl s
  · dsimp only
    split
    · exact h
    · exact h.trans (redecide_keepsPlant slot _)

/-- A reported position made UNKNOWN. -/
def unknownReport (r : ValveRecord) : ValveRecord := { r with reported := .unknown }

theorem forEach_unknown (xs : List Nat) (s : State) : KeepsPlant s (forEach xs (fun i => modRecord i unknownReport) s) ∧
    ∀ slot, slot ∈ xs ∨ ReportsUnknown s slot →
      ReportsUnknown (forEach xs (fun i => modRecord i unknownReport) s) slot := by
  induction xs generalizing s with
  | nil => exact ⟨.refl s, fun slot h => h.resolve_left List.not_mem_nil⟩
  | cons x xs ih =>
    obtain ⟨hkeep, hunknown⟩ := ih (modRecord x unknownReport s)
    refine ⟨(modRecord_keepsPlant x _ s).trans hkeep, fun slot h => hunknown slot ?_⟩
    by_cases hx : x = slot
    · refine .inr fun r hr => ?_
      rw [recordOf_modRecord, if_pos hx] at hr
      obtain ⟨r', -, rfl⟩ := Option.map_eq_some_iff.mp hr
      rfl
    · rcases h with h | h
      · exact .inl ((List.mem_cons.mp h).resolve_left (Ne.symm hx))
      · refine .inr fun r hr => ?_
        rw [recordOf_modRecord, if_neg hx] at hr
        exact h r hr

/-- What a break of P leaves of the poll scheduler and the supervisor (R168). -/
structure PlantLost (s t : State) : Prop where
  frame : t = { s with sup := t.sup, sched := t.sched, level := t.level }
  exch : t.sched.exch = none
  list : t.sched.relayList = s.sched.relayList
  unknown : ∀ slot, ReportsUnknown t slot
  kept : t.sched.slots.map (Option.map nodeKept) = s.sched.slots.map (Option.map nodeKept)

theorem pBreak_lost (s : State) : PlantLost s (pBreak s) := by
  obtain ⟨d, hd, hexch, hlist, -, hnodes⟩ := failExchange_spec s
  unfold pBreak
  dsimp only
  rw [hd]
  split
  · next hall =>
    refine ⟨rfl, hexch, hlist, fun slot r hr => ?_, hnodes.kept⟩
    obtain ⟨e, he, hv⟩ := Option.bind_eq_some_iff.mp hr
    have hmem : some e ∈ (s.setSched d).sched.slots := List.mem_of_getElem? (slotGet_eq_some.mp he)
    have := List.all_eq_true.mp hall _ hmem
    simpa [hv] using this
  · obtain ⟨hkeep, hunknown⟩ := forEach_unknown (List.range (s.setSched d).sched.slots.length) (s.setSched d)
    change PlantLost s (recompute (forEach _ (fun i => modRecord i unknownReport) (s.setSched d)))
    generalize forEach (List.range (s.setSched d).sched.slots.length) (fun i => modRecord i unknownReport) (s.setSched d) = u
      at hkeep hunknown
    have hsteers := recompute_steers u
    have hlen : u.sched.slots.length = (s.setSched d).sched.slots.length := by
      simpa using congrArg List.length hkeep.kept
    refine ⟨by rw [hsteers.frame, hkeep.frame]; rfl, ?_, ?_, fun slot => ?_, ?_⟩
    · rw [hsteers.sched]; exact hkeep.exch.trans hexch
    · rw [hsteers.sched]; exact hkeep.list.trans hlist
    · refine hsteers.nodes.reportsUnknown ?_
      by_cases hs : slot < (s.setSched d).sched.slots.length
      · exact hunknown slot (.inl (List.mem_range.mpr hs))
      · intro r hr
        obtain ⟨e, he, -⟩ := Option.bind_eq_some_iff.mp hr
        exact absurd (hlen ▸ slotGet_lt he) hs
    · exact hsteers.nodes.kept.trans (hkeep.kept.trans hnodes.kept)

end Sys2Proof.Machine
end

section
/-! Break and return: a line active for 100 ms closes its port, a second of idle line opens it (R129, R130, R168). -/

namespace Sys2Proof.Machine

/-! ### The end of a command after a break (R161, R177) -/

theorem Finishes.port {s t : State} (h : Finishes s t) (port : Port) : PortOffered (s.port port) (t.port port) := by
  cases port
  · exact h.portH
  · exact h.portY
  · exact h.portP

/-- No NOTICE is composed: the line is asserted already, or nothing is enabled (R177). -/
def Muted (s : State) : Prop := s.mgmt.line = true ∨ enabledSet s = 0

theorem settleNotices_muted {s : State} (h : Muted s) :
    ∃ m, settleNotices s = s.setMgmt m ∧ Muted (settleNotices s) := by
  by_cases h0 : enabledSet s = 0
  · rw [settleNotices, if_pos h0]
    exact ⟨_, rfl, .inr h0⟩
  · have hline := h.resolve_right h0
    rw [settleNotices, if_neg h0, if_pos hline]
    exact ⟨s.mgmt, rfl, h⟩

/-- With no arbitration event, or P in BREAK, arbitration begins no exchange (R161). -/
theorem arbitrate_idle {s : State} (h : s.sched.wake = false ∨ s.portP.mode = .broken) :
    arbitrate s = s.setSched { s.sched with wake := false } := by
  unfold arbitrate
  split
  · next hw =>
    have hp : s.portP.mode = .broken := h.resolve_left (by simp [hw])
    exact if_neg (by simp [hp])
  · next hw =>
    have hw : s.sched.wake = false := by simpa using hw
    exact congrArg s.setSched (by rw [← hw])

/-- Where no NOTICE is composed and no exchange begins, the end of a command leaves the pool and the ports as they are. -/
theorem finish_muted {s : State} (hm : Muted s) (h : s.sched.wake = false ∨ s.portP.mode = .broken) :
    (finish s).pool = s.pool ∧ ∀ port, (finish s).port port = s.port port := by
  have hsched : Muted (s.setSched { s.sched with wake := false }) :=
    hm.imp_right fun he => (enabledSet_congr rfl rfl rfl rfl rfl rfl rfl rfl rfl rfl).trans he
  obtain ⟨m, hset, -⟩ := settleNotices_muted hsched
  rw [finish, arbitrate_idle h, hset]
  exact ⟨rfl, fun port => (setMgmt_port ..).trans (setSched_port ..)⟩

/-! ### The port is closed (R129) -/

theorem dropAssembly_eq (port : Port) (s : State) : dropAssembly port s =
    if (s.port port).asm.any (·.hasBuffer) then returnBuffer (s.setPort port { s.port port with asm := none })
    else s.setPort port { s.port port with asm := none } := by
  unfold dropAssembly
  cases ha : (s.port port).asm with
  | none =>
    have hself : ({ s.port port with asm := none } : PortState) = s.port port := by rw [← ha]
    rw [hself, setPort_port]; rfl
  | some a => rfl

theorem dropAssembly_offers (port : Port) (s : State) :
    Offers (s.setPort port { s.port port with asm := none }) (dropAssembly port s) := by
  rw [dropAssembly_eq]
  split
  · exact returnBuffer_offers _
  · exact .refl _

theorem returnBuffers_calm {n : Nat} {s : State} (h : s.pool.held = false) :
    returnBuffers n s = setFree (s.pool.free + n) s := by
  induction n generalizing s with
  | zero => rfl
  | succ n ih =>
    rw [returnBuffers, returnBuffer_calm (.inl h), ih (by exact h)]
    simp only [setFree, State.setPool_pool, Nat.add_assoc, Nat.add_comm 1 n]
    rfl

/-- The buffer of the assembly, if it has one. -/
def asmBuffers (q : PortState) : Nat := if q.asm.any (·.hasBuffer) then 1 else 0

theorem dropAssembly_calm {port : Port} {s : State} (h : s.pool.held = false) :
    dropAssembly port s = setFree (s.pool.free + asmBuffers (s.port port)) (s.setPort port { s.port port with asm := none }) := by
  rw [dropAssembly_eq, asmBuffers]
  split
  · rw [returnBuffer_calm (.inl (by rw [setPort_pool]; exact h)), setPort_pool]
  · cases port <;> rfl

/-- The port's queue flushed with its buffers, after the assembly (R129). -/
def closed (port : Port) (s : State) : State :=
  returnBuffers ((dropAssembly port s).port port).queue.length
    ((dropAssembly port s).modPort port (closePort (dropAssembly port s).now))

theorem closed_offers (port : Port) (s : State) :
    Offers (s.setPort port (closePort s.now ((dropAssembly port s).port port))) (closed port s) := by
  have h := (dropAssembly_offers port s).modPort (closePort (dropAssembly port s).now)
  have hnow : (dropAssembly port s).now = s.now := (dropAssembly_offers port s).now.trans (setPort_now ..)
  rw [hnow] at h
  refine Offers.trans h ?_
  rw [closed, hnow]
  exact returnBuffers_offers _ _

theorem closed_shut (port : Port) (s : State) : ((closed port s).port port).mode = .broken ∧ ((closed port s).port port).queue = [] := by
  have h := returnBuffers_shut port ((dropAssembly port s).modPort port (closePort (dropAssembly port s).now))
    ((dropAssembly port s).port port).queue.length
  have hself := port_modPort_self port (closePort (dropAssembly port s).now) (dropAssembly port s)
  obtain ⟨hm, hq⟩ := h (by rw [hself]; rfl)
  exact ⟨hm, hq.trans (by rw [hself]; rfl)⟩

theorem closed_calm {port : Port} {s : State} (h : s.pool.held = false) :
    (closed port s).pool = { s.pool with free := s.pool.free + portBuffers (s.port port) } ∧
      (closed port s).port port = closePort s.now { s.port port with asm := none } := by
  have hport : (dropAssembly port s).port port = { s.port port with asm := none } := by
    rw [dropAssembly_calm h, setFree_port, port_setPort_self]
  have hpool : (dropAssembly port s).pool = { s.pool with free := s.pool.free + asmBuffers (s.port port) } := by
    rw [dropAssembly_calm h, setFree_setPort, setPort_pool]
  have hnow : (dropAssembly port s).now = s.now := (dropAssembly_offers port s).now.trans (setPort_now ..)
  have hheld : ((dropAssembly port s).modPort port (closePort s.now)).pool.held = false := by
    rw [modPort_eq_setPort, setPort_pool, hpool]; exact h
  rw [closed, hnow, hport, returnBuffers_calm hheld, setFree_port, port_modPort_self, hport]
  refine ⟨?_, rfl⟩
  rw [modPort_eq_setPort, setPort_pool, hpool, setFree_setPort, setPort_pool, hpool, portBuffers, ← Nat.add_assoc]
  rfl

/-! ### The blocks that hear of it (R168) -/

/-- The part of a break that comes after the port: on P the scheduler's. -/
def brokenOn (port : Port) (s : State) : State :=
  match port with
  | .p => pBreak s
  | _ => s

theorem enterBreak_eq (port : Port) (s : State) : enterBreak port s = settleNotices (brokenOn port (closed port s)) := by
  cases port <;> rfl

theorem brokenOn_frame (port : Port) (s : State) : brokenOn port s =
    { s with sup := (brokenOn port s).sup, sched := (brokenOn port s).sched, level := (brokenOn port s).level } := by
  cases port
  · rfl
  · rfl
  · exact (pBreak_lost s).frame

theorem segmentBreakCond_of {port : Port} {s : State} (h : (s.port port).mode = .broken) : segmentBreakCond s = true := by
  cases port
  · have hb : s.portH.mode = .broken := h
    simp [segmentBreakCond, hb]
  · have hb : s.portY.mode = .broken := h
    simp [segmentBreakCond, hb]
  · have hb : s.portP.mode = .broken := h
    simp [segmentBreakCond, hb]

/-- A port in BREAK shows SEGMENT_BREAK in the pending set (R130). -/
theorem pendingSet_segmentBreak {s : State} (h : segmentBreakCond s = true) : (pendingSet s).getLsbD 10 = true := by
  have hbit : (condBit (segmentBreakCond s) .segmentBreak).getLsbD 10 = true := by rw [h]; rfl
  simp only [pendingSet, conditionSet, BitVec.getLsbD_or, hbit, Bool.or_true, Bool.true_or]

/-- A line active for 100 ms, as R129 measures it. -/
theorem lineHeldActive_eq {q : PortState} {since now : Nat} (h : q.line = .active since ∨ q.line = .busy since) :
    lineHeldActive q now = decide (since + breakTicks ≤ now) := by
  unfold lineHeldActive
  rcases h with h | h <;> rw [h]

theorem breakTicks_eq : breakTicks = 1000 := by simp [breakTicks, ticksPerMs]

/-- Settles O35: the port is closed and its buffers return; then the scheduler hears of it, and the notices settle. -/
theorem breakFlushesThePort : Obligations.BreakFlushesThePort := by
  intro port since s hm hl
  have hheld := lineHeldActive_eq (now := s.now) hl
  rw [breakTicks_eq] at hheld
  refine ⟨fun hnot => act_not ?_, fun hover => ?_⟩
  · rw [hheld, decide_eq_false (Nat.not_le.mpr hnot), Bool.and_false]
  have hexec : exec (.breakEntry port) s = .next (finish (enterBreak port s)) :=
    act_finish (by simp [hheld, hm, hover])
  rw [enterBreak_eq] at hexec
  have hoffers := closed_offers port s
  obtain ⟨hmode, hqueue⟩ := closed_shut port s
  have hcalm := closed_calm (port := port) (s := s)
  obtain ⟨its, fl, qf, hdrop⟩ := (dropAssembly_offers port s).self
  rw [hdrop] at hoffers
  obtain ⟨its', fl', qf', hself⟩ := hoffers.self
  generalize closed port s = u at *
  have hframe := brokenOn_frame port u
  have hroom (hp : port ≠ .p) : brokenOn port u = u := by
    cases port with
    | h => rfl
    | y => rfl
    | p => exact absurd rfl hp
  have hplant (hp : port = .p) : PlantLost u (brokenOn port u) := by subst hp; exact pBreak_lost u
  obtain ⟨⟨hnow, hpending, hidx⟩, ⟨hrelay, hzone, hsup, hrecov⟩, ⟨hlevel, hvol, hacct⟩, hsched, hmgmt, hnv⟩ :=
    hoffers.onlyPorts_of_setPort
  have hports (other : Port) : (brokenOn port u).port other = u.port other := by rw [hframe]; cases other <;> rfl
  have hpool : (brokenOn port u).pool = u.pool := by rw [hframe]
  have hmgmt' : (brokenOn port u).mgmt = s.mgmt := by rw [hframe]; exact hmgmt
  have hfin : Finishes (brokenOn port u) (finish (settleNotices (brokenOn port u))) :=
    (settleNotices_reports _).finishes.trans (finish_finishes _)
  obtain ⟨hmode', hqueue'⟩ := (settleNotices_shut port _).trans (finish_shut port _) (by rw [hports]; exact hmode)
  rw [hports, hqueue] at hqueue'
  obtain ⟨its'', fl'', qf'', hend⟩ := hfin.port port
  rw [hports, hself] at hend
  obtain ⟨line, timer, hm'⟩ := hfin.mgmt
  refine ⟨_, hexec, hmode', hqueue', ?_, ?_, ?_, ?_, ?_, pendingSet_segmentBreak (segmentBreakCond_of hmode'), ?_,
    fun hs hline hopen => ?_, fun other ho => ?_, ?_, ?_, ?_, ?_, ?_, ?_, ?_, fun hp => ?_, fun hp => ?_⟩
  · rw [hend]; rfl
  · rw [hend]; rfl
  · rw [hend]; rfl
  · rw [hend]
    rcases hl with h | h
    · exact ⟨since, by simp [closePort, brokenLine, h], hover⟩
    · exact ⟨s.now - breakTicks, by simp [closePort, brokenLine, h], by rw [breakTicks_eq]; omega⟩
  · rw [hend]; rfl
  · rw [hm', hmgmt']
  · obtain ⟨hfree, hport⟩ := hcalm hopen
    have hmuted : Muted (brokenOn port u) := .inl (by rw [hmgmt']; exact hline)
    obtain ⟨m, hset, hstill⟩ := settleNotices_muted hmuted
    have hquiet : (settleNotices (brokenOn port u)).sched.wake = false ∨
        (settleNotices (brokenOn port u)).portP.mode = .broken := by
      rw [hset]
      by_cases hp : port = .p
      · subst hp
        exact .inr ((congrArg PortState.mode (hports .p)).trans hmode)
      · rw [hroom hp]
        exact .inl ((congrArg Scheduler.wake hsched).trans hs.quiet)
    obtain ⟨hpool', hports'⟩ := finish_muted hstill hquiet
    rw [hpool', hports', hset, setMgmt_port, hports, hport]
    exact ⟨rfl, hpool.trans hfree⟩
  · have hother := hfin.port other
    rw [hports] at hother
    exact (hoffers.other ho).trans hother
  · exact ⟨hfin.now.trans (by rw [hframe]; exact hnow), hfin.pending.trans (by rw [hframe]; exact hpending),
      hfin.freeIdx.trans (by rw [hframe]; exact hidx)⟩
  · exact hfin.relay.trans (by rw [hframe]; exact hrelay)
  · exact hfin.zone.trans (by rw [hframe]; exact hzone)
  · exact hfin.recov.trans (by rw [hframe]; exact hrecov)
  · exact hfin.vol.trans (by rw [hframe]; exact hvol)
  · exact hfin.acct.trans (by rw [hframe]; exact hacct)
  · exact hfin.nv.trans (by rw [hframe]; exact hnv)
  · rw [hroom hp] at hfin ⊢
    exact ⟨hfin.sup.trans hsup, hfin.level.trans hlevel, KeepsNodes.trans (by rw [KeepsNodes, hsched]) hfin.keepsNodes⟩
  · obtain ⟨-, hexch, hlist, hunknown, hkept⟩ := hplant hp
    subst hp
    have hidle : (finish (settleNotices (brokenOn .p u))).sched =
        { (brokenOn .p u).sched with wake := false } := by
      have hbroken : (settleNotices (brokenOn .p u)).portP.mode = .broken :=
        (settleNotices_shut .p (brokenOn .p u) (by rw [hports]; exact hmode)).1
      rw [finish, (settleNotices_reports _).sched, arbitrate_idle (.inr hbroken), State.setSched_sched,
        (settleNotices_reports _).sched]
    refine ⟨by rw [hidle]; exact hexch, by rw [hidle]; exact hlist.trans (congrArg Scheduler.relayList hsched),
      fun slot => hfin.keepsNodes.reportsUnknown (hunknown slot), ?_⟩
    exact hfin.keepsNodes.kept.trans (hkept.trans (by rw [hsched]; rfl))

/-! ### The port returns (R130, R168) -/

/-- A port that has returned: ACTIVE and ready. -/
def reopened (q : PortState) : PortState := { q with mode := .active, armed := true }

/-- The part of a return that comes after the port: on P the scheduler's. -/
def returnedOn (port : Port) (s : State) : State :=
  match port with
  | .p => pReturn s
  | _ => s

theorem leaveBreak_eq (port : Port) (s : State) :
    leaveBreak port s = settleNotices (returnedOn port (s.setPort port (reopened (s.port port)))) := by
  cases port <;> rfl

/-- An entry when P has returned: due now, its valve's command pending. -/
def returnedEntry (now : Nat) (e : PollEntry) : PollEntry :=
  { (e.modValve fun r => { r with pending := true }) with due := now }

theorem pReturn_eq (s : State) : pReturn s =
    s.setSched { s.sched with slots := s.sched.slots.map (Option.map (returnedEntry s.tenths)), wake := true } := rfl

theorem returnedOn_spec (port : Port) (s : State) : ∃ d, returnedOn port s = s.setSched d ∧ KeepsNodes s (s.setSched d) ∧
    (port = .p → d.slots = s.sched.slots.map (Option.map (returnedEntry s.tenths))) := by
  have room : KeepsNodes s (s.setSched s.sched) := .refl s
  cases port with
  | h => exact ⟨s.sched, rfl, room, nofun⟩
  | y => exact ⟨s.sched, rfl, room, nofun⟩
  | p =>
    refine ⟨_, pReturn_eq s, ?_, fun _ => rfl⟩
    simp only [KeepsNodes, State.setSched_sched, List.map_map, Option.map_comp_map]
    refine map_option_congr fun e _ => ?_
    obtain ⟨_, _ | r⟩ := e <;> rfl

/-- Of a command's end each entry keeps its due time and its valve record. -/
theorem Finishes.entry {s t : State} (h : Finishes s t) {slot : Nat} {e : PollEntry}
    (he : slotGet t.sched.slots slot = some e) :
    ∃ e', slotGet s.sched.slots slot = some e' ∧ e.due = e'.due ∧ e.valve? = e'.valve? := by
  have hslot := slotGet_map_congr h.slots slot
  rw [he] at hslot
  obtain ⟨e', he', hforget⟩ := Option.map_eq_some_iff.mp hslot.symm
  have hdue : (forgetStart e').due = (forgetStart e).due := congrArg PollEntry.due hforget
  have hvalve : (forgetStart e').valve? = (forgetStart e).valve? := congrArg PollEntry.valve? hforget
  exact ⟨e', he', hdue.symm, hvalve.symm⟩

theorem segmentBreakCond_iff (s : State) : segmentBreakCond s = true ↔ ∃ port, (s.port port).mode = .broken := by
  refine ⟨fun h => ?_, fun ⟨port, h⟩ => segmentBreakCond_of h⟩
  simp only [segmentBreakCond, Bool.or_eq_true, decide_eq_true_eq] at h
  rcases h with (h | h) | h
  · exact ⟨.h, h⟩
  · exact ⟨.y, h⟩
  · exact ⟨.p, h⟩

theorem returnTicks_eq : returnTicks = 10000 := by simp [returnTicks, ticksPerSecond]

/-- Settles O36: the port is open; then the scheduler hears of it, and the notices settle. -/
theorem idleLineEndsTheBreak : Obligations.IdleLineEndsTheBreak := by
  intro port since s hm hl hover
  have hidle : lineIdleFor (s.port port) returnTicks s.now = true :=
    lineIdleFor_iff.mpr ⟨since, hl, by rw [returnTicks_eq]; exact hover⟩
  have hexec : exec (.breakExit port) s = .next (finish (leaveBreak port s)) := act_finish (by simp [hm, hidle])
  rw [leaveBreak_eq] at hexec
  obtain ⟨d, hd, hnodes, hslots⟩ := returnedOn_spec port (s.setPort port (reopened (s.port port)))
  rw [hd] at hexec
  have hfin : Finishes ((s.setPort port (reopened (s.port port))).setSched d) (finish (settleNotices
      ((s.setPort port (reopened (s.port port))).setSched d))) :=
    (settleNotices_reports _).finishes.trans (finish_finishes _)
  generalize finish (settleNotices ((s.setPort port (reopened (s.port port))).setSched d)) = t at *
  obtain ⟨⟨hnow, hpending, hidx⟩, ⟨hrelay, hzone, hsup, hrecov⟩, ⟨hlevel, hvol, hacct⟩, hsched, hmgmt, hnv⟩ :=
    setPort_onlyPorts port (reopened (s.port port)) s
  have hself := hfin.port port
  rw [setSched_port, port_setPort_self] at hself
  have hothers (other : Port) (ho : other ≠ port) : PortOffered (s.port other) (t.port other) := by
    have h := hfin.port other
    rwa [setSched_port, port_setPort_other ho] at h
  obtain ⟨its, fl, qf, hport⟩ := hself
  obtain ⟨line, timer, hm'⟩ := hfin.mgmt
  refine ⟨_, hexec, by rw [hport]; rfl, by rw [hport]; rfl, by rw [hport]; rfl, by rw [hport]; rfl, ?_, hothers, ?_, ?_, ?_,
    ?_, ?_, fun hp slot e he => ?_⟩
  · rw [segmentBreakCond_iff]
    constructor
    · rintro ⟨other, hb⟩
      have ho : other ≠ port := by
        rintro rfl
        rw [hport] at hb
        cases hb
      exact ⟨other, ho, (hothers other ho).mode.symm.trans hb⟩
    · rintro ⟨other, ho, hb⟩
      exact ⟨other, (hothers other ho).mode.trans hb⟩
  · exact ⟨hfin.now.trans hnow, hfin.pending.trans hpending, hfin.freeIdx.trans hidx⟩
  · exact ⟨hfin.relay.trans hrelay, hfin.zone.trans hzone, hfin.sup.trans hsup, hfin.recov.trans hrecov⟩
  · exact ⟨hfin.level.trans hlevel, hfin.vol.trans hvol, hfin.acct.trans hacct⟩
  · exact ⟨hfin.nv.trans hnv, line, timer, by rw [hm', State.setSched_mgmt, hmgmt]⟩
  · exact KeepsNodes.trans (by rw [KeepsNodes, hsched]) (hnodes.trans hfin.keepsNodes)
  · obtain ⟨e1, he1, hdue, hvalve⟩ := hfin.entry he
    rw [State.setSched_sched, hslots hp, slotGet_map] at he1
    obtain ⟨e0, -, rfl⟩ := Option.map_eq_some_iff.mp he1
    refine ⟨hdue.trans (congrArg (· / ticksPerTenth) hnow), fun r hr => ?_⟩
    rw [hvalve] at hr
    obtain ⟨_, _ | r0⟩ := e0
    · cases hr
    · cases hr; rfl

end Sys2Proof.Machine
end

section
/-! The ports and the pool after a reset (R141, R174, R177). -/

namespace Sys2Proof.Machine

/-- The ports, the pool and the NOTICE line as a reset has loaded them (R141). -/
structure FreshPorts (s : State) : Prop where
  port : ∀ port, ∃ line, s.port port = { line := line }
  pool : s.pool = {}
  line : s.mgmt.line = false

theorem Reports.noticeTel {s t : State} (h : Reports s t) : noticeTel t = noticeTel s := by
  rw [Machine.noticeTel, Machine.noticeTel, h.enabledSet, h.pendingSet]

/-- With nothing enabled the ports and the pool stay as they are loaded. -/
theorem settleNotices_fresh_none {s : State} (h : FreshPorts s) (h0 : enabledSet s = 0) :
    (settleNotices s).pool = {} ∧ ∀ port, ∃ line, (settleNotices s).port port = { line := line } := by
  obtain ⟨m, hset, -⟩ := settleNotices_muted (.inr h0)
  rw [hset]
  exact ⟨h.pool, fun port => by rw [setMgmt_port]; exact h.port port⟩

/-- With a kind enabled a NOTICE joins the queues of H and of Y. -/
theorem settleNotices_fresh_some {s : State} (h : FreshPorts s) (h0 : enabledSet s ≠ 0) :
    (settleNotices s).pool = { free := 30 } ∧
      (∃ line, (settleNotices s).portH = queueing (noticeTel s) { line := line }) ∧
      (∃ line, (settleNotices s).portY = queueing (noticeTel s) { line := line }) ∧
      ∃ line, (settleNotices s).portP = { line := line } := by
  obtain ⟨lH, hH⟩ := h.port .h
  obtain ⟨lY, hY⟩ := h.port .y
  have hH : s.portH = _ := hH
  have hY : s.portY = _ := hY
  have room (l : Line) : HasRoom { line := l } := ⟨rfl, Nat.zero_lt_succ _⟩
  have hjoins := composeNotices_joins (s := s.setMgmt { s.mgmt with line := true, repeatFrom := some s.now })
    (by rw [State.setMgmt_pool, h.pool]; decide) (.inr (by rw [State.setMgmt_pool, h.pool]; decide))
    (by rw [State.setMgmt_portH, hH]; exact room lH) (by rw [State.setMgmt_portY, hY]; exact room lY)
  have htel : noticeTel (s.setMgmt { s.mgmt with line := true, repeatFrom := some s.now }) = noticeTel s := rfl
  rw [htel, State.setMgmt_portH, State.setMgmt_portY, State.setMgmt_pool, hH, hY, h.pool] at hjoins
  rw [settleNotices, if_neg h0, h.line, if_neg Bool.false_ne_true, hjoins]
  exact ⟨rfl, ⟨lH, rfl⟩, ⟨lY, rfl⟩, h.port .p⟩

/-- Settles O2: the loaded ports and pool, and the NOTICE that the loaded state owes. -/
theorem resetRestartsThePorts : Obligations.ResetRestartsThePorts := by
  intro c s hc
  refine ⟨_, exec_of_takesReset hc, ?_⟩
  have hloaded := settleReset_loaded _ (storeFound s) (safetyFound s) s rfl
  rw [resetPart, hloaded]
  generalize hu : ({ loaded (storeFound s) (safetyFound s) s with
    sup := supervisorRestored ((storeFound s).getD factoryImage)
      (recoveryAfterReset ((storeFound s).getD factoryImage) (safetyFound s)) s.sup.run.raw s.sup.lockout.raw
    nv := storesRestored (storeFound s) (safetyFound s)
      (recoveryAfterReset ((storeFound s).getD factoryImage) (safetyFound s)) } : State) = u
  have hfresh : FreshPorts u := by
    subst hu
    exact ⟨fun port => by cases port <;> exact ⟨_, rfl⟩, rfl, rfl⟩
  have hnow : u.now = 0 := by subst hu; rfl
  have hpending : u.pending = s.pending := by subst hu; rfl
  have hreports := settleNotices_reports u
  have hnone := settleNotices_fresh_none hfresh
  have hsome := settleNotices_fresh_some hfresh
  have henabled : enabledSet (settleNotices u) = enabledSet u := hreports.enabledSet
  have hport (port : Port) : ∃ line its, (settleNotices u).port port = { line := line, queue := its } := by
    by_cases h0 : enabledSet u = 0
    · obtain ⟨line, h⟩ := (hnone h0).2 port
      exact ⟨line, [], h⟩
    · obtain ⟨-, ⟨lH, hH⟩, ⟨lY, hY⟩, lP, hP⟩ := hsome h0
      cases port with
      | h => exact ⟨lH, _, hH⟩
      | y => exact ⟨lY, _, hY⟩
      | p => exact ⟨lP, [], hP⟩
  refine ⟨hreports.now.trans hnow, hreports.pending.trans hpending, ?_, fun port => ?_, fun h0 => ?_, fun h0 => ?_⟩
  · rw [← Bool.not_eq_true, segmentBreakCond_iff]
    rintro ⟨port, hb⟩
    obtain ⟨line, its, h⟩ := hport port
    rw [h] at hb
    cases hb
  · obtain ⟨line, its, h⟩ := hport port
    rw [h]
    exact ⟨rfl, rfl, rfl, rfl, rfl, rfl⟩
  · rw [henabled] at h0
    obtain ⟨hpool, hqueues⟩ := hnone h0
    refine ⟨fun port => ?_, hpool⟩
    obtain ⟨line, h⟩ := hqueues port
    rw [h]
  · rw [henabled] at h0
    obtain ⟨hpool, ⟨lH, hH⟩, ⟨lY, hY⟩, lP, hP⟩ := hsome h0
    rw [hreports.noticeTel, hH, hY, hP]
    exact ⟨rfl, rfl, rfl, hpool⟩

end Sys2Proof.Machine
end

section
/-! SUPPORT. A telegram from a source known on its segment is heard and resolved (R143, R148, R151), and what an offer to the queue of
a port makes of it (R131). -/

namespace Sys2Proof.Machine

/-! ### The source is heard (R143, R148) -/

/-- The port after a telegram is delivered: its line ended, RX_GOOD counted. -/
def deliveredPort (now : Nat) (q : PortState) : PortState :=
  { ended now q with ctr := { q.ctr with rxGood := bump q.ctr.rxGood } }

theorem delivered_eq (room : Room) (s : State) :
    delivered room s = s.setPort (roomPort room) (deliveredPort s.now (s.port (roomPort room))) := by
  cases room <;> rfl

/-- What every node entry keeps when its source is heard. -/
def unheard (e : NodeEntry) : NodeEntry := { e with heard := 0, storm := 0 }

/-- A source on its own segment is refreshed and counted: the node table alone changes, and of it what the source's entry says
of the last telegram. -/
theorem counted_known {room : Room} {addr : Nat} {n : NodeEntry} {s : State} (hold : nodeOf s addr = some n)
    (hseg : n.seg = room) : ∃ nodes, counted addr room s = s.setRelay { s.relay with nodes := nodes } ∧
      nodes.map (Option.map unheard) = s.relay.nodes.map (Option.map unheard) ∧
      nodeOf (counted addr room s) addr = some { n with heard := s.sec, storm := bump8 n.storm } ∧
      ∀ other, other ≠ addr → nodeOf (counted addr room s) other = nodeOf s other := by
  cases h : nodeSlot s addr with
  | none => rw [nodeOf_of_nodeSlot_none h] at hold; cases hold
  | some i =>
    obtain ⟨m, hget, -, hm⟩ := nodeSlot_isSome h
    obtain rfl : m = n := Option.some.inj (hm.symm.trans hold)
    have hlearn : learn addr room s = modNode i (fun e => { e with heard := s.sec }) s := by
      rw [learn, h]; exact if_pos (by simp [hget, hseg])
    have hnode := nodeOf_modNode (g := fun e => { e with heard := s.sec }) (fun _ => rfl) h
    rw [counted, hlearn]
    refine ⟨_, rfl, ?_, ?_, fun other ho => ?_⟩
    · have hstorm : unheard ∘ (fun e : NodeEntry => if e.addr = addr then { e with storm := bump8 e.storm } else e) =
          unheard := by
        funext e
        dsimp only [Function.comp]
        split <;> rfl
      rw [List.map_map, Option.map_comp_map, hstorm]
      exact map_modifySlot (g := unheard) (f := fun e => { e with heard := s.sec }) (fun _ => rfl) s.relay.nodes i
    · rw [countStorm_nodeOf, if_pos rfl, hnode, if_pos rfl, hold]; rfl
    · rw [countStorm_nodeOf, if_neg ho, hnode, if_neg ho]

theorem isService_congr {s t : State} (h : t.zone.enrol = s.zone.enrol) (addr : Nat) : isService t addr = isService s addr := by
  simp only [isService, enrolOf, h]

/-- A telegram that arrives is resolved once its source is heard, and nothing is left over until then. -/
theorem arrives_resolved {room : Room} {t : Telegram} {n : NodeEntry} {s : State} (h : ArrivesFrom room t n s) :
    ∃ u, LearnedFrom room t n s u ∧ Settled u ∧
      exec (.rxTelegramEnd (roomPort room) (received t)) s = .next (finish (resolve room t u)) := by
  obtain ⟨hs, ⟨start, hasm⟩, hsilent, hsent, hknown, hhere, hwithin⟩ := h
  have hdelivered := delivered_eq room s
  have hrelay : (delivered room s).relay = s.relay := by rw [hdelivered]; cases room <;> rfl
  have hnode (addr : Nat) : nodeOf (delivered room s) addr = nodeOf s addr := nodeOf_congr (by rw [hrelay]) addr
  have hsec : (delivered room s).sec = s.sec := by rw [hdelivered]; cases room <;> rfl
  have hset : Settled (delivered room s) := by rw [hdelivered]; exact hs.setPort rfl
  obtain ⟨nodes, hframe, hslots, hsource, hothers⟩ := counted_known (s := delivered room s) ((hnode _).trans hknown) hhere
  have hexcess : isExcess t.src.toNat (counted t.src.toNat room (delivered room s)) = false := by
    rcases hwithin with hstorm | hservice
    · have hle : bump8 n.storm ≤ (counted t.src.toNat room (delivered room s)).relay.set.nodeCap := by
        rw [hframe, State.setRelay_relay, hrelay]
        exact (bump8_le _).trans hstorm
      simp [isExcess, hsource, hle]
    · have hserve : isService (counted t.src.toNat room (delivered room s)) t.src.toNat = true := by
        rw [← hservice]
        exact isService_congr (by rw [hframe, hdelivered]; cases room <;> rfl) _
      simp [isExcess, hserve]
  have hresolve : takeFromRoom room t (delivered room s) = resolve room t (counted t.src.toNat room (delivered room s)) :=
    if_neg (ne_true_of_eq_false hexcess)
  refine ⟨counted t.src.toNat room (delivered room s), ⟨?_, ?_, fun addr ho => ?_, ?_⟩, ?_, ?_⟩
  · rw [hframe, hdelivered]; cases room <;> rfl
  · rw [hsource, hsec]
  · rw [hothers addr ho, hnode]
  · rw [hframe]
    refine hslots.trans ?_
    rw [hrelay]; rfl
  · rw [hframe]
    exact hset.congr rfl rfl rfl rfl
  · rw [exec_received hasm hsilent hsent, hresolve]

/-! ### Offers to a queue (R131) -/

/-- A port whose queue is full counts the telegram. -/
def fullCounted (q : PortState) : PortState := { q with ctr := { q.ctr with queueFull := bump q.ctr.queueFull } }

/-- A port in BREAK counts the telegram. -/
def flushCounted (q : PortState) : PortState := { q with ctr := { q.ctr with flushed := bump q.ctr.flushed } }

section
variable {port : Port} {it : QItem} {s : State}

theorem offerItem_joined (hm : (s.port port).mode = .active) (hq : (s.port port).queue.length < queueCap) :
    offerItem port it s = (s.setPort port { s.port port with queue := (s.port port).queue ++ [it] }, true) := by
  unfold offerItem
  simp [hm, hq]

theorem offerItem_full (hm : (s.port port).mode = .active) (hq : queueCap ≤ (s.port port).queue.length) :
    offerItem port it s = (s.setPort port (fullCounted (s.port port)), false) := by
  unfold offerItem
  simp only [hm, Nat.not_lt.mpr hq, if_false]
  rfl

theorem offerItem_flushed (hm : (s.port port).mode = .broken) :
    offerItem port it s = (s.setPort port (flushCounted (s.port port)), false) := by
  unfold offerItem
  simp only [hm]
  rfl

theorem moveToQueue_joined {t : Telegram} {m : QMark} (hm : (s.port port).mode = .active)
    (hq : (s.port port).queue.length < queueCap) : (moveToQueue port t m s).1 =
      s.setPort port { s.port port with queue := (s.port port).queue ++ [{ tel := t, mark := m }] } := by
  rw [moveToQueue, offerItem_joined hm hq]

theorem moveToQueue_full {t : Telegram} {m : QMark} (hm : (s.port port).mode = .active)
    (hq : queueCap ≤ (s.port port).queue.length) :
    (moveToQueue port t m s).1 = returnBuffer (s.setPort port (fullCounted (s.port port))) := by
  rw [moveToQueue, offerItem_full hm hq]

/-- A buffer taken with no threshold crossed and returned leaves the pool as it was. -/
theorem generate_dropped {t : Telegram} {m : QMark} {q : PortState} (hh : s.pool.held = false) (hf : 7 < s.pool.free)
    (ho : ∀ u : State, u.port port = s.port port → offerItem port { tel := t, mark := m } u = (u.setPort port q, false)) :
    (generate port t m s).1 = s.setPort port q := by
  have htake : takeBuffer s = setFree (s.pool.free - 1) s := takeBuffer_calm (.inr (by simp only [holdThreshold]; omega))
  have hheld : ((setFree (s.pool.free - 1) s).setPort port q).pool.held = false := by rw [setPort_pool]; exact hh
  have hfree : ((setFree (s.pool.free - 1) s).setPort port q).pool.free + 1 = s.pool.free := by
    rw [setPort_pool]
    simp only [setFree, State.setPool_pool]
    omega
  rw [generate, if_neg (by omega), htake, ho _ (setFree_port ..)]
  dsimp only
  rw [returnBuffer_calm (.inl hheld), hfree]
  cases port <;> rfl

end

end Sys2Proof.Machine
end

section
/-! Responses to requests, in commands and in telegrams (R131, R137, R138, R170, R171). -/

namespace Sys2Proof.Machine

/-- A request command handles its request and answers it (R170). -/
theorem exec_request {c : Instr} {op : Op} {obj idx : Byte} {q : Req} (h : requestOf c = some (op, obj, idx, q)) (s : State) :
    exec c s = .next (finish (respond q.room q.src op.code obj idx (answerOf op obj idx q s)
      (handle op.code obj idx q.room q.src q.data s).1)) := by
  cases c <;> cases h <;> rfl

/-- A response is the telegram of R124. -/
theorem responseTel_eq (dest : Byte) (st : Status) (op obj idx : Byte) (data : List Byte) :
    responseTel dest st op obj idx data = composeTel dest 0x41 (st.code :: op :: obj :: idx :: data) := rfl

/-! ### READs (R171) -/

/-- A READ of an item's first part. -/
theorem read_answer {obj idx : Byte} {o : Obj} {q : Req} {item : List Byte} {s : State} (hq : q.data = []) (ho : objOf obj = some o)
    (hi : idx.toNat ≤ o.lastIndex) (hitem : showItem s o idx.toNat = item) (hlen : item.length ≤ 12) :
    answerOf .read obj idx q s = .now .ok item .plain := by
  have hread : answerOf .read obj idx q s = handleRead obj idx q.data s := rfl
  rw [hread, handleRead, hq, ho]
  simp only [Nat.not_lt.mpr hi, if_false, hitem, partOf, List.take_of_length_le hlen]

/-- An item of fields that are all present is their bytes. -/
theorem encodeItem_of_present {fs : List Field} (h : fs.filterMap (·.present) = []) :
    encodeItem fs = fs.flatMap (·.bytes) := by
  rw [encodeItem, presenceBytes, h]; rfl

theorem encodeItem_num (w v : Nat) : encodeItem [num w v] = beBytes w v :=
  (encodeItem_of_present rfl).trans (List.append_nil _)

theorem encodeItem_num_num (w v w' v' : Nat) : encodeItem [num w v, num w' v'] = beBytes w v ++ beBytes w' v' :=
  (encodeItem_of_present rfl).trans (congrArg (beBytes w v ++ ·) (List.append_nil _))

/-! ### The obligation -/

/-- Settles O50: the request is handled, and its response is a telegram generated for the arrival port's queue. -/
theorem responsesJoinTheQueue : Obligations.ResponsesJoinTheQueue := by
  refine ⟨fun c op obj idx q s h => exec_request h s, fun room t n s h hdest hkind => ?_,
    fun room port src op obj idx st data mark s hport => ?_, fun q s hq => ?_⟩
  · obtain ⟨u, hlearned, hset, hexec⟩ := arrives_resolved h
    have hmgmt : u.mgmt = s.mgmt := by rw [hlearned.frame]; cases room <;> rfl
    have hresolve : resolve room t u = takeRequest room t u := by
      have hown : ownKind t.kind = false := by rw [hkind]; decide
      have hnot : t.kind ≠ kindDemand := by rw [hkind]; decide
      rw [resolve, if_neg (by simp [hown]), if_pos hdest, if_neg hnot]
      exact if_pos hkind
    rw [hresolve] at hexec
    refine ⟨u, hlearned, fun hshort => ?_, fun op obj idx data v r hpay hhandle => ?_⟩
    · have hbad : takeRequest room t u =
          returnBuffer { u with mgmt := { s.mgmt with badRequest := bump s.mgmt.badRequest } } := by
        rw [← hmgmt]
        unfold takeRequest
        split
        · next hpay => rw [hpay] at hshort; simp at hshort; omega
        · rfl
      have hsettled : Settled ({ u with mgmt := { s.mgmt with badRequest := bump s.mgmt.badRequest } } : State) :=
        hset.congr rfl (enabledSet_congr rfl rfl rfl rfl rfl rfl rfl rfl (by rw [hmgmt]) (by rw [hmgmt])) (by rw [hmgmt])
          (by rw [hmgmt])
      rw [hexec, hbad, finish_of_settled ((returnBuffer_offers _).settled hsettled)]
    · have hgood : takeRequest room t u = respond room t.src op obj idx r (returnBuffer v) := by
        rw [takeRequest, hpay]
        dsimp only
        rw [← hhandle]
      rw [hexec, hgood]
  · subst hport
    refine ⟨fun hf => ?_, fun hc => ?_, fun hh hf hm => ?_, fun hh hf hm hq => ?_⟩
    · rw [respond, generate, if_pos hf]
      rfl
    · have hcalm : s.pool.held = true ∨ holdThreshold < s.pool.free - 1 := hc.calm.imp_right fun h => by omega
      simp only [respond, generate_joins _ _ mark s hc.buffer hcalm hc.active hc.room, responseTel_eq]
      rfl
    · exact generate_dropped hh hf fun u hu => by
        rw [offerItem_flushed (by rw [hu]; exact hm), hu]; rfl
    · exact generate_dropped hh hf fun u hu => by
        rw [offerItem_full (by rw [hu]; exact hm) (by rw [hu]; exact hq), hu]; rfl
  · refine ⟨?_, ?_, ?_, ?_, ?_, fun hlog => ?_, rfl, rfl, rfl⟩
    · exact read_answer (o := .notice) hq rfl (by decide) (encodeItem_num 2 _) (by simp)
    · exact read_answer (o := .notice) hq rfl (by decide) (encodeItem_num 2 _) (by simp)
    · exact read_answer (o := .burnerSet) hq rfl (by decide) (encodeItem_num 2 _) (by simp)
    · have hshow : showItem s .history 0 = itemOf s.vol.chain[0]? showStage := rfl
      cases hc : s.vol.chain with
      | nil => exact read_answer (o := .history) hq rfl (by decide) (hshow.trans (by rw [hc]; rfl)) (by simp)
      | cons h0 older =>
        exact read_answer (o := .history) hq rfl (by decide)
          (hshow.trans (by rw [hc]; exact encodeItem_num_num 4 h0.v15 4 h0.time)) (by simp)
    · exact read_answer (o := .tankState) hq rfl (by decide) (encodeItem_num_num 4 _ 4 _) (by simp)
    · exact read_answer (o := .lockoutLog) hq rfl (by decide) (by
        show itemOf (newest s.recov.log 0) showLockout = []
        rw [hlog]; rfl) (by simp)

end Sys2Proof.Machine
end

section
/-! A telegram for another station: the candidate, filter and move stages (R150, R152 to R154). -/

namespace Sys2Proof.Machine

/-- The counters with a telegram relayed from a room counted (R154). -/
def relayedFrom : Room → RelayCounters → RelayCounters
  | .h, c => { c with relayedY := bump c.relayedY }
  | .y, c => { c with relayedH := bump c.relayedH }

/-- The relay unit with a broadcast from a room counted (R150). -/
def castFrom (room : Room) (r : Relay) : Relay :=
  { r with
    bcastH := if room = .y then r.bcastH + 1 else r.bcastH
    bcastY := if room = .h then r.bcastY + 1 else r.bcastY }

section
variable {room : Room} {t : Telegram} {s : State}

/-! ### The stages together -/

theorem relayOn_local (hc : candidate room t.dest s = none) :
    relayOn room t s = returnBuffer
      { s with relay := { s.relay with ctr := { s.relay.ctr with localDest := bump s.relay.ctr.localDest } } } := by
  rw [relayOn, hc]
  rfl

theorem relayOn_filtered {port : Port} {count : RelayCounters → RelayCounters} (hc : candidate room t.dest s = some port)
    (hf : filterCase port t s = some count) : relayOn room t s = returnBuffer
      { s with relay := { s.relay with ctr := count s.relay.ctr } } := by
  simp only [relayOn, hc, hf]
  rfl

theorem relayOn_moved {port : Port} (hc : candidate room t.dest s = some port) (hf : filterCase port t s = none) :
    relayOn room t s = moveTelegram room port t s := by
  simp only [relayOn, hc, hf]

/-! ### The candidate (R152) -/

theorem candidate_broadcast (hd : t.dest = broadcast) : candidate room t.dest s = some (roomPort (otherRoom room)) := if_pos hd

theorem candidate_here {n : NodeEntry} (hd : t.dest ≠ broadcast) (hn : nodeOf s t.dest.toNat = some n) (hseg : n.seg = room) :
    candidate room t.dest s = none := by
  rw [candidate, if_neg hd, hn]
  exact if_pos hseg

/-- Learned on the other segment, or unknown to the node table and the poll list: the other room segment. -/
theorem candidate_other (hd : t.dest ≠ broadcast) (h : (∃ n, nodeOf s t.dest.toNat = some n ∧ n.seg ≠ room) ∨
    (nodeOf s t.dest.toNat = none ∧ inPollList s t.dest.toNat = false)) :
    candidate room t.dest s = some (roomPort (otherRoom room)) := by
  rw [candidate, if_neg hd]
  rcases h with ⟨n, hn, hseg⟩ | ⟨hn, hlist⟩
  · rw [hn]; exact if_neg hseg
  · rw [hn]; exact if_neg (ne_true_of_eq_false hlist)

theorem candidate_plant (hd : t.dest ≠ broadcast) (hn : nodeOf s t.dest.toNat = none) (hlist : inPollList s t.dest.toNat = true) :
    candidate room t.dest s = some .p := by
  rw [candidate, if_neg hd, hn]
  exact if_pos hlist

/-! ### The filter (R153) -/

/-- The source test: P alone is kept from sources that are not privileged. -/
theorem unguarded_room : ¬ (roomPort (otherRoom room) = .p && !isService s t.src.toNat) = true := by
  cases room <;> simp [roomPort, otherRoom]

theorem unguarded_plant (hserve : isService s t.src.toNat = true) :
    ¬ ((Port.p = .p : Bool) && !isService s t.src.toNat) = true := by
  simp [hserve]

theorem filterCase_guard (hserve : isService s t.src.toNat = false) :
    filterCase .p t s = some fun c => { c with plantGuard := bump c.plantGuard } :=
  if_pos (by simp [hserve])

theorem filterCase_down {port : Port} (hguard : ¬ (port = .p && !isService s t.src.toNat) = true)
    (hm : (s.port port).mode = .broken) :
    filterCase port t s = some fun c => { c with segmentDown := bump c.segmentDown } := by
  rw [filterCase, if_neg hguard, if_pos hm]

theorem filterCase_capped {port : Port} (hguard : ¬ (port = .p && !isService s t.src.toNat) = true)
    (hm : (s.port port).mode = .active) (hd : t.dest = broadcast) (hcap : s.relay.set.bcastCap ≤ bcastCount s port) :
    filterCase port t s = some fun c => { c with bcastDrop := bump c.bcastDrop } := by
  rw [filterCase, if_neg hguard, if_neg (by simp [hm]), if_pos (by simp [hd, hcap])]

theorem filterCase_passed {port : Port} (hguard : ¬ (port = .p && !isService s t.src.toNat) = true)
    (hm : (s.port port).mode = .active) (hcap : t.dest = broadcast → bcastCount s port < s.relay.set.bcastCap) :
    filterCase port t s = none := by
  have hnot : ¬ (t.dest = broadcast && decide (s.relay.set.bcastCap ≤ bcastCount s port)) = true := by
    simp only [Bool.and_eq_true, decide_eq_true_eq, not_and, Nat.not_le]
    exact hcap
  rw [filterCase, if_neg hguard, if_neg (by simp [hm]), if_neg hnot]

/-- A candidate in BREAK: the telegram is discarded as SEGMENT_DOWN. -/
theorem relayOn_down {port : Port} (hc : candidate room t.dest s = some port)
    (hguard : ¬ (port = .p && !isService s t.src.toNat) = true) (hm : (s.port port).mode = .broken) :
    relayOn room t s = returnBuffer
      { s with relay := { s.relay with ctr := { s.relay.ctr with segmentDown := bump s.relay.ctr.segmentDown } } } := by
  rw [relayOn_filtered hc (filterCase_down hguard hm)]

/-! ### The move (R150, R154) -/

/-- The move to the other room segment offers the telegram to its queue, once it is counted. -/
theorem moveTelegram_other (hd : t.dest ≠ broadcast) : moveTelegram room (roomPort (otherRoom room)) t s =
    (moveToQueue (roomPort (otherRoom room)) t .plain
      (s.setRelay { s.relay with ctr := relayedFrom room s.relay.ctr })).1 := by
  cases room <;> exact congrArg (fun u => (moveToQueue _ t .plain u).1) (if_neg hd)

theorem moveTelegram_cast (hd : t.dest = broadcast) : moveTelegram room (roomPort (otherRoom room)) t s =
    (moveToQueue (roomPort (otherRoom room)) t .plain
      (s.setRelay (castFrom room { s.relay with ctr := relayedFrom room s.relay.ctr }))).1 := by
  cases room <;> exact congrArg (fun u => (moveToQueue _ t .plain u).1) (if_pos hd)

theorem moveToPlant_listed (h : s.sched.relayList.length < 4) : moveToPlant room t s =
    { s with
      relay := { s.relay with ctr := { s.relay.ctr with relayedP := bump s.relay.ctr.relayedP } }
      sched := { s.sched with relayList := s.sched.relayList ++ [(t, room)], wake := true } } := if_pos h

theorem moveToPlant_full (h : 4 ≤ s.sched.relayList.length) :
    moveToPlant room t s = discard (fun c => { c with relayListFull := bump c.relayListFull }) s :=
  if_neg (Nat.not_lt.mpr h)

/-- An offer to a queue behind a change of the relay unit: the telegram joins. -/
theorem moveToQueue_relayed {port : Port} {m : QMark} (r : Relay) (hm : (s.port port).mode = .active)
    (hq : (s.port port).queue.length < 8) : (moveToQueue port t m (s.setRelay r)).1 =
      (s.setRelay r).setPort port { s.port port with queue := (s.port port).queue ++ [{ tel := t, mark := m }] } := by
  have hport : (s.setRelay r).port port = s.port port := by cases port <;> rfl
  rw [moveToQueue_joined (by rwa [hport]) (by rwa [hport]), hport]

/-- An offer to a queue behind a change of the relay unit: the queue is full. -/
theorem moveToQueue_relayed_full {port : Port} {m : QMark} (r : Relay) (hm : (s.port port).mode = .active)
    (hq : 8 ≤ (s.port port).queue.length) : (moveToQueue port t m (s.setRelay r)).1 =
      returnBuffer ((s.setRelay r).setPort port (fullCounted (s.port port))) := by
  have hport : (s.setRelay r).port port = s.port port := by cases port <;> rfl
  rw [moveToQueue_full (by rwa [hport]) (by rwa [hport]), hport]

/-! ### Consumption leaves it (R151) -/

/-- A telegram for another station, of a kind that is not the BX40's own, is relayed. -/
theorem resolve_relayOn (hd : t.dest ≠ 0) (hown : ownKind t.kind = false) : resolve room t s = relayOn room t s := by
  rw [resolve, if_neg (ne_true_of_eq_false hown), if_neg hd]

end

/-! ### The obligation -/

/-- Settles O43: the candidate of the destination, what the filter makes of it, and the move to the queue or the relay list. -/
theorem relayMovesByAddress : Obligations.RelayMovesByAddress := by
  refine ⟨fun room t n s h hd k12 k20 k22 k30 k31 => ?_, fun room other t s moved hother hmoved => ?_⟩
  · obtain ⟨u, hlearned, -, hexec⟩ := arrives_resolved h
    have hown : ownKind t.kind = false := by
      simp only [ownKind, Bool.or_eq_false_iff, decide_eq_false_iff_not]
      exact ⟨⟨⟨⟨k12, k20⟩, k22⟩, k30⟩, k31⟩
    exact ⟨u, hlearned, by rw [hexec, resolve_relayOn hd hown]⟩
  · subst hother
    obtain rfl : moved = relayedFrom room s.relay.ctr := hmoved.trans (by cases room <;> rfl)
    refine ⟨fun _ hd hn hseg => relayOn_local (candidate_here hd hn hseg), fun hd h => ?_, fun hd hn hlist => ?_,
      fun hd hm => relayOn_down (candidate_broadcast hd) unguarded_room hm, fun hd hm => ?_⟩
    · have hc := candidate_other (room := room) hd h
      have hmove (hm : (s.port (roomPort (otherRoom room))).mode = .active) :=
        (relayOn_moved hc (filterCase_passed unguarded_room hm fun h => absurd h hd)).trans (moveTelegram_other hd)
      exact ⟨fun hm hq => (hmove hm).trans (moveToQueue_relayed _ hm hq),
        fun hm hq => (hmove hm).trans (moveToQueue_relayed_full _ hm hq),
        fun hm => relayOn_down hc unguarded_room hm⟩
    · have hc := candidate_plant (room := room) hd hn hlist
      refine ⟨fun hserve => by rw [relayOn_filtered hc (filterCase_guard hserve)],
        fun hserve hm => relayOn_down hc (unguarded_plant hserve) hm, fun hserve hm => ?_⟩
      have hmove : relayOn room t s = moveToPlant room t s :=
        relayOn_moved hc (filterCase_passed (unguarded_plant hserve) hm fun h => absurd h hd)
      exact ⟨fun hlen => hmove.trans (moveToPlant_listed hlen), fun hlen => hmove.trans (moveToPlant_full hlen)⟩
    · have hc := candidate_broadcast (room := room) (s := s) hd
      have hmove (hcap : bcastCount s (roomPort (otherRoom room)) < s.relay.set.bcastCap) :=
        (relayOn_moved hc (filterCase_passed unguarded_room hm fun _ => hcap)).trans (moveTelegram_cast hd)
      exact ⟨fun hcap => by rw [relayOn_filtered hc (filterCase_capped unguarded_room hm hd hcap)],
        fun hcap hq => (hmove hcap).trans (moveToQueue_relayed _ hm hq),
        fun hcap hq => (hmove hcap).trans (moveToQueue_relayed_full _ hm hq)⟩

end Sys2Proof.Machine
end

section
/-! The relay unit and the zone unit after a reset (R21, R157). -/

namespace Sys2Proof.Machine

/-- A loaded zone is UNUSED or WAITING, and so in no other state (R21). -/
theorem loadedStates_not_contains {st : ZoneState} (hu : st ≠ .unused) (hw : st ≠ .waiting) (table : List ZoneEntry) :
    (table.map fun z => if z.cls = .unused then ZoneState.unused else .waiting).contains st = false := by
  rw [← Bool.not_eq_true, List.contains_iff_mem, List.mem_map]
  rintro ⟨z, -, hz⟩
  split at hz
  · exact hu hz.symm
  · exact hw hz.symm

/-- Settles O3: what a reset loads, kept as the notices settle. -/
theorem resetLoadsTheRoomUnits : Obligations.ResetLoadsTheRoomUnits := by
  intro c s img hc himg
  have h := settleNotices_reports { loaded (storeFound s) (safetyFound s) s with
    sup := supervisorRestored img (recoveryAfterReset img (safetyFound s)) s.sup.run.raw s.sup.lockout.raw
    nv := storesRestored (storeFound s) (safetyFound s) (recoveryAfterReset img (safetyFound s)) }
  rw [← settleReset_loaded img _ _ s himg] at h
  have hrelay : (resetPart s).relay = relayAfterReset img := by rw [himg]; exact h.relay
  have hzone : (resetPart s).zone = zoneAfterReset img := by rw [himg]; exact h.zone
  have hsup : (resetPart s).sup = supervisorRestored img (recoveryAfterReset img (safetyFound s)) s.sup.run.raw
      s.sup.lockout.raw := h.sup
  refine ⟨_, exec_of_takesReset hc, hrelay, fun hnone => ?_, hzone, by rw [hsup]; rfl, ?_, ?_⟩
  · rw [hrelay, himg, hnone]; rfl
  · rw [zoneBlindCond, hzone]
    exact loadedStates_not_contains (by decide) (by decide) img.table
  · rw [frostCond, hzone]
    exact loadedStates_not_contains (by decide) (by decide) img.table

end Sys2Proof.Machine
end

section
/-! SUPPORT. A node entry removed: its zone is evaluated, and what the zone unit and the node table show of the other addresses stays
(R12, R144, R146). -/

namespace Sys2Proof.Machine

/-- Zone `z` is in the state that R11 gives it. -/
def ZoneCurrent (s : State) (z : Nat) : Prop := s.zone.states[z]? = some (zoneStateOf s z)

/-- The table with a slot emptied and counted, before the zone unit hears of it. -/
def emptied (slot : Nat) (count : RelayCounters → RelayCounters) (s : State) : State :=
  countRelay count (setNodes (s.relay.nodes.set slot none) s)

/-! ### An entry removed (R144, R146) -/

section
variable {slot addr z : Nat} {count : RelayCounters → RelayCounters} {s : State}

theorem removeNode_relay : (removeNode slot addr count s).relay =
    { s.relay with nodes := s.relay.nodes.set slot none, ctr := count s.relay.ctr } :=
  nodeChanged_relay addr _

theorem removeNode_zone : (removeNode slot addr count s).zone = { s.zone with
    states := (removeNode slot addr count s).zone.states, wanting := (removeNode slot addr count s).zone.wanting } :=
  nodeChanged_zone addr (emptied slot count s)

theorem removeNode_states_length : (removeNode slot addr count s).zone.states.length =
    s.zone.states.length :=
  nodeChanged_states_length addr (emptied slot count s)

theorem removeNode_hears : Hears s (removeNode slot addr count s) :=
  (setRelay_hears s _).trans (nodeChanged_hears addr (emptied slot count s))

/-- The zone of a removed room unit is evaluated (R12). -/
theorem removeNode_current (hu : unitZone s addr = some z) (hl : z < s.zone.states.length) :
    ZoneCurrent (removeNode slot addr count s) z := by
  have he : removeNode slot addr count s = evaluateZones [z] (emptied slot count s) := by
    have hunit : unitZone (emptied slot count s) addr = some z := hu
    change nodeChanged addr (emptied slot count s) = _
    rw [nodeChanged, hunit]
  rw [he]
  exact state_of_evaluated (evaluateZones_zone [z] _) (evaluateZones_dispatch [z] _).relay (List.mem_singleton_self z) hl

/-! ### What the removal leaves as it is -/

/-- A slot changed to what `f` tells nothing new of. -/
theorem filterMap_set_same {α β : Type} {f : α → Option β} {xs : List α} {i : Nat} {a b : α} (hi : xs[i]? = some a)
    (hf : f b = f a) : (xs.set i b).filterMap f = xs.filterMap f := by
  have hmap : (xs.set i b).map f = xs.map f := by
    apply List.ext_getElem?
    intro j
    rw [List.getElem?_map, List.getElem?_map, List.getElem?_set]
    split
    · next hij => subst hij; rw [if_pos (List.getElem?_eq_some_iff.mp hi).1, hi, Option.map_some, Option.map_some, hf]
    · rfl
  rw [← Function.id_comp f, ← List.filterMap_map, hmap, List.filterMap_map]

/-- The fresh members of a zone that the removed entry's address is not enrolled in stay. -/
theorem removeNode_freshMembers {e : NodeEntry} (he : slotGet s.relay.nodes slot = some e)
    (hu : unitZone s e.addr ≠ some z) :
    freshMembers (removeNode slot e.addr count s) z = freshMembers s z := by
  have henrol : (removeNode slot e.addr count s).zone.enrol = s.zone.enrol := by rw [removeNode_zone]
  rw [freshMembers_congr (s := emptied slot count s) (by rw [removeNode_relay]; rfl) henrol]
  have hother : ¬ unitZone (emptied slot count s) e.addr = some z := hu
  exact filterMap_set_same (slotGet_eq_some.mp he) (by simp [Option.filter, hother])

/-- The state that R11 gives a zone follows its fresh members, the zone table and the grace. -/
theorem zoneStateOf_of_freshMembers {t : State} (hf : freshMembers t z = freshMembers s z)
    (ht : t.zone.table = s.zone.table) (hg : t.zone.grace = s.zone.grace) : zoneStateOf t z = zoneStateOf s z := by
  have hgov (ze : ZoneEntry) : governing t ze z = governing s ze z := by
    unfold governing
    rw [hf]
  unfold zoneStateOf
  simp only [hgov, hf, ht, hg]

theorem nodeChanged_state_other (hu : unitZone s addr ≠ some z) :
    (nodeChanged addr s).zone.states[z]? = s.zone.states[z]? := by
  unfold nodeChanged
  split
  · rfl
  · next y hy =>
    rw [evaluateZones_zone]
    exact evaluated_state_other fun hz => hu (by rw [hy, List.mem_singleton.mp hz])

/-- A zone in the state that R11 gives it stays so: it is evaluated, or its members stay. -/
theorem ZoneCurrent.removeNode {e : NodeEntry} (h : ZoneCurrent s z) (he : slotGet s.relay.nodes slot = some e) :
    ZoneCurrent (removeNode slot e.addr count s) z := by
  by_cases hu : unitZone s e.addr = some z
  · exact removeNode_current hu (List.getElem?_eq_some_iff.mp h).1
  · have hstate : zoneStateOf (Machine.removeNode slot e.addr count s) z = zoneStateOf s z :=
      zoneStateOf_of_freshMembers (removeNode_freshMembers he hu) (by rw [removeNode_zone]) (by rw [removeNode_zone])
    rw [ZoneCurrent, hstate]
    exact (nodeChanged_state_other (s := emptied slot count s) hu).trans h

end

end Sys2Proof.Machine
end

section
/-! SUPPORT. The aging check of the node table, slot by slot (R146). -/

namespace Sys2Proof.Machine

/-- The entry has not been heard for more than AGE_LIMIT (R146). -/
def outOfDate (s : State) (n : NodeEntry) : Bool := decide (s.relay.set.ageLimit < s.sec - n.heard)

/-- The slots whose entries an aging check removes. -/
def outOfDateSlots (s : State) (slots : List (Option NodeEntry)) : List (Option NodeEntry) :=
  slots.filter fun o => o.any (outOfDate s)

/-- The slots after an aging check. -/
def agedSlots (s : State) (slots : List (Option NodeEntry)) : List (Option NodeEntry) :=
  slots.map fun o => o.filter fun n => !outOfDate s n

/-- The count of an AGED entry. -/
def countAged (c : RelayCounters) : RelayCounters := { c with aged := bump c.aged }

theorem ageSlot_kept {s : State} {slot : Nat} (h : (slotGet s.relay.nodes slot).any (outOfDate s) = false) :
    ageSlot slot s = s := by
  unfold ageSlot
  split
  · rfl
  · next e he =>
    rw [he] at h
    exact if_neg (of_decide_eq_false h)

theorem ageSlot_removed {s : State} {slot : Nat} {e : NodeEntry} (he : slotGet s.relay.nodes slot = some e)
    (h : outOfDate s e = true) : ageSlot slot s = removeNode slot e.addr countAged s := by
  unfold ageSlot
  rw [he]
  exact if_pos (of_decide_eq_true h)

/-! ### The slots behind the check -/

/-- The aging check stands at slot `k`: the old entries of the slots before it are removed and counted, and the zones of the
removed room units are in the states that R11 gives them. -/
structure AgedTo (k : Nat) (s t : State) : Prop where
  hears : Hears s t
  relay : t.relay = { s.relay with
    nodes := agedSlots s (s.relay.nodes.take k) ++ s.relay.nodes.drop k
    ctr := { s.relay.ctr with
      aged := min (s.relay.ctr.aged + (outOfDateSlots s (s.relay.nodes.take k)).length) 65535 } }
  zone : t.zone = { s.zone with states := t.zone.states, wanting := t.zone.wanting }
  states : t.zone.states.length = s.zone.states.length
  current : ∀ n z, some n ∈ outOfDateSlots s (s.relay.nodes.take k) → unitZone s n.addr = some z →
    z < s.zone.states.length → ZoneCurrent t z

section
variable {k : Nat} {s t : State}

theorem AgedTo.zero (h : s.relay.ctr.aged ≤ 65535) : AgedTo 0 s s where
  hears := .refl s
  relay := by simp [agedSlots, outOfDateSlots, h]
  zone := rfl
  states := rfl
  current n z hn := by simp [outOfDateSlots] at hn

theorem AgedTo.outOfDate (h : AgedTo k s t) : outOfDate t = outOfDate s := by
  funext n
  simp only [Machine.outOfDate, h.relay, h.hears.clock.sec]

/-- The slot at which the check stands is as it was. -/
theorem AgedTo.slot (h : AgedTo k s t) (hk : k < s.relay.nodes.length) : t.relay.nodes[k]? = s.relay.nodes[k]? := by
  have hlen : (agedSlots s (s.relay.nodes.take k)).length = k := by simp [agedSlots, hk.le]
  rw [h.relay, List.getElem?_append_right hlen.le, hlen]
  simp

theorem agedSlots_take_succ (hk : k < s.relay.nodes.length) : agedSlots s (s.relay.nodes.take (k + 1)) =
    agedSlots s (s.relay.nodes.take k) ++ agedSlots s [s.relay.nodes[k]] := by
  rw [List.take_succ_eq_append_getElem hk, agedSlots, List.map_append]; rfl

theorem outOfDateSlots_take_succ (hk : k < s.relay.nodes.length) : outOfDateSlots s (s.relay.nodes.take (k + 1)) =
    outOfDateSlots s (s.relay.nodes.take k) ++ outOfDateSlots s [s.relay.nodes[k]] := by
  rw [List.take_succ_eq_append_getElem hk, outOfDateSlots, List.filter_append]; rfl

theorem bump_min (c : Nat) : bump (min c 65535) = min (c + 1) 65535 := by
  unfold bump; split <;> omega

/-- A slot that keeps what it holds. -/
theorem AgedTo.kept (h : AgedTo k s t) (hk : k < s.relay.nodes.length)
    (hold : (s.relay.nodes[k]).any (Machine.outOfDate s) = false) :
    AgedTo (k + 1) s t := by
  have hone : outOfDateSlots s [s.relay.nodes[k]] = [] := by simp [outOfDateSlots, hold]
  have hslot : agedSlots s [s.relay.nodes[k]] = [s.relay.nodes[k]] := by
    cases ho : s.relay.nodes[k] with
    | none => rfl
    | some e =>
      have hdate : Machine.outOfDate s e = false := by rw [ho] at hold; exact hold
      simp [agedSlots, Option.filter, hdate]
  have hgone : outOfDateSlots s (s.relay.nodes.take (k + 1)) = outOfDateSlots s (s.relay.nodes.take k) := by
    rw [outOfDateSlots_take_succ hk, hone, List.append_nil]
  refine ⟨h.hears, ?_, h.zone, h.states, by rw [hgone]; exact h.current⟩
  rw [h.relay, hgone, agedSlots_take_succ hk, hslot, List.append_assoc, List.singleton_append, List.getElem_cons_drop]

/-- A slot that loses its entry. -/
theorem AgedTo.removed {e : NodeEntry} (h : AgedTo k s t) (hk : k < s.relay.nodes.length) (he : s.relay.nodes[k] = some e)
    (hold : Machine.outOfDate s e = true) : AgedTo (k + 1) s (removeNode k e.addr countAged t) := by
  have hgone : outOfDateSlots s (s.relay.nodes.take (k + 1)) =
      outOfDateSlots s (s.relay.nodes.take k) ++ [some e] := by
    rw [outOfDateSlots_take_succ hk, he]
    simp [outOfDateSlots, hold]
  have hslots : agedSlots s (s.relay.nodes.take (k + 1)) = agedSlots s (s.relay.nodes.take k) ++ [none] := by
    rw [agedSlots_take_succ hk, he]
    simp [agedSlots, Option.filter, hold]
  have hget : slotGet t.relay.nodes k = some e := by
    rw [slotGet, h.slot hk, List.getElem?_eq_getElem hk, he]; rfl
  have hlen : (agedSlots s (s.relay.nodes.take k)).length = k := by simp [agedSlots, hk.le]
  refine ⟨h.hears.trans removeNode_hears, ?_, by rw [removeNode_zone, h.zone], removeNode_states_length.trans h.states,
    fun n z hn hu hl => ?_⟩
  · rw [removeNode_relay, h.relay, hgone, hslots, List.drop_eq_getElem_cons hk, List.set_append_right _ _ hlen.le, hlen,
      Nat.sub_self, List.set_cons_zero, List.append_assoc, List.length_append, countAged, bump_min]
    rfl
  · rw [hgone, List.mem_append, List.mem_singleton] at hn
    rcases hn with hn | hn
    · exact (h.current n z hn hu hl).removeNode hget
    · cases hn
      exact removeNode_current ((unitZone_congr (by rw [h.zone]) _).trans hu) (h.states ▸ hl)

/-- The aging check goes on by a slot. -/
theorem AgedTo.succ (h : AgedTo k s t) (hk : k < s.relay.nodes.length) : AgedTo (k + 1) s (ageSlot k t) := by
  have hget : slotGet t.relay.nodes k = s.relay.nodes[k] := by
    rw [slotGet, h.slot hk, List.getElem?_eq_getElem hk]; rfl
  cases hold : (s.relay.nodes[k]).any (Machine.outOfDate s) with
  | false =>
    rw [ageSlot_kept (by rw [hget, h.outOfDate]; exact hold)]
    exact h.kept hk hold
  | true =>
    obtain ⟨e, he, hdate⟩ := (Option.any_eq_true _ _).mp hold
    rw [ageSlot_removed (hget.trans he) (by rw [h.outOfDate]; exact hdate)]
    exact h.removed hk he hdate

theorem agedTo_range (h : s.relay.ctr.aged ≤ 65535) (hk : k ≤ s.relay.nodes.length) :
    AgedTo k s (forEach (List.range k) ageSlot s) := by
  induction k with
  | zero => exact .zero h
  | succ k ih =>
    rw [forEach, List.range_succ, List.foldl_append]
    exact (ih (Nat.le_of_succ_le hk)).succ hk

/-- With no entry out of date the aging check does nothing. -/
theorem ageNodes_kept (h : outOfDateSlots s s.relay.nodes = []) : ageNodes s = s := by
  have hslot (i : Nat) : ageSlot i s = s := by
    refine ageSlot_kept ?_
    cases hg : slotGet s.relay.nodes i with
    | none => rfl
    | some e =>
      have hmem := List.mem_of_getElem? (slotGet_eq_some.mp hg)
      simpa using List.filter_eq_nil_iff.mp h _ hmem
  unfold ageNodes
  induction List.range s.relay.nodes.length with
  | nil => rfl
  | cons i is ih =>
    rw [forEach, List.foldl_cons, hslot]
    exact ih

end

end Sys2Proof.Machine
end

section
/-! Aging, and the starts of the storm and broadcast intervals (R146 to R148, R150). -/

namespace Sys2Proof.Machine

/-- Settles O44: the check goes over the table slot by slot; an interval start changes the counts alone. -/
theorem agingAndIntervals : Obligations.AgingAndIntervals := by
  refine ⟨fun s haged => ?_, fun s hs => ⟨fun hsec => ?_, fun hsec => ?_⟩⟩
  · have hexec : exec .nodeAgingCheck s = .next (finish (wakeSched (ageNodes s))) := rfl
    have hages : AgedTo s.relay.nodes.length s (ageNodes s) := agedTo_range haged le_rfl
    have hfin := (wakeSched_finishes (ageNodes s)).trans (finish_finishes _)
    generalize finish _ = t at hfin hexec
    have hears := hages.hears.trans hfin.hears
    have hrelay := hfin.relay.trans hages.relay
    have hzone := hages.zone
    rw [← hfin.zone] at hzone
    have hfresh : (fun n => !outOfDate s n) = fun n => decide (s.sec - n.heard ≤ s.relay.set.ageLimit) := by
      funext n
      rw [outOfDate, ← decide_not, decide_eq_decide, not_lt]
    rw [List.take_length, List.drop_length, List.append_nil, agedSlots, hfresh] at hrelay
    refine ⟨t, _, hexec, rfl, hrelay, fun hnone => ?_, fun n z hn hu hl => ?_, by rw [hzone], by rw [hzone], hears.clock,
      hears.recov, hears.vol, hears.acct, hears.stores, hears.nodes, hears.ports⟩
    · rw [hfin.zone, hfin.sup, hfin.level, ageNodes_kept hnone]
      exact ⟨rfl, rfl, rfl⟩
    · have hcur : ZoneCurrent (ageNodes s) z := hages.current n z (by rw [List.take_length]; exact hn) hu hl
      rw [zoneStateOf_congr (s := ageNodes s) (by rw [hfin.relay]) (by rw [hfin.zone]) (by rw [hfin.zone])
        (by rw [hfin.zone]), hfin.zone]
      exact hcur
  · change execStormIntervalStart s = _
    unfold execStormIntervalStart
    exact act_next (decide_eq_true hsec) rfl (hs.congr rfl rfl rfl rfl)
  · change execBroadcastIntervalStart s = _
    unfold execBroadcastIntervalStart
    exact act_next (decide_eq_true hsec) rfl (hs.congr rfl rfl rfl rfl)

end Sys2Proof.Machine
end

section
/-! SUPPORT. The entry that a full table gives up, and how a source is learned with its slot (R143, R144). -/

namespace Sys2Proof.Machine

/-! ### The entry to evict (R144) -/

/-- One entry of the table weighed against the best so far. -/
def weigh (best : Option (Nat × NodeEntry)) (io : Nat × Option NodeEntry) : Option (Nat × NodeEntry) :=
  match io.2 with
  | none => best
  | some e =>
    if e.part.isSome then best
    else
      match best with
      | none => some (io.1, e)
      | some (_, b) => if evictFirst e b then some (io.1, e) else best

theorem pickEvict_eq (nodes : List (Option NodeEntry)) : pickEvict nodes = (numbered nodes).foldl weigh none := rfl

theorem evictFirst_iff (a b : NodeEntry) :
    evictFirst a b = true ↔ a.heard < b.heard ∨ (a.heard = b.heard ∧ a.addr < b.addr) := by
  simp [evictFirst]

/-- `best` is an entry of `slots` without a demand part that no other is evicted before, and there is none only if no entry is
without. -/
structure Weighed (slots : List (Nat × Option NodeEntry)) (best : Option (Nat × NodeEntry)) : Prop where
  found : ∀ i n, (i, some n) ∈ slots → n.part = none → best ≠ none
  held : ∀ j b, best = some (j, b) → (j, some b) ∈ slots ∧ b.part = none
  first : ∀ j b, best = some (j, b) → ∀ i n, (i, some n) ∈ slots → n.part = none → evictFirst n b = false

section
variable {slots : List (Nat × Option NodeEntry)} {best : Option (Nat × NodeEntry)} {i : Nat} {e : NodeEntry}

/-- A slot that is no candidate leaves the best as it is. -/
theorem Weighed.skip {o : Option NodeEntry} (h : Weighed slots best) (ho : ∀ n, o = some n → n.part ≠ none) :
    Weighed (slots ++ [(i, o)]) best := by
  have old {k : Nat} {n : NodeEntry} (hm : (k, some n) ∈ slots ++ [(i, o)]) (hp : n.part = none) : (k, some n) ∈ slots := by
    rcases List.mem_append.mp hm with hm | hm
    · exact hm
    · cases List.mem_singleton.mp hm
      exact absurd hp (ho n rfl)
  exact ⟨fun k n hm hp => h.found k n (old hm hp) hp,
    fun j b hb => ⟨List.mem_append_left _ (h.held j b hb).1, (h.held j b hb).2⟩,
    fun j b hb k n hm hp => h.first j b hb k n (old hm hp) hp⟩

/-- A candidate that is evicted before the best so far takes its place. -/
theorem Weighed.take (h : Weighed slots best) (he : e.part = none)
    (hbetter : ∀ j b, best = some (j, b) → evictFirst e b = true) : Weighed (slots ++ [(i, some e)]) (some (i, e)) := by
  refine ⟨fun _ _ _ _ => Option.some_ne_none _, fun j b hb => ?_, fun j b hb k n hm hp => ?_⟩
  · cases hb
    exact ⟨List.mem_append_right _ (List.mem_singleton_self _), he⟩
  · cases hb
    rw [← Bool.not_eq_true, evictFirst_iff]
    rcases List.mem_append.mp hm with hm | hm
    · cases hbest : best with
      | none => exact absurd hbest (h.found k n hm hp)
      | some jb =>
        obtain ⟨j, b⟩ := jb
        have hnot := h.first j b hbest k n hm hp
        have hlt := hbetter j b hbest
        rw [← Bool.not_eq_true, evictFirst_iff] at hnot
        rw [evictFirst_iff] at hlt
        omega
    · cases List.mem_singleton.mp hm
      omega

/-- A candidate that is not evicted before the best so far leaves it. -/
theorem Weighed.keep {j : Nat} {b : NodeEntry} (h : Weighed slots (some (j, b))) (hworse : evictFirst e b = false) :
    Weighed (slots ++ [(i, some e)]) (some (j, b)) := by
  refine ⟨fun _ _ _ _ => Option.some_ne_none _,
    fun k c hc => ⟨List.mem_append_left _ (h.held k c hc).1, (h.held k c hc).2⟩, fun k c hc l n hm hp => ?_⟩
  rcases List.mem_append.mp hm with hm | hm
  · exact h.first k c hc l n hm hp
  · cases List.mem_singleton.mp hm
    cases hc
    exact hworse

theorem weighed_foldl (slots : List (Nat × Option NodeEntry)) : Weighed slots (slots.foldl weigh none) := by
  induction slots using List.reverseRecOn with
  | nil => exact ⟨fun _ _ hm => absurd hm List.not_mem_nil, fun _ _ hb => (by cases hb), fun _ _ hb => (by cases hb)⟩
  | append_singleton slots io ih =>
    obtain ⟨i, o⟩ := io
    rw [List.foldl_append, List.foldl_cons, List.foldl_nil]
    generalize slots.foldl weigh none = best at ih
    cases o with
    | none => exact ih.skip fun n hn => (by cases hn)
    | some e =>
      cases hp : e.part with
      | some d =>
        have hweigh : weigh best (i, some e) = best := by simp [weigh, hp]
        rw [hweigh]
        exact ih.skip fun n hn => (by cases hn; simp [hp])
      | none =>
        cases best with
        | none =>
          have hweigh : weigh none (i, some e) = some (i, e) := by simp [weigh, hp]
          rw [hweigh]
          exact ih.take hp fun _ _ hb => (by cases hb)
        | some jb =>
          obtain ⟨j, b⟩ := jb
          cases hlt : evictFirst e b with
          | true =>
            have hweigh : weigh (some (j, b)) (i, some e) = some (i, e) := by simp [weigh, hp, hlt]
            rw [hweigh]
            exact ih.take hp fun _ _ hb => (by cases hb; exact hlt)
          | false =>
            have hweigh : weigh (some (j, b)) (i, some e) = some (j, b) := by simp [weigh, hp, hlt]
            rw [hweigh]
            exact ih.keep hlt

end

section
variable {nodes : List (Option NodeEntry)} {i : Nat} {e : NodeEntry}

/-- With an entry without a demand part there is one to evict. -/
theorem pickEvict_isSome {n : NodeEntry} (hn : some n ∈ nodes) (hp : n.part = none) :
    ∃ i e, pickEvict nodes = some (i, e) ∧ slotGet nodes i = some e := by
  obtain ⟨k, hk⟩ := List.mem_iff_getElem?.mp hn
  have h := weighed_foldl (numbered nodes)
  rw [← pickEvict_eq] at h
  obtain ⟨⟨i, e⟩, hie⟩ := Option.ne_none_iff_exists'.mp (h.found k n (mem_numbered.mpr hk) hp)
  exact ⟨i, e, hie, slotGet_eq_some.mpr (mem_numbered.mp (h.held i e hie).1)⟩

/-- The entry that stands before all others without a demand part is the one to evict. -/
theorem pickEvict_of_first (he : slotGet nodes i = some e) (hp : e.part = none)
    (hfirst : ∀ j n, j ≠ i → slotGet nodes j = some n → n.part = none → evictFirst e n = true) :
    pickEvict nodes = some (i, e) := by
  have h := weighed_foldl (numbered nodes)
  rw [← pickEvict_eq] at h
  have hmem := mem_numbered.mpr (slotGet_eq_some.mp he)
  obtain ⟨⟨j, b⟩, hjb⟩ := Option.ne_none_iff_exists'.mp (h.found i e hmem hp)
  obtain ⟨hb, hbp⟩ := h.held j b hjb
  have hbj : slotGet nodes j = some b := slotGet_eq_some.mpr (mem_numbered.mp hb)
  have hji : j = i := by
    by_contra hne
    have hlt := hfirst j b hne hbj hbp
    rw [h.first j b hjb i e hmem hp] at hlt
    cases hlt
  subst hji
  obtain rfl : b = e := Option.some.inj (hbj.symm.trans he)
  exact hjb

end

/-! ### The slot emptied -/

theorem emptySlot_of_full {xs : List (Option NodeEntry)} (h : ∀ j : Nat, xs[j]? ≠ some none) : emptySlot xs = none := by
  cases he : emptySlot xs with
  | none => rfl
  | some j => exact absurd (emptySlot_spec he) (h j)

/-- The only empty slot of a table is the lowest. -/
theorem emptySlot_set_none {xs : List (Option NodeEntry)} {i : Nat} (h : ∀ j : Nat, xs[j]? ≠ some none) (hi : i < xs.length) :
    emptySlot (xs.set i none) = some i := by
  obtain ⟨j, hj⟩ := emptySlot_isSome (List.getElem?_set_self (a := (none : Option NodeEntry)) hi)
  have hspec := emptySlot_spec hj
  by_cases hij : i = j
  · rw [hj, hij]
  · rw [List.getElem?_set_ne hij] at hspec
    exact absurd hspec (h j)

section
variable {slot addr : Nat} {count : RelayCounters → RelayCounters} {e : NodeEntry} {s : State}

theorem nodeOf_eq_head (s : State) (addr : Nat) : nodeOf s addr =
    (s.relay.nodes.filterMap (Option.filter fun e => decide (e.addr = addr))).head? := by
  rw [nodeOf_eq, List.head?_filterMap]

theorem nodeOf_eq_none_iff : nodeOf s addr = none ↔ ∀ i n, slotGet s.relay.nodes i = some n → n.addr ≠ addr := by
  rw [nodeOf_eq, List.findSome?_eq_none_iff]
  constructor
  · intro h i n hn ha
    simpa [ha] using h _ (List.mem_of_getElem? (slotGet_eq_some.mp hn))
  · intro h o ho
    obtain ⟨i, hi⟩ := List.mem_iff_getElem?.mp ho
    cases o with
    | none => rfl
    | some n => simpa using h i n (slotGet_eq_some.mpr hi)

/-- The entries of the other addresses stay where one is removed. -/
theorem nodeOf_removeNode_other (he : slotGet s.relay.nodes slot = some e) {other : Nat} (ho : other ≠ e.addr) :
    nodeOf (removeNode slot e.addr count s) other = nodeOf s other := by
  rw [nodeOf_eq_head, nodeOf_eq_head, removeNode_relay]
  exact congrArg List.head? (filterMap_set_same (slotGet_eq_some.mp he) (by simp [Option.filter, ho.symm]))

/-- The only entry of an address is removed. -/
theorem nodeOf_removeNode_self (hunique : ∀ j n, j ≠ slot → slotGet s.relay.nodes j = some n → n.addr ≠ addr) :
    nodeOf (removeNode slot addr count s) addr = none := by
  rw [nodeOf_eq_none_iff, removeNode_relay]
  intro j n hn
  rw [slotGet_set] at hn
  split at hn
  · split at hn <;> cases hn
  · next hne => exact hunique j n (Ne.symm hne) hn

theorem nodeSlot_of_nodeOf_none (h : nodeOf s addr = none) : nodeSlot s addr = none := by
  cases hs : nodeSlot s addr with
  | none => rfl
  | some i =>
    obtain ⟨n, -, -, hn⟩ := nodeSlot_isSome hs
    rw [h] at hn
    cases hn

end

/-! ### A source learned in a full table -/

/-- EVICTED counted. -/
def countEvicted (c : RelayCounters) : RelayCounters := { c with evicted := bump c.evicted }

/-- A source is learned in a full table as it is in the table whose slot has been evicted. -/
theorem learn_full {addr i : Nat} {room : Room} {e : NodeEntry} {s : State} (hold : nodeOf s addr = none)
    (hfull : ∀ j : Nat, s.relay.nodes[j]? ≠ some none) (hpick : pickEvict s.relay.nodes = some (i, e))
    (he : slotGet s.relay.nodes i = some e) :
    learn addr room s = learn addr room (removeNode i e.addr countEvicted s) := by
  have hgone : nodeOf (removeNode i e.addr countEvicted s) addr = none := by
    rw [nodeOf_removeNode_other he (Ne.symm (nodeOf_eq_none_iff.mp hold i e he)), hold]
  have hempty : emptySlot (removeNode i e.addr countEvicted s).relay.nodes = some i := by
    rw [removeNode_relay]; exact emptySlot_set_none hfull (slotGet_lt he)
  have hleft : learn addr room s = createNode i addr room (removeNode i e.addr countEvicted s) := by
    rw [learn, nodeSlot_of_nodeOf_none hold]
    simp only [learnNew, emptySlot_of_full hfull, hpick]
    rfl
  have hright : learn addr room (removeNode i e.addr countEvicted s) =
      createNode i addr room (removeNode i e.addr countEvicted s) := by
    rw [learn, nodeSlot_of_nodeOf_none hgone]
    simp only [learnNew, hempty]
  exact hleft.trans hright.symm

/-- `v` is `s` with a slot empty for a source that the table does not hold: as it was, or with an entry evicted; learning the
source in the one is learning it in the other. -/
structure MakesRoom (addr : Nat) (room : Room) (s v : State) : Prop where
  hears : Hears s v
  zone : v.zone = { s.zone with states := v.zone.states, wanting := v.zone.wanting }
  learns : learn addr room s = learn addr room v
  source : nodeOf v addr = nodeOf s addr
  empty : nodeOf v addr = none → ∃ i : Nat, v.relay.nodes[i]? = some none
  same : nodeOf s addr ≠ none ∨ (∃ i : Nat, s.relay.nodes[i]? = some none) → v = s
  evicts : nodeOf s addr = none → (∀ j : Nat, s.relay.nodes[j]? ≠ some none) → ∃ i e,
    pickEvict s.relay.nodes = some (i, e) ∧ slotGet s.relay.nodes i = some e ∧ v = removeNode i e.addr countEvicted s

section
variable {addr : Nat} {room : Room} {s : State}

/-- There is room for a source that the table holds, with a slot empty, or with an entry that has no demand part. -/
theorem makesRoom (h : nodeOf s addr = none →
    (∃ i : Nat, s.relay.nodes[i]? = some none) ∨ ∃ n, some n ∈ s.relay.nodes ∧ n.part = none) :
    ∃ v, MakesRoom addr room s v := by
  by_cases hroom : nodeOf s addr ≠ none ∨ ∃ i : Nat, s.relay.nodes[i]? = some none
  · exact ⟨s, .refl s, rfl, rfl, rfl, fun hn => hroom.resolve_left (not_not_intro hn), fun _ => rfl,
      fun hn hfull => absurd (hroom.resolve_left (not_not_intro hn)) fun ⟨i, hi⟩ => hfull i hi⟩
  · obtain ⟨hnew, hnone⟩ := not_or.mp hroom
    have hold : nodeOf s addr = none := not_not.mp hnew
    have hfull : ∀ j : Nat, s.relay.nodes[j]? ≠ some none := not_exists.mp hnone
    obtain ⟨n, hn, hp⟩ := (h hold).resolve_left hnone
    obtain ⟨i, e, hpick, he⟩ := pickEvict_isSome hn hp
    refine ⟨removeNode i e.addr countEvicted s, removeNode_hears, removeNode_zone, learn_full hold hfull hpick he,
      nodeOf_removeNode_other he (Ne.symm (nodeOf_eq_none_iff.mp hold i e he)), fun _ => ⟨i, ?_⟩, fun h => absurd h hroom,
      fun _ _ => ⟨i, e, hpick, he, rfl⟩⟩
    rw [removeNode_relay]
    exact List.getElem?_set_self (slotGet_lt he)

end

end Sys2Proof.Machine
end

section
/-! SUPPORT. A telegram that a room port delivers: what the relay unit has learned of it before it resolves or discards it (`Taken`)
(R128, R143 to R145, R148). -/

namespace Sys2Proof.Machine

/-! ### Delivery (R128) -/

section
variable (room : Room) (s : State)

theorem delivered_onlyPorts : OnlyPortsChange s (delivered room s) := by
  rw [delivered_eq]; exact setPort_onlyPorts _ _ s

theorem delivered_pool : (delivered room s).pool = s.pool := by rw [delivered_eq, setPort_pool]

theorem delivered_settled (hs : Settled s) : Settled (delivered room s) := by rw [delivered_eq]; exact hs.setPort rfl

theorem delivered_port (port : Port) : (delivered room s).port port =
    if port = roomPort room then deliveredPort s.now (s.port (roomPort room)) else s.port port := by
  rw [delivered_eq]
  split
  · next h => rw [h, port_setPort_self]
  · next h => rw [port_setPort_other h]

theorem delivered_nodeOf (addr : Nat) : nodeOf (delivered room s) addr = nodeOf s addr := by
  obtain ⟨-, ⟨hrelay, -⟩, -⟩ := delivered_onlyPorts room s
  exact nodeOf_congr (congrArg Relay.nodes hrelay) addr

end

/-! ### What learning leaves of the relay unit -/

/-- The relay settings and the broadcast counts are unchanged. -/
def KeepsCasts (s t : State) : Prop :=
  t.relay.set = s.relay.set ∧ t.relay.bcastH = s.relay.bcastH ∧ t.relay.bcastY = s.relay.bcastY

theorem KeepsCasts.trans {a b c : State} (h : KeepsCasts a b) (k : KeepsCasts b c) : KeepsCasts a c :=
  ⟨k.1.trans h.1, k.2.1.trans h.2.1, k.2.2.trans h.2.2⟩

theorem keepsCasts_of_relay {s t : State} (h : t.relay = s.relay) : KeepsCasts s t := by
  rw [KeepsCasts, h]
  exact ⟨rfl, rfl, rfl⟩

theorem KeepsCasts.nodeChanged {s t : State} (h : KeepsCasts s t) (addr : Nat) : KeepsCasts s (nodeChanged addr t) := by
  rw [KeepsCasts, nodeChanged_relay]; exact h

theorem createNode_keepsCasts (slot addr : Nat) (room : Room) (s : State) : KeepsCasts s (createNode slot addr room s) :=
  KeepsCasts.nodeChanged ⟨rfl, rfl, rfl⟩ addr

theorem removeNode_keepsCasts (slot addr : Nat) (count : RelayCounters → RelayCounters) (s : State) :
    KeepsCasts s (removeNode slot addr count s) :=
  KeepsCasts.nodeChanged (t := emptied slot count s) ⟨rfl, rfl, rfl⟩ addr

theorem learn_keepsCasts (addr : Nat) (room : Room) (s : State) : KeepsCasts s (learn addr room s) := by
  unfold learn
  split
  · unfold learnNew
    split
    · exact createNode_keepsCasts _ _ _ s
    · split
      · exact (removeNode_keepsCasts _ _ _ s).trans (createNode_keepsCasts _ _ _ _)
      · exact ⟨rfl, rfl, rfl⟩
  · split
    · exact ⟨rfl, rfl, rfl⟩
    · exact KeepsCasts.nodeChanged ⟨rfl, rfl, rfl⟩ addr

/-! ### The telegram taken -/

/-- What a telegram from a source known on its segment leaves as it was before it is resolved. -/
structure TakenHere (room : Room) (s c : State) : Prop where
  settled : Settled s → Settled c
  zone : c.zone = s.zone
  sup : c.sup = s.sup
  sched : c.sched = s.sched
  level : c.level = s.level
  mgmt : c.mgmt = s.mgmt
  pool : c.pool = s.pool
  port : ∀ port, c.port port =
    if port = roomPort room then deliveredPort s.now (s.port (roomPort room)) else s.port port

/-- A room port has delivered a telegram of the source `addr`, and the source has been learned and counted; `c` is the state in
which the telegram is resolved or discarded. -/
structure Taken (addr : Nat) (room : Room) (s c : State) : Prop where
  clock : KeepsClock s c
  recov : c.recov = s.recov
  vol : c.vol = s.vol
  acct : c.acct = s.acct
  stores : KeepsStores s c
  nodes : KeepsNodes s c
  enrol : c.zone.enrol = s.zone.enrol
  table : c.zone.table = s.zone.table
  casts : KeepsCasts s c
  port : PortOffered (deliveredPort s.now (s.port (roomPort room))) (c.port (roomPort room))
  entry : nodeOf c addr = some { heardEntry addr room s.sec (nodeOf s addr) with
    storm := bump8 (((nodeOf s addr).map (·.storm)).getD 0) }
  ctr : nodeOf s addr ≠ none ∨ (∃ i : Nat, s.relay.nodes[i]? = some none) →
    c.relay.ctr = learnedCtr room (nodeOf s addr) s.relay.ctr
  others : nodeOf s addr ≠ none ∨ (∃ i : Nat, s.relay.nodes[i]? = some none) →
    ∀ other, other ≠ addr → nodeOf c other = nodeOf s other
  evicts : nodeOf s addr = none → (∀ j : Nat, s.relay.nodes[j]? ≠ some none) → ∃ i e,
    pickEvict s.relay.nodes = some (i, e) ∧ c.relay.ctr = learnedCtr room none (countEvicted s.relay.ctr) ∧
    (∀ other, other ≠ addr → other ≠ e.addr → nodeOf c other = nodeOf s other) ∧
    ((∀ j n, j ≠ i → slotGet s.relay.nodes j = some n → n.addr ≠ e.addr) → nodeOf c e.addr = none)
  here : (∃ n, nodeOf s addr = some n ∧ n.seg = room) → TakenHere room s c

section
variable {addr : Nat} {room : Room} {s : State}

/-- A source is learned and counted from any state with room for it. -/
theorem taken (h : nodeOf s addr = none →
    (∃ i : Nat, s.relay.nodes[i]? = some none) ∨ ∃ n, some n ∈ s.relay.nodes ∧ n.part = none) :
    Taken addr room s (counted addr room (delivered room s)) := by
  have hport := delivered_port room s
  have hpool := delivered_pool room s
  have hset := delivered_settled room s
  have hnode := delivered_nodeOf room s
  obtain ⟨hclock, ⟨hrelay, hzone, hsup, hrecov⟩, ⟨hlevel, hvol, hacct⟩, hsched, hmgmt, hnv⟩ := delivered_onlyPorts room s
  obtain ⟨v, hv⟩ := makesRoom (s := delivered room s) (room := room) (by rw [hnode, hrelay]; exact h)
  have hcasts : KeepsCasts s (counted addr room (delivered room s)) :=
    (keepsCasts_of_relay hrelay).trans (learn_keepsCasts addr room (delivered room s))
  have hcounted : counted addr room (delivered room s) = counted addr room v := by rw [counted, hv.learns]; rfl
  have hc : Counted addr room v (counted addr room v) := counted_spec hv.empty
  have hears := hv.hears.trans hc.hears
  have hsec : v.sec = s.sec := hv.hears.clock.sec.trans hclock.sec
  have hsource : nodeOf v addr = nodeOf s addr := hv.source.trans (hnode addr)
  have hentry := hc.entry
  rw [hsec, hsource] at hentry
  have hsame := hv.same
  rw [hnode, hrelay] at hsame
  rw [hcounted] at hcasts ⊢
  refine ⟨hclock.trans hears.clock, hears.recov.trans hrecov, hears.vol.trans hvol, hears.acct.trans hacct, ?_, ?_,
    ?_, ?_, hcasts, ?_, hentry, fun hr => ?_, fun hr other ho => ?_, fun hold hfull => ?_, fun hhere => ?_⟩
  · obtain ⟨hstore, line, timer, hm⟩ := hears.stores
    exact ⟨hstore.trans hnv, line, timer, by rw [hm, hmgmt]⟩
  · rw [KeepsNodes, ← hsched]; exact hears.nodes
  · rw [hc.zone, hv.zone, hzone]
  · rw [hc.zone, hv.zone, hzone]
  · have hoffer := hears.ports.port (roomPort room)
    rw [hport, if_pos rfl] at hoffer
    exact hoffer
  · rw [hc.ctr, hsource, hsame hr, hrelay]
  · rw [hc.others other ho, hsame hr, hnode]
  · have hev := hv.evicts
    rw [hnode, hrelay] at hev
    obtain ⟨i, e, hpick, he, hrem⟩ := hev hold hfull
    have he' : slotGet (delivered room s).relay.nodes i = some e := by rw [hrelay]; exact he
    refine ⟨i, e, hpick, ?_, fun other ho hoe => ?_, fun hunique => ?_⟩
    · rw [hc.ctr, hsource, hold, hrem, removeNode_relay, hrelay]
    · rw [hc.others other ho, hrem, nodeOf_removeNode_other he' hoe, hnode]
    · rw [hc.others e.addr (nodeOf_eq_none_iff.mp hold i e he), hrem]
      exact nodeOf_removeNode_self (by rw [hrelay]; exact hunique)
  · obtain ⟨n, hold, hseg⟩ := hhere
    have hvs : v = delivered room s := hsame (.inl (by rw [hold]; exact Option.some_ne_none n))
    have hframe := hc.here ⟨n, hsource.trans hold, hseg⟩
    rw [hvs] at hframe ⊢
    generalize counted addr room (delivered room s) = c at hframe
    rw [hframe]
    exact ⟨fun hs => (hset hs).congr rfl rfl rfl rfl, hzone, hsup, hsched, hlevel, hmgmt, hpool, fun port => by
      rw [← hport]; cases port <;> rfl⟩

/-- The entry of a source that was known. -/
theorem Taken.known {n : NodeEntry} {c : State} (h : Taken addr room s c) (hold : nodeOf s addr = some n) :
    nodeOf c addr = some { n with seg := room, heard := s.sec, storm := bump8 n.storm } := by
  rw [h.entry, hold, ← nodeOf_addr hold]; rfl

end

end Sys2Proof.Machine
end

section
/-! SUPPORT. A telegram of no use to the BX40 discarded, and an excess one with the HOLD_OFF of its source (R148, R149, R151). -/

namespace Sys2Proof.Machine

/-! ### FOREIGN_KIND and UNKNOWN_KIND (R151) -/

/-- A telegram of a kind that only the BX40 sends, or for the BX40 and of no kind that it takes, is discarded with its counter. -/
theorem resolve_discards {room : Room} {t : Telegram} {own : Prop} {cast : RelayCounters → RelayCounters}
    (hown : own ↔ t.kind = 0x12 ∨ t.kind = 0x20 ∨ t.kind = 0x22 ∨ t.kind = 0x30 ∨ t.kind = 0x31)
    (hcast : (own ∧ ∀ c, cast c = { c with foreignKind := bump c.foreignKind }) ∨
      (¬ own ∧ t.dest = 0 ∧ t.kind ≠ 0x11 ∧ t.kind ≠ 0x40 ∧ ∀ c, cast c = { c with unknownKind := bump c.unknownKind }))
    (s : State) : resolve room t s = discard cast s := by
  have hkind : ownKind t.kind = true ↔ own := by
    rw [hown]
    simp only [ownKind, Bool.or_eq_true, decide_eq_true_eq, or_assoc]
    exact Iff.rfl
  rcases hcast with ⟨ho, hcast⟩ | ⟨ho, hdest, hdemand, hreq, hcast⟩
  · rw [resolve, if_pos (hkind.mpr ho), funext hcast]
  · have hdemand : t.kind ≠ kindDemand := hdemand
    have hreq : t.kind ≠ kindMgmtReq := hreq
    rw [resolve, if_neg (mt hkind.mp ho), if_pos hdest, if_neg hdemand, if_neg hreq, funext hcast]

theorem countRelay_keepsCasts (cast : RelayCounters → RelayCounters) (s : State) : KeepsCasts s (countRelay cast s) :=
  ⟨rfl, rfl, rfl⟩

theorem finish_discard_finishes (cast : RelayCounters → RelayCounters) (s : State) :
    Finishes (countRelay cast s) (finish (discard cast s)) :=
  (returnBuffer_offers _).finishes.trans (finish_finishes _)

/-- Away from its threshold the pool takes the buffer back and no more. -/
theorem discard_calm {cast : RelayCounters → RelayCounters} {s : State} (h : s.pool.held = false ∨ s.pool.free < 13) :
    discard cast s = setFree (s.pool.free + 1) (countRelay cast s) :=
  returnBuffer_calm (s := countRelay cast s) (h.imp_right fun h => Nat.succ_lt_succ h)

/-! ### Excess telegrams (R148, R149) -/

/-- NODE_STORM counted. -/
def countExcess (c : RelayCounters) : RelayCounters := { c with nodeStorm := bump c.nodeStorm }

/-- HOLD_OFF_SENT counted. -/
def countHoldOff (c : RelayCounters) : RelayCounters := { c with holdOffSent := bump c.holdOffSent }

/-- The entry of the source shows that its HOLD_OFF of the interval has been sent. -/
def markSent (addr : Nat) (n : NodeEntry) : NodeEntry := if n.addr = addr then { n with holdOffSent := true } else n

/-- The relay unit once an excess telegram of the source with entry `e` has been counted, and HOLD_OFF sent if it is the first of
the interval. -/
def excessRelay (addr : Nat) (e : NodeEntry) (r : Relay) : Relay :=
  if e.holdOffSent then { r with ctr := countExcess r.ctr }
  else { r with nodes := r.nodes.map (Option.map (markSent addr)), ctr := countHoldOff (countExcess r.ctr) }

theorem Offers.setRelay {s t : State} (h : Offers s t) (r : Relay) : Offers (s.setRelay r) (t.setRelay r) :=
  ⟨h.now, h.portH, h.portY, h.portP, rfl, h.zone, h.sup, h.recov, h.sched, h.level, h.vol, h.acct, h.mgmt, h.nv, h.freeIdx,
    h.pending⟩

section
variable {addr : Nat} {e : NodeEntry} {s : State}

theorem nodeOf_excessRelay (he : nodeOf s addr = some e) (other : Nat) :
    nodeOf (s.setRelay (excessRelay addr e s.relay)) other =
      if other = addr then some { e with holdOffSent := true } else nodeOf s other := by
  cases hsent : e.holdOffSent with
  | true =>
    have hnodes : (excessRelay addr e s.relay).nodes = s.relay.nodes := by rw [excessRelay, if_pos hsent]
    rw [nodeOf_congr (s := s) hnodes]
    split
    · next ho => rw [ho, he, ← hsent]
    · rfl
  | false =>
    have hnodes : (excessRelay addr e s.relay).nodes = (mapNodes (markSent addr) s).relay.nodes := by
      rw [excessRelay, if_neg (ne_true_of_eq_false hsent)]; rfl
    rw [nodeOf_congr (s := mapNodes (markSent addr) s) hnodes]
    refine (nodeOf_mapNodes_addr (g := fun n => { n with holdOffSent := true }) (fun _ => rfl) s other).trans ?_
    split
    · next ho => rw [ho, he]; rfl
    · rfl

theorem excessRelay_ctr (addr : Nat) (e : NodeEntry) (r : Relay) : (excessRelay addr e r).ctr = { r.ctr with
    nodeStorm := bump r.ctr.nodeStorm
    holdOffSent := if e.holdOffSent then r.ctr.holdOffSent else bump r.ctr.holdOffSent } := by
  cases hsent : e.holdOffSent <;> simp [excessRelay, hsent, countExcess, countHoldOff]

theorem excessRelay_keepsCasts : KeepsCasts s (s.setRelay (excessRelay addr e s.relay)) := by
  cases hsent : e.holdOffSent <;> simp [KeepsCasts, excessRelay, hsent]

/-! ### HOLD_OFF of a source (R149) -/

theorem holdOffNode_sent (he : nodeOf s addr = some e) (hsent : e.holdOffSent = true) : holdOffNode addr s = s := by
  rw [holdOffNode, he]
  exact if_pos hsent

theorem holdOffNode_first (he : nodeOf s addr = some e) (hsent : e.holdOffSent = false) : holdOffNode addr s =
    countRelay countHoldOff
      (generate (roomPort e.seg) (holdOffTel (BitVec.ofNat 8 addr) 60) .plain (mapNodes (markSent addr) s)).1 := by
  rw [holdOffNode, he]
  exact if_neg (ne_true_of_eq_false hsent)

theorem discardExcess_eq (addr : Nat) (s : State) : discardExcess addr s = holdOffNode addr (discard countExcess s) := rfl

theorem discard_offers (cast : RelayCounters → RelayCounters) (s : State) : Offers (countRelay cast s) (discard cast s) :=
  returnBuffer_offers _

theorem discard_nodeOf (cast : RelayCounters → RelayCounters) (addr : Nat) (s : State) :
    nodeOf (discard cast s) addr = nodeOf s addr :=
  nodeOf_congr (congrArg Relay.nodes (discard_offers cast s).relay) addr

/-- Everything the discard of an excess telegram can do. -/
theorem discardExcess_offers (he : nodeOf s addr = some e) :
    Offers (s.setRelay (excessRelay addr e s.relay)) (discardExcess addr s) := by
  have hstorm := discard_offers countExcess s
  have he' : nodeOf (discard countExcess s) addr = some e := (discard_nodeOf _ _ s).trans he
  rw [discardExcess_eq]
  cases hsent : e.holdOffSent with
  | true =>
    rw [holdOffNode_sent he' hsent, excessRelay, if_pos hsent]
    exact hstorm
  | false =>
    rw [holdOffNode_first he' hsent, excessRelay, if_neg (ne_true_of_eq_false hsent)]
    have hgen := generate_offers (roomPort e.seg) (holdOffTel (BitVec.ofNat 8 addr) 60) .plain
      (mapNodes (markSent addr) (discard countExcess s))
    have hmarked : (mapNodes (markSent addr) (discard countExcess s)).relay =
        { s.relay with nodes := s.relay.nodes.map (Option.map (markSent addr)), ctr := countExcess s.relay.ctr } := by
      rw [mapNodes, setNodes, hstorm.relay]; rfl
    rw [countRelay, hgen.relay, hmarked]
    exact Offers.trans (hstorm.setRelay _) (hgen.setRelay _)

/-- The first excess telegram of an interval sends HOLD_OFF with the buffer that returns. -/
theorem discardExcess_first (he : nodeOf s addr = some e) (hsent : e.holdOffSent = false) (hh : s.pool.held = false)
    (hq : CanQueue s (roomPort e.seg)) :
    ((discardExcess addr s).port (roomPort e.seg)).queue = (s.port (roomPort e.seg)).queue ++
      [{ tel := holdOffTel (BitVec.ofNat 8 addr) 60, mark := .plain }] ∧ (discardExcess addr s).pool = s.pool := by
  have hfree : 7 < s.pool.free := hq.calm.resolve_left (by rw [hh]; decide)
  rw [discardExcess_eq, holdOffNode_first ((discard_nodeOf _ _ s).trans he) hsent, discard_calm (.inl hh)]
  generalize hm : mapNodes (markSent addr) (setFree (s.pool.free + 1) (countRelay countExcess s)) = m
  have hport (port : Port) : m.port port = s.port port := by rw [← hm]; cases port <;> rfl
  have hpool : m.pool = { s.pool with free := s.pool.free + 1 } := by rw [← hm]; rfl
  rw [generate_joins _ _ _ m (by rw [hpool]; exact Nat.succ_ne_zero _)
    (.inr (by rw [hpool]; simp only [holdThreshold]; omega)) (by rw [hport]; exact hq.active) (by rw [hport]; exact hq.room),
    hport]
  refine ⟨by cases e.seg <;> rfl, ?_⟩
  have hback : (setFree (m.pool.free - 1) m).pool = s.pool := by rw [setFree, State.setPool_pool, hpool]; rfl
  rw [← hback]
  cases e.seg <;> rfl

end

/-! ### The command -/

section
variable {room : Room} {start : Nat} {t : Telegram} {s : State}

/-- A telegram within the storm limit is resolved once its source is learned. -/
theorem exec_taken (hasm : (s.port (roomPort room)).asm = some { hasBuffer := true, start := start })
    (hsilent : (s.port (roomPort room)).phase ≠ .sending) (hsent : WellSent t)
    (hc : Taken t.src.toNat room s (counted t.src.toNat room (delivered room s))) (hcap : 0 < s.relay.set.nodeCap)
    (hstorm : ∀ n, nodeOf s t.src.toNat = some n → n.storm < s.relay.set.nodeCap) :
    exec (.rxTelegramEnd (roomPort room) (received t)) s =
      .next (finish (resolve room t (counted t.src.toNat room (delivered room s)))) := by
  have hle : bump8 (((nodeOf s t.src.toNat).map (·.storm)).getD 0) ≤ s.relay.set.nodeCap := by
    refine (bump8_le _).trans ?_
    cases hold : nodeOf s t.src.toNat with
    | none => exact hcap
    | some n => exact hstorm n hold
  have hexcess : isExcess t.src.toNat (counted t.src.toNat room (delivered room s)) = false := by
    simp [isExcess, hc.entry, hc.casts.1, hle]
  rw [exec_received hasm hsilent hsent]
  exact congrArg (fun u => Host.Outcome.next (finish u)) (if_neg (ne_true_of_eq_false hexcess))

/-- A telegram beyond the storm limit is discarded once its source is learned. -/
theorem exec_excess {n : NodeEntry} (hasm : (s.port (roomPort room)).asm = some { hasBuffer := true, start := start })
    (hsilent : (s.port (roomPort room)).phase ≠ .sending) (hsent : WellSent t)
    (hc : Taken t.src.toNat room s (counted t.src.toNat room (delivered room s))) (hold : nodeOf s t.src.toNat = some n)
    (hserve : isService s t.src.toNat = false) (hlimit : s.relay.set.nodeCap < bump8 n.storm) :
    exec (.rxTelegramEnd (roomPort room) (received t)) s =
      .next (finish (discardExcess t.src.toNat (counted t.src.toNat room (delivered room s)))) := by
  have hnot : isService (counted t.src.toNat room (delivered room s)) t.src.toNat = false :=
    (isService_congr hc.enrol _).trans hserve
  have hexcess : isExcess t.src.toNat (counted t.src.toNat room (delivered room s)) = true := by
    simp [isExcess, hnot, hc.known hold, hc.casts.1, hlimit]
  rw [exec_received hasm hsilent hsent]
  exact congrArg (fun u => Host.Outcome.next (finish u)) (if_pos hexcess)

end

end Sys2Proof.Machine
end

section
/-! Learning comes before resolution: telegrams that the BX40 discards, and excess ones (R143 to R145, R148, R149, R151, R154). -/

namespace Sys2Proof.Machine

section
variable {addr : Nat} {room : Room} {s c : State}

/-- The relay counters of a known source that has been learned: MIGRATED counts one of the other segment. -/
theorem Taken.known_ctr {n : NodeEntry} (h : Taken addr room s c) (hold : nodeOf s addr = some n) :
    c.relay.ctr = { s.relay.ctr with
      migrated := if n.seg = room then s.relay.ctr.migrated else bump s.relay.ctr.migrated } := by
  rw [h.ctr (.inl (by rw [hold]; exact Option.some_ne_none n)), hold, learnedCtr]
  by_cases hseg : n.seg = room <;> simp [hseg]

/-- The port that delivered the telegram as the end of its command leaves it: offers apart, its line ended and RX_GOOD counted. -/
theorem Taken.port_finished {u : State} (h : Taken addr room s c) (hu : PortsOffered c u) :
    (u.port (roomPort room)).asm = none ∧
      (u.port (roomPort room)).ctr.rxGood = bump (s.port (roomPort room)).ctr.rxGood := by
  obtain ⟨_, _, _, hport⟩ := h.port.trans (hu.port (roomPort room))
  rw [hport]
  exact ⟨rfl, rfl⟩

section
variable {r : Relay} {u : State}

/-- What discards a telegram of a source known on its segment changes the relay unit, and offers. -/
theorem TakenHere.blocks (h : TakenHere room s c) (hu : Offers (c.setRelay r) u) :
    u.zone = s.zone ∧ u.sup = s.sup ∧ u.sched = s.sched ∧ u.level = s.level ∧ u.mgmt = s.mgmt :=
  ⟨hu.zone.trans h.zone, hu.sup.trans h.sup, hu.sched.trans h.sched, hu.level.trans h.level, hu.mgmt.trans h.mgmt⟩

/-- Nothing is left over for the end of the command that discards a telegram of a source known on its segment. -/
theorem TakenHere.finish (h : TakenHere room s c) (hs : Settled s) (hu : Offers (c.setRelay r) u) : finish u = u := by
  have hset : Settled (c.setRelay r) := (h.settled hs).congr rfl rfl rfl rfl
  exact finish_of_settled (hu.settled hset)

end

theorem TakenHere.port_self (h : TakenHere room s c) :
    c.port (roomPort room) = deliveredPort s.now (s.port (roomPort room)) := by
  rw [h.port, if_pos rfl]

/-- Away from the pool's threshold the discard returns a buffer and offers nothing. -/
theorem TakenHere.discard (h : TakenHere room s c) (cast : RelayCounters → RelayCounters)
    (hcalm : s.pool.held = false ∨ s.pool.free < 13) :
    (discard cast c).pool = { s.pool with free := s.pool.free + 1 } ∧ ∀ port, (discard cast c).port port = c.port port := by
  rw [discard_calm (by rw [h.pool]; exact hcalm)]
  refine ⟨by rw [← h.pool]; rfl, fun port => ?_⟩
  rw [setFree_port]
  cases port <;> rfl

/-- A telegram joins the queue of the port that delivered it where it would have joined before. -/
theorem TakenHere.canQueue (h : TakenHere room s c) (hq : CanQueue s (roomPort room)) : CanQueue c (roomPort room) :=
  ⟨h.pool ▸ hq.buffer, h.pool ▸ hq.calm, by rw [h.port_self]; exact hq.active, by rw [h.port_self]; exact hq.room⟩

theorem holdOffTel_node (src : Byte) : holdOffTel (BitVec.ofNat 8 src.toNat) 60 = composeTel src 0x30 [60] := by
  rw [BitVec.ofNat_toNat, BitVec.setWidth_eq]; rfl

end

/-- Settles O42: the port delivers, the source is learned, in a full table in the slot of the entry evicted; then the telegram is
discarded by its kind, or as excess with the HOLD_OFF of the interval. -/
theorem learningComesFirst : Obligations.LearningComesFirst := by
  constructor
  · intro room start addr t own cast s hs hasm hsilent hsent haddr hown hcast hcap hstorm hroom
    subst haddr
    have hc := taken (room := room) hroom
    have hexec := exec_taken hasm hsilent hsent hc hcap hstorm
    rw [resolve_discards hown hcast] at hexec
    generalize counted t.src.toNat room (delivered room s) = c at hc hexec
    have hfin := finish_discard_finishes cast c
    have hnode (a : Nat) : nodeOf (finish (discard cast c)) a = nodeOf c a :=
      (hfin.nodeOf a).trans (nodeOf_congr (s := c) rfl a)
    have hctr : (finish (discard cast c)).relay.ctr = cast c.relay.ctr := congrArg Relay.ctr hfin.relay
    have hframe := hfin.dispatch
    obtain ⟨hset, hcastH, hcastY⟩ := (hc.casts.trans (countRelay_keepsCasts cast c)).trans (keepsCasts_of_relay hfin.relay)
    obtain ⟨hasmdone, hgood⟩ := hc.port_finished (u := finish (discard cast c)) hframe.ports
    refine ⟨_, hexec, fun n hold hseg => ?_, fun n hold hseg => ⟨?_, ?_⟩, fun hold => ?_, fun hold hempty => ?_,
      fun hr other ho => (hnode other).trans (hc.others hr other ho), fun i e hold hfull he hp hfirst => ?_, hset,
      hcastH, hcastY, hasmdone, hgood, by rw [hfin.zone]; exact hc.enrol, by rw [hfin.zone]; exact hc.table,
      hc.clock.trans hframe.clock, hfin.recov.trans hc.recov, hfin.vol.trans hc.vol, hfin.acct.trans hc.acct,
      hc.stores.trans hframe.stores, hc.nodes.trans hframe.nodes⟩
    · have hhere := hc.here ⟨n, hold, hseg⟩
      have hoffers := discard_offers cast c
      obtain ⟨hzone, hsup, hsched, hlevel, hmgmt⟩ := hhere.blocks hoffers
      refine ⟨by rw [hnode, hc.known hold, ← hseg], by rw [hctr, hc.known_ctr hold, if_pos hseg], ?_⟩
      rw [hhere.finish hs hoffers]
      refine ⟨hzone, hsup, hsched, hlevel, hmgmt, fun hcalm => ?_⟩
      obtain ⟨hpool, hports⟩ := hhere.discard cast hcalm
      refine ⟨hpool, fun port => ?_⟩
      rw [hports, hhere.port]
      split
      · next h => rw [h]; rfl
      · rfl
    · rw [hnode, hc.known hold]
    · rw [hctr, hc.known_ctr hold, if_neg hseg]
    · rw [hnode, hc.entry, hold]; rfl
    · rw [hctr, hc.ctr (.inr hempty), hold]; rfl
    · have hpicked : pickEvict s.relay.nodes = some (i, e) :=
        pickEvict_of_first he hp fun j n hj hn hnp => (evictFirst_iff e n).mpr ((hfirst j n hj hn).2 hnp)
      obtain ⟨j, b, hpick, hbctr, hothers, hgone⟩ := hc.evicts hold hfull
      cases hpicked.symm.trans hpick
      refine ⟨?_, fun other ho hoe => (hnode other).trans (hothers other ho hoe), ?_⟩
      · rw [hnode]
        exact hgone fun j n hj hn => (hfirst j n hj hn).1
      · rw [hctr, hbctr]; rfl
  · intro room start addr t n s hs hasm hsilent hsent haddr hold hserve hlimit
    subst haddr
    have hknown : nodeOf s t.src.toNat ≠ none := by rw [hold]; exact Option.some_ne_none n
    have hc := taken (room := room) fun h => absurd h hknown
    have hexec := exec_excess hasm hsilent hsent hc hold hserve hlimit
    generalize counted t.src.toNat room (delivered room s) = c at hc hexec
    have he := hc.known hold
    have hoffers := discardExcess_offers he
    have hfin := hoffers.finishes.trans (finish_finishes _)
    have hnode := fun a => (hfin.nodeOf a).trans (nodeOf_excessRelay he a)
    have hframe := hfin.dispatch
    obtain ⟨hset, hcastH, hcastY⟩ := (hc.casts.trans excessRelay_keepsCasts).trans (keepsCasts_of_relay hfin.relay)
    refine ⟨_, hexec, ?_, fun other ho => ?_, ?_, fun hseg => ?_, fun hseg hsentOff hcalm => ?_,
      fun hseg hnot hheld hq => ?_, hset, hcastH, hcastY, by rw [hfin.zone]; exact hc.enrol,
      by rw [hfin.zone]; exact hc.table, hc.clock.trans hframe.clock, hfin.recov.trans hc.recov, hfin.vol.trans hc.vol,
      hfin.acct.trans hc.acct, hc.stores.trans hframe.stores, hc.nodes.trans hframe.nodes⟩
    · rw [hnode, if_pos rfl]
    · rw [hnode, if_neg ho, hc.others (.inl hknown) other ho]
    · have hrelay := congrArg Relay.ctr hfin.relay
      rw [State.setRelay_relay, excessRelay_ctr, hc.known_ctr hold] at hrelay
      exact hrelay
    · have hhere := hc.here ⟨n, hold, hseg⟩
      rw [hhere.finish hs hoffers]
      exact hhere.blocks hoffers
    · have hhere := hc.here ⟨n, hold, hseg⟩
      obtain ⟨hpool, hports⟩ := hhere.discard countExcess hcalm
      rw [hhere.finish hs hoffers, discardExcess_eq, holdOffNode_sent ((discard_nodeOf _ _ c).trans he) hsentOff, hports,
        hhere.port_self]
      exact ⟨rfl, hpool⟩
    · have hhere := hc.here ⟨n, hold, hseg⟩
      obtain ⟨hqueue, hpool⟩ := discardExcess_first he hnot (by rw [hhere.pool]; exact hheld) (hhere.canQueue hq)
      rw [hhere.port_self, holdOffTel_node] at hqueue
      rw [hhere.finish hs hoffers, hpool, hhere.pool]
      exact ⟨hqueue, rfl⟩

end Sys2Proof.Machine
end

section
/-! SUPPORT. Which request an arbitration chooses (R161), and what a request or a relayed telegram that joins P's queue makes of
the state (R160, R169, log 19). -/

namespace Sys2Proof.Machine

/-! ### The command taken first (R161) -/

/-- One slot is weighed against the best command before it. -/
def weighCommand (best : Option (Nat × PollEntry × ValveRecord)) (ie : Nat × Option PollEntry) :
    Option (Nat × PollEntry × ValveRecord) :=
  match ie.2 with
  | none => best
  | some e =>
    match e.role with
    | .gauge => best
    | .valve r =>
      if r.pending && e.present then
        match best with
        | none => some (ie.1, e, r)
        | some (_, _, rb) => if r.since < rb.since then some (ie.1, e, r) else best
      else best

theorem pickCommand_eq (slots : List (Nat × Option PollEntry)) : pickCommand slots = slots.foldl weighCommand none := rfl

/-- The entry of a slot has a command that an arbitration may take: its valve's command is pending, and it is PRESENT. -/
structure Commandable (e : PollEntry) (r : ValveRecord) : Prop where
  role : e.role = .valve r
  pending : r.pending = true
  present : e.present = true

section
variable {slots : List (Nat × Option PollEntry)} {best : Option (Nat × PollEntry × ValveRecord)} {i : Nat} {e : PollEntry}
  {r : ValveRecord}

theorem weighCommand_takes (h : Commandable e r) (hb : ∀ j e' r', best = some (j, e', r') → r.since < r'.since) :
    weighCommand best (i, some e) = some (i, e, r) := by
  cases best with
  | none => simp [weighCommand, h.role, h.pending, h.present]
  | some b =>
    have hlt := hb b.1 b.2.1 b.2.2 rfl
    simp [weighCommand, h.role, h.pending, h.present, hlt]

theorem weighCommand_keeps {ie : Nat × Option PollEntry}
    (h : ∀ e' r', ie.2 = some e' → Commandable e' r' → r.since ≤ r'.since) :
    weighCommand (some (i, e, r)) ie = some (i, e, r) := by
  obtain ⟨j, _ | e'⟩ := ie
  · rfl
  · cases hr : e'.role with
    | gauge => simp [weighCommand, hr]
    | valve r' =>
      by_cases hc : r'.pending = true ∧ e'.present = true
      · have hle := h e' r' rfl ⟨hr, hc.1, hc.2⟩
        simp [weighCommand, hr, Nat.not_lt.mpr hle]
      · rw [← Bool.and_eq_true] at hc
        simp [weighCommand, hr, hc]

/-- A weighed slot leaves the best as it was, or puts its own command there. -/
theorem weighCommand_cases (ie : Nat × Option PollEntry) : weighCommand best ie = best ∨
    ∃ e r, ie.2 = some e ∧ Commandable e r ∧ weighCommand best ie = some (ie.1, e, r) := by
  obtain ⟨j, _ | e⟩ := ie
  · exact .inl rfl
  · cases hr : e.role with
    | gauge => exact .inl (by simp [weighCommand, hr])
    | valve r =>
      by_cases hc : r.pending = true ∧ e.present = true
      · rcases best with _ | ⟨k, eb, rb⟩
        · exact .inr ⟨e, r, rfl, ⟨hr, hc.1, hc.2⟩, by simp [weighCommand, hr, hc]⟩
        · by_cases hlt : r.since < rb.since
          · exact .inr ⟨e, r, rfl, ⟨hr, hc.1, hc.2⟩, by simp [weighCommand, hr, hc, hlt]⟩
          · exact .inl (by simp [weighCommand, hr, hlt])
      · rw [← Bool.and_eq_true] at hc
        exact .inl (by simp [weighCommand, hr, hc])

/-- What is picked is a command of one of the slots. -/
theorem pickCommand_commandable (h : pickCommand slots = some (i, e, r)) : (i, some e) ∈ slots ∧ Commandable e r := by
  rw [pickCommand_eq] at h
  refine List.foldlRecOn (motive := fun best => ∀ i e r, best = some (i, e, r) → (i, some e) ∈ slots ∧ Commandable e r)
    slots _ (by simp) (fun best hbest ie hie i e r hnew => ?_) i e r h
  rcases weighCommand_cases (best := best) ie with hold | ⟨e', r', he, hc, htaken⟩
  · exact hbest i e r (hold.symm.trans hnew)
  · cases htaken.symm.trans hnew
    rw [← he]
    exact ⟨hie, hc⟩

theorem pickCommand_none (h : ∀ i e r, (i, some e) ∈ slots → ¬ Commandable e r) : pickCommand slots = none := by
  rw [Option.eq_none_iff_forall_ne_some]
  rintro ⟨i, e, r⟩ hp
  obtain ⟨hmem, hc⟩ := pickCommand_commandable hp
  exact h i e r hmem hc

/-- The oldest command is picked, of several as old the one in the lowest slot (R161). -/
theorem pickCommand_oldest {xs : List (Option PollEntry)} (he : slotGet xs i = some e) (h : Commandable e r)
    (hoff : ∀ j e' r', j ≠ i → slotGet xs j = some e' → Commandable e' r' →
      r.since < r'.since ∨ (r.since = r'.since ∧ i < j)) :
    pickCommand (numbered xs) = some (i, e, r) := by
  have hi : (numbered xs)[i]? = some (i, some e) := by rw [getElem?_numbered, slotGet_eq_some.mp he]; rfl
  obtain ⟨hlen, hget⟩ := List.getElem?_eq_some_iff.mp hi
  have hsplit : numbered xs = (numbered xs).take i ++ (i, some e) :: (numbered xs).drop (i + 1) := by
    rw [← hget, ← List.drop_eq_getElem_cons hlen, List.take_append_drop]
  have hbefore (j : Nat) (o : Option PollEntry) (hm : (j, o) ∈ (numbered xs).take i) : j < i ∧ xs[j]? = some o := by
    obtain ⟨k, hk⟩ := List.mem_iff_getElem?.mp hm
    rw [List.getElem?_take] at hk
    split at hk
    · rw [getElem?_numbered] at hk
      obtain ⟨o', ho, heq⟩ := Option.map_eq_some_iff.mp hk
      cases heq
      exact ⟨‹_›, ho⟩
    · cases hk
  rw [hsplit, pickCommand_eq, List.foldl_append, List.foldl_cons, ← pickCommand_eq,
    weighCommand_takes h fun j e' r' hbest => ?_]
  · refine List.foldlRecOn (motive := fun best => best = some (i, e, r)) _ _ rfl fun best hbest ie hie => ?_
    rw [hbest]
    refine weighCommand_keeps fun e' r' he' hc => ?_
    obtain ⟨j, o⟩ := ie
    obtain rfl : o = some e' := he'
    have hj := slotGet_eq_some.mpr (mem_numbered.mp (List.mem_of_mem_drop hie))
    by_cases hji : j = i
    · subst hji
      cases hj.symm.trans he
      cases h.role.symm.trans hc.role
      exact Nat.le_refl _
    · have := hoff j e' r' hji hj hc
      omega
  · obtain ⟨hmem, hc⟩ := pickCommand_commandable hbest
    obtain ⟨hlt, hj⟩ := hbefore j (some e') hmem
    have := hoff j e' r' (Nat.ne_of_lt hlt) (slotGet_eq_some.mpr hj) hc
    omega

end

/-! ### The poll taken first (R161) -/

/-- The first due entry of the round after the last poll served is picked. -/
theorem pickPoll_first {s : State} {j slot : Nat} {e : PollEntry} (hj : j < s.sched.slots.length)
    (hslot : slot = (s.sched.rr + 1 + j) % s.sched.slots.length) (he : slotGet s.sched.slots slot = some e)
    (hd : e.due ≤ s.tenths)
    (hbefore : ∀ i e', i < j → slotGet s.sched.slots ((s.sched.rr + 1 + i) % s.sched.slots.length) = some e' →
      s.tenths < e'.due) :
    pickPoll s = some (slot, e) := by
  subst hslot
  have hlen : j < (List.range s.sched.slots.length).length := by rwa [List.length_range]
  have hsplit : List.range s.sched.slots.length =
      List.range j ++ j :: (List.range s.sched.slots.length).drop (j + 1) := by
    conv_lhs => rw [← List.take_append_drop j (List.range s.sched.slots.length), List.drop_eq_getElem_cons hlen]
    rw [List.take_range, Nat.min_eq_left hj.le, List.getElem_range]
  rw [pickPoll, hsplit]
  simp only [List.map_append, List.map_cons, List.findSome?_append, List.findSome?_cons, he, hd, if_true]
  rw [Option.or_eq_some_iff]
  refine .inr ⟨List.findSome?_eq_none_iff.mpr fun i hi => ?_, rfl⟩
  obtain ⟨k, hk, rfl⟩ := List.mem_map.mp hi
  cases hget : slotGet s.sched.slots ((s.sched.rr + 1 + k) % s.sched.slots.length) with
  | none => rfl
  | some e' => exact if_neg (Nat.not_le.mpr (hbefore k e' (List.mem_range.mp hk) hget))

/-! ### A request on P (R160, R169, log 19) -/

/-- A request has taken a buffer and joined P's queue. -/
def requestQueued (t : Telegram) (s : State) : State :=
  { s with
    pool := { s.pool with free := s.pool.free - 1 }
    portP := { s.portP with queue := s.portP.queue ++ [{ tel := t, mark := .request }] } }

/-- The counters with a request of this kind counted. -/
def requestCounted (k : ExKind) (c : SchedCounters) : SchedCounters :=
  match k with
  | .valve _ _ => { c with setSent := bump c.setSent }
  | .poll _ => { c with pollSent := bump c.pollSent }
  | .relay _ => c

theorem countRequest_eq (k : ExKind) (s : State) :
    countRequest k s = s.setSched { s.sched with ctr := requestCounted k s.sched.ctr } := by cases k <;> rfl

theorem requestTel_valve (i : Nat) (pos : ValvePos) (node : Byte) :
    requestTel (.valve i pos) node = composeTel node 0x22 [if pos = .opened then 1 else 0] := by cases pos <;> rfl

theorem modifySlot_eq_set {α : Type} {xs : List (Option α)} {i : Nat} {a : α} (f : α → α) (h : slotGet xs i = some a) :
    modifySlot xs i f = xs.set i (some (f a)) := by
  obtain ⟨hi, hget⟩ := List.getElem?_eq_some_iff.mp (slotGet_eq_some.mp h)
  rw [modifySlot, List.modify_eq_set_getElem?, List.getElem?_eq_getElem hi, hget]
  rfl

section
variable {s : State}

theorem generate_request (t : Telegram) (h : CanQueue s .p) : generate .p t .request s = (requestQueued t s, true) :=
  generate_joins .p t .request s h.buffer (h.calm.imp_right fun hf => by omega) h.active h.room

/-- A poll or a valve command begins (R160, R161). -/
theorem beginRequest_eq (k : ExKind) {slot : Nat} {e : PollEntry} (h : CanQueue s .p)
    (he : slotGet s.sched.slots slot = some e) : beginRequest k slot e s =
      (requestQueued (requestTel k (BitVec.ofNat 8 e.addr)) s).setSched
        { s.sched with
          slots := s.sched.slots.set slot (some { e with start := some s.tenths, base := s.tenths })
          exch := some { kind := k, node := BitVec.ofNat 8 e.addr, start := s.tenths, attempt := 1, window := none }
          ctr := requestCounted k s.sched.ctr } := by
  have hset := modifySlot_eq_set (fun e => { e with start := some s.tenths, base := s.tenths }) he
  simp only [beginRequest, generate_request _ h, countRequest_eq, modEntry, setSlots, requestQueued, State.setSched, hset]

/-- A relay exchange begins: the oldest relayed telegram moves to P's queue in the buffer it holds (R160, R167). -/
theorem beginRelay_eq (t : Telegram) (room : Room) (ha : s.portP.mode = .active) (hq : s.portP.queue.length < queueCap) :
    beginRelay t room s =
      { s with
        portP := { s.portP with queue := s.portP.queue ++ [{ tel := t, mark := .request }] }
        sched := { s.sched with
          relayList := s.sched.relayList.drop 1
          exch := some { kind := .relay room, node := t.dest, start := s.tenths, attempt := 1, window := none } } } := by
  have hjoin := offerItem_joined (s := s.setSched { s.sched with relayList := s.sched.relayList.drop 1 }) (port := .p)
    (it := { tel := t, mark := .request }) ha hq
  simp only [beginRelay, moveToQueue, hjoin]
  rfl

/-- The second attempt of a request (R160, R169). -/
theorem retryExchange_eq (x : Exchange) (h : CanQueue s .p) : retryExchange x s =
    (requestQueued (requestTel x.kind x.node) s).setSched
      { s.sched with
        exch := some { x with attempt := 2, window := none }
        ctr := { requestCounted x.kind s.sched.ctr with retry := bump (requestCounted x.kind s.sched.ctr).retry } } := by
  simp only [retryExchange, generate_request _ h, countRequest_eq, countSched, requestQueued, State.setSched]

/-- An arbitration event on a P line that is free: a settled state's command ends with the exchange chosen, and with no
NOTICE (R161, R177). -/
theorem finish_wakeSched (hs : Settled s) (hx : s.sched.exch = none) (ha : s.portP.mode = .active) :
    finish (wakeSched s) = chooseExchange s := by
  have hslept : (wakeSched s).setSched { (wakeSched s).sched with wake := false } = s := by
    have hsched : ({ s.sched with wake := false } : Scheduler) = s.sched := by rw [← hs.quiet]
    exact congrArg s.setSched hsched
  have harb : arbitrate (wakeSched s) = chooseExchange s := by
    have hwake : (wakeSched s).sched.wake = true := rfl
    rw [arbitrate, if_pos hwake, hslept]
    exact if_pos (by simp [hx, ha])
  rw [← harb]
  exact finish_eq_arbitrate hs.notices hs.timer (arbitrate_keepsTallies _).mgmt

end

end Sys2Proof.Machine
end

section
/-! A due entry with no exchange outstanding: the command, the relayed telegram or the poll that is taken (R160 to R162). -/

namespace Sys2Proof.Machine

theorem chooseExchange_command {s : State} {i : Nat} {e : PollEntry} {r : ValveRecord}
    (hc : pickCommand (numbered s.sched.slots) = some (i, e, r)) :
    chooseExchange s = beginRequest (.valve i r.desired) i e s := by
  simp only [chooseExchange, hc]

theorem chooseExchange_relay {s : State} {t : Telegram} {room : Room} {rest : List (Telegram × Room)}
    (hc : pickCommand (numbered s.sched.slots) = none) (hl : s.sched.relayList = (t, room) :: rest) :
    chooseExchange s = beginRelay t room s := by
  simp only [chooseExchange, hc, hl]

/-- A poll is begun, and the round goes on from its slot (R161). -/
theorem chooseExchange_poll {s : State} {i : Nat} {e : PollEntry} (hc : pickCommand (numbered s.sched.slots) = none)
    (hl : s.sched.relayList = []) (hp : pickPoll s = some (i, e)) (h : CanQueue s .p) :
    chooseExchange s = (beginRequest (.poll i) i e s).setSched { (beginRequest (.poll i) i e s).sched with rr := i } := by
  simp only [chooseExchange, hc, hl, hp]
  exact if_pos (Option.isSome_iff_ne_none.mpr (beginRequest_begins _ i e h))

theorem exec_pollDue {s : State} (hs : Settled s) (hx : s.sched.exch = none) (ha : s.portP.mode = .active) {slot : Nat}
    {e : PollEntry} (he : slotGet s.sched.slots slot = some e) (hd : e.due ≤ s.tenths) :
    exec .pollDue s = .next (chooseExchange s) := by
  have hcause : (s.sched.slots.any fun o => o.any fun e => decide (e.due ≤ s.tenths)) = true :=
    List.any_eq_true.mpr ⟨some e, List.mem_of_getElem? (slotGet_eq_some.mp he), by simp [hd]⟩
  rw [← finish_wakeSched hs hx ha]
  exact act_finish hcause

/-- Settles O45: the exchange chosen is the command's where one is pending, else the relay's, else the round's next poll. -/
theorem pollDueBeginsAnExchange : Obligations.PollDueBeginsAnExchange := by
  intro s hs hx ha hq ⟨dueSlot, dueEntry, hdueGet, hdue⟩
  rw [exec_pollDue hs hx ha hdueGet hdue]
  have queues (hfree : s.pool.free ≠ 0) (hcalm : s.pool.held = true ∨ 7 < s.pool.free) : CanQueue s .p :=
    ⟨hfree, hcalm, ha, hq⟩
  refine ⟨fun slot e r hfree hcalm he hrole hpending hpresent holdest => ?_, fun hnone => ?_⟩
  · have hpick : pickCommand (numbered s.sched.slots) = some (slot, e, r) :=
      pickCommand_oldest he ⟨hrole, hpending, hpresent⟩ fun j e' r' hj he' hc =>
        holdest j e' r' hj he' hc.role hc.pending hc.present
    rw [chooseExchange_command hpick, beginRequest_eq _ (queues hfree hcalm) he, requestTel_valve]
    rfl
  · have hpick : pickCommand (numbered s.sched.slots) = none := pickCommand_none fun i e r hmem hc => by
      have habsent := hnone i e r (slotGet_eq_some.mpr (mem_numbered.mp hmem)) hc.role hc.pending
      exact absurd hc.present (by simp [habsent])
    refine ⟨fun t room rest hlist => ?_, fun j slot e hfree hcalm hlist hj hslot he hd hfirst => ?_⟩
    · rw [chooseExchange_relay hpick hlist, beginRelay_eq t room ha hq, hlist]
      rfl
    · have hq := queues hfree hcalm
      rw [chooseExchange_poll hpick hlist (pickPoll_first hj hslot he hd hfirst) hq, beginRequest_eq _ hq he]
      rfl

end Sys2Proof.Machine
end

section
/-! SUPPORT. What a silent window, a miss, a stray and a relay reply make of the state, and an exchange that is over at the end of
its command (R160, R163 to R165, R167). -/

namespace Sys2Proof.Machine

/-! ### The end of a command after an exchange (R161) -/

/-- With no exchange left outstanding, one that the end of the command shows has begun there. -/
theorem finish_exchangeOver {s u : State} (hn : u.sched.exch = none) (ht : u.now = s.now) : ExchangeOver s (finish u) := by
  intro x hx
  have htenths : u.tenths = s.tenths := congrArg (· / ticksPerTenth) ht
  rw [← htenths]
  exact (finish_exch_begun hn hx).1

/-- A command that owes no NOTICE keeps the management unit whole. -/
theorem finish_mgmt {u : State} (hn : NoticeSettled u) (ht : enabledSet u = 0 → u.mgmt.repeatFrom = none) :
    (finish u).mgmt = u.mgmt := by
  have hkeep := (arbitrate_keepsTallies u).mgmt
  rw [finish_eq_arbitrate hn ht hkeep]
  exact hkeep

/-! ### What the plant's exchanges leave as it is -/

/-- An exchange has been worked: outside the poll scheduler and the supervisor only BURNER_START, the NOTICE line with its timer
and offers may have changed. -/
structure PlantFrame (s t : State) : Prop where
  clock : KeepsClock s t
  relay : t.relay = s.relay
  zone : t.zone = s.zone
  recov : t.recov = s.recov
  level : t.level = { s.level with burnerStart := t.level.burnerStart }
  vol : t.vol = s.vol
  acct : t.acct = s.acct
  stores : KeepsStores s t
  ports : PortsOffered s t

theorem PlantFrame.trans {a b c : State} (h : PlantFrame a b) (k : PlantFrame b c) : PlantFrame a c where
  clock := h.clock.trans k.clock
  relay := k.relay.trans h.relay
  zone := k.zone.trans h.zone
  recov := k.recov.trans h.recov
  level := k.level.trans (by rw [h.level])
  vol := k.vol.trans h.vol
  acct := k.acct.trans h.acct
  stores := h.stores.trans k.stores
  ports := h.ports.trans k.ports

theorem plantFrame_of_dispatch {s t : State} (h : DispatchFrame s t) (hz : t.zone = s.zone) : PlantFrame s t :=
  ⟨h.clock, h.relay, hz, h.recov, h.level, h.vol, h.acct, h.stores, h.ports⟩

theorem Finishes.plant {s t : State} (h : Finishes s t) : PlantFrame s t := plantFrame_of_dispatch h.dispatch h.zone

theorem Steers.plant {s t : State} (h : Steers s t) : PlantFrame s t := plantFrame_of_dispatch h.dispatch h.zone

theorem setSched_plant (s : State) (v : Scheduler) : PlantFrame s (s.setSched v) :=
  ⟨.refl s, rfl, rfl, rfl, rfl, rfl, rfl, .refl s, .refl s⟩

/-! ### What a slot shows of its valve -/

theorem valveShown_eq (s : State) (slot : Nat) :
    valveShown s slot = ((slotGet s.sched.slots slot).map nodeSeen).bind fun n => n.2.2.2.2.2 := by
  unfold valveShown recordOf
  cases slotGet s.sched.slots slot <;> rfl

theorem KeepsNodes.valveShown {s t : State} (h : KeepsNodes s t) (slot : Nat) : valveShown t slot = valveShown s slot := by
  rw [valveShown_eq, valveShown_eq, h.slot]

theorem valveShown_modEntry_other {slot other : Nat} (h : other ≠ slot) (f : PollEntry → PollEntry) (s : State) :
    valveShown (modEntry slot f s) other = valveShown s other := by
  have hslots : (modEntry slot f s).sched.slots = modifySlot s.sched.slots slot f := rfl
  rw [valveShown_eq, valveShown_eq, hslots, slotGet_modifySlot_other _ h.symm]

theorem reported_of_valveShown {s t : State} {slot : Nat} (h : valveShown t slot = valveShown s slot) :
    (recordOf t slot).map (·.reported) = (recordOf s slot).map (·.reported) := by
  have shown (u : State) : (recordOf u slot).map (·.reported) = (valveShown u slot).map Prod.fst := by
    rw [valveShown, Option.map_map]; rfl
  rw [shown, shown, h]

/-! ### A miss (R164) -/

theorem nodeSeen_eq_iff {a b : PollEntry} : nodeSeen a = nodeSeen b ↔ a.addr = b.addr ∧ a.interval = b.interval ∧
    a.present = b.present ∧ a.misses = b.misses ∧ a.lastAnswer = b.lastAnswer ∧
    (a.valve?.map fun r => (r.reported, r.fault)) = b.valve?.map fun r => (r.reported, r.fault) := by
  simp [nodeSeen]

theorem markMissed_third {e : PollEntry} (h : e.present = true ∧ 3 ≤ bump8 e.misses) :
    markMissed e = { e.modValve unknownReport with misses := bump8 e.misses, present := false } := by
  obtain ⟨hp, h3⟩ := h
  obtain ⟨addr, _ | r, interval, present, misses, lastAnswer, due, start, base⟩ := e <;>
    cases hp <;> simp [markMissed, PollEntry.modValve, unknownReport, h3]

theorem markMissed_kept {e : PollEntry} (h : ¬ (e.present = true ∧ 3 ≤ bump8 e.misses)) :
    markMissed e = { e with misses := bump8 e.misses } := by
  have hcond : (decide (3 ≤ bump8 e.misses) && e.present) = false := by
    rw [← Bool.not_eq_true, Bool.and_eq_true, decide_eq_true_eq]
    exact fun hc => h hc.symm
  simp [markMissed, hcond]

/-- Which entry a missed one becomes: ABSENT at the third miss with its valve UNKNOWN, else the same with a miss more
(R164). -/
theorem markMissed_spec (e : PollEntry) : (markMissed e).addr = e.addr ∧ (markMissed e).interval = e.interval ∧
    (markMissed e).lastAnswer = e.lastAnswer ∧ (markMissed e).misses = bump8 e.misses ∧
    ((markMissed e).present = true ↔ e.present = true ∧ bump8 e.misses < 3) ∧
    (e.present = true → (markMissed e).present = false → (markMissed e).valve? = e.valve?.map unknownReport) ∧
    ((markMissed e).present = e.present → (markMissed e).valve? = e.valve?) := by
  by_cases hthird : e.present = true ∧ 3 ≤ bump8 e.misses
  · rw [markMissed_third hthird]
    obtain ⟨hp, h3⟩ := hthird
    have hmod : (e.modValve unknownReport).addr = e.addr ∧ (e.modValve unknownReport).interval = e.interval ∧
        (e.modValve unknownReport).lastAnswer = e.lastAnswer ∧
        (e.modValve unknownReport).valve? = e.valve?.map unknownReport := by
      obtain ⟨_, _ | r⟩ := e <;> exact ⟨rfl, rfl, rfl, rfl⟩
    obtain ⟨haddr, hinterval, hlast, hvalve⟩ := hmod
    exact ⟨haddr, hinterval, hlast, rfl, by simp [Nat.not_lt.mpr h3], fun _ _ => hvalve, by rw [hp]; nofun⟩
  · rw [markMissed_kept hthird]
    exact ⟨rfl, rfl, rfl, rfl, ⟨fun hp => ⟨hp, Nat.not_le.mp fun h3 => hthird ⟨hp, h3⟩⟩, And.left⟩,
      fun (hp : e.present = true) hn => Bool.noConfusion (hp.symm.trans hn), fun _ => rfl⟩

/-- The exchange over, the miss counted and marked in its entry (R164). -/
def missed (slot : Nat) (s : State) : State :=
  modEntry slot markMissed (countSched (fun c => { c with miss := bump c.miss }) (endExchange s))

theorem missExchange_eq (slot : Nat) (s : State) : missExchange slot s =
    if (recordOf (redecide slot (missed slot s)) slot).map (·.reported) = (recordOf s slot).map (·.reported) then
      redecide slot (missed slot s)
    else recompute (redecide slot (missed slot s)) := rfl

theorem missExchange_steers (slot : Nat) (s : State) : Steers (missed slot s) (missExchange slot s) := by
  have h := redecide_steers slot (missed slot s)
  rw [missExchange_eq]
  split
  · exact h
  · exact h.trans (recompute_steers _)

/-- A miss that changes no reported position is not handed to the supervisor. -/
theorem missExchange_unheard {slot : Nat} {s : State} (h : valveShown (missed slot s) slot = valveShown s slot) :
    (missExchange slot s).sup = s.sup ∧ (missExchange slot s).level = s.level := by
  have hrep := reported_of_valveShown h
  rw [missExchange_eq, recordOf_redecide, if_pos hrep, redecide_frame]
  exact ⟨rfl, rfl⟩

/-- What the end of a missed exchange leaves (R164). -/
structure MissEnded (slot : Nat) (e : PollEntry) (s t : State) : Prop where
  exch : ExchangeOver s t
  counts : withoutRequests t.sched.ctr = withoutRequests { s.sched.ctr with miss := bump s.sched.ctr.miss }
  entry : (slotGet t.sched.slots slot).map nodeSeen = some (nodeSeen (markMissed e))
  others : ∀ other, other ≠ slot → valveShown t other = valveShown s other
  unheard : valveShown t slot = valveShown s slot → t.sup = s.sup ∧ t.level = s.level
  frame : PlantFrame s t

theorem missEnded_spec {slot : Nat} {e : PollEntry} {s : State} (he : slotGet s.sched.slots slot = some e) :
    MissEnded slot e s (finish (missExchange slot s)) := by
  have hsteers := missExchange_steers slot s
  have hfin := finish_finishes (missExchange slot s)
  have hnodes := hsteers.nodes.trans hfin.keepsNodes
  have hslot : slotGet (missed slot s).sched.slots slot = some (markMissed e) := by
    have hm := slotGet_modifySlot s.sched.slots slot markMissed
    rwa [he] at hm
  refine ⟨finish_exchangeOver (by rw [hsteers.sched]; rfl) hsteers.now, ?_, ?_, fun other ho => ?_, fun hsame => ?_,
    ((setSched_plant s _).trans hsteers.plant).trans hfin.plant⟩
  · rw [finish_counts, hsteers.sched]; rfl
  · rw [hnodes.slot, hslot]; rfl
  · rw [hnodes.valveShown]
    exact valveShown_modEntry_other ho ..
  · rw [hnodes.valveShown] at hsame
    obtain ⟨hsup, hlevel⟩ := missExchange_unheard hsame
    exact ⟨hfin.sup.trans hsup, hfin.level.trans hlevel⟩

/-! ### A silent window (R160, R167) -/

theorem exec_windowClose {x : Exchange} {w : Nat} {s : State} (hx : s.sched.exch = some x) (hw : x.window = some w)
    (hlate : w + 4000 ≤ s.now) (hasm : ∀ a, s.portP.asm = some a → w + 4000 ≤ a.start) :
    exec .responseWindowClose s = .next (finish (silentWindow s)) := by
  have hticks : windowTicks = 4000 := by simp [windowTicks, ticksPerMs]
  have hnone : (s.portP.asm.any fun a => decide (a.start < w + windowTicks)) = false := by
    cases ha : s.portP.asm with
    | none => rfl
    | some a => simp [hticks, hasm a ha]
  have hcause : windowOver s = true := by
    simp only [windowOver, hx, Option.bind_some, hw, hnone]
    simp [hticks, hlate]
  exact act_finish hcause

section
variable {x : Exchange} {slot : Nat} {s : State}

theorem silentWindow_retries (hx : s.sched.exch = some x) (hslot : x.kind.slot? = some slot) (h1 : x.attempt = 1) :
    silentWindow s = retryExchange x s := by
  simp only [silentWindow, hx, hslot, h1, if_true]

theorem silentWindow_misses (hx : s.sched.exch = some x) (hslot : x.kind.slot? = some slot) (h1 : x.attempt ≠ 1) :
    silentWindow s = missExchange slot s := by
  simp only [silentWindow, hx, hslot, h1, if_false]

theorem silentWindow_relay (hx : s.sched.exch = some x) (hslot : x.kind.slot? = none) :
    silentWindow s = endExchange (countSched (fun c => { c with relayNoReply := bump c.relayNoReply }) s) := by
  simp only [silentWindow, hx, hslot]

/-- The repeated request leaves nothing over. -/
theorem finish_retryExchange (hs : Settled s) (h : CanQueue s .p) : finish (retryExchange x s) = retryExchange x s := by
  rw [retryExchange_eq x h]
  exact finish_of_settled (hs.congr rfl (enabledSet_congr rfl rfl rfl rfl rfl rfl rfl rfl rfl rfl) rfl rfl)

end

/-! ### Telegrams on P that are no answer (R165), and the reply to a relay (R155, R167) -/

section
variable {tel : Telegram} {s : State}

theorem heardOnP_eq (s : State) : heardOnP s = s.setPort .p (deliveredPort s.now s.portP) := rfl

theorem heardOnP_settled (hs : Settled s) : Settled (heardOnP s) := by
  rw [heardOnP_eq]
  exact hs.setPort rfl

/-- The kind that the node of a slot answers with (R160). -/
theorem expectedKind_eq {slot : Nat} {e : PollEntry} (he : slotGet s.sched.slots slot = some e) :
    expectedKind s slot = if e.role = .gauge then 0x21 else 0x23 := by
  cases hr : e.role <;> simp [expectedKind, he, PollEntry.isGauge, hr, kindSample, kindValveReport]

theorem takeFromP_idle (h : s.sched.exch = none) : takeFromP tel s = takeStray s := by simp only [takeFromP, h]

theorem takeFromP_unasked {x : Exchange} (hx : s.sched.exch = some x) (h : x.window = none ∨ tel.src ≠ x.node) :
    takeFromP tel s = takeStray s := by
  have hc : (x.window.isNone || decide (tel.src ≠ x.node)) = true := by
    rcases h with h | h <;> simp [h]
  simp only [takeFromP, hx, if_pos hc]

/-- A telegram of the node addressed, in the response window of a poll or a valve command, is an answer or a stray
(R163, R165). -/
theorem takeFromP_addressed {x : Exchange} {slot w : Nat} (hx : s.sched.exch = some x) (hslot : x.kind.slot? = some slot)
    (hw : x.window = some w) (hsrc : tel.src = x.node) : takeFromP tel s =
      if tel.dest = 0 ∧ tel.kind = expectedKind s slot then takeAnswer x slot tel s else takeStray s := by
  obtain ⟨kind, node, start, attempt, window⟩ := x
  dsimp only at hslot hw hsrc
  have hc : ¬ (window.isNone || decide (tel.src ≠ node)) = true := by simp [hw, hsrc]
  simp only [takeFromP, hx, if_neg hc, ← Bool.decide_and, decide_eq_true_eq]
  cases kind with
  | relay room => cases hslot
  | poll i => cases hslot; rfl
  | valve i pos => cases hslot; rfl

theorem takeFromP_reply {x : Exchange} {w : Nat} {room : Room} (hx : s.sched.exch = some x) (hk : x.kind = .relay room)
    (hw : x.window = some w) (hsrc : tel.src = x.node) : takeFromP tel s = takeReply room tel s := by
  have hc : ¬ (x.window.isNone || decide (tel.src ≠ x.node)) = true := by simp [hw, hsrc]
  simp only [takeFromP, hx, if_neg hc, hk]

/-- The state of the scheduler and the relay unit as a reply goes to the requester's segment. -/
def replyTaken (s : State) : State :=
  (endExchange s).setRelay { s.relay with ctr := { s.relay.ctr with returned := bump s.relay.ctr.returned } }

theorem takeReply_eq (room : Room) (s : State) :
    takeReply room tel s = (moveToQueue (roomPort room) tel .plain (replyTaken s)).1 := rfl

/-- What the end of a command that took a reply leaves (R155, R167). -/
structure ReplyEnded (room : Room) (tel : Telegram) (s t : State) : Prop where
  exch : ExchangeOver s t
  relay : t.relay = { s.relay with ctr := { s.relay.ctr with returned := bump s.relay.ctr.returned } }
  counts : withoutRequests t.sched.ctr = withoutRequests s.sched.ctr
  portP : PortOffered s.portP t.portP
  queue : (s.port (roomPort room)).mode = .active → (s.port (roomPort room)).queue.length < queueCap →
    ∃ its, (t.port (roomPort room)).queue = (s.port (roomPort room)).queue ++ [{ tel := tel, mark := .plain }] ++ its
  frame : KeepsClock s t ∧ t.zone = s.zone ∧ t.sup = s.sup ∧ t.recov = s.recov ∧ KeepsOil s t ∧ t.mgmt = s.mgmt ∧
    t.nv = s.nv ∧ KeepsNodes s t

theorem replyEnded_spec (room : Room) (hs : Settled s) : ReplyEnded room tel s (finish (takeReply room tel s)) := by
  have hport : (replyTaken s).port (roomPort room) = s.port (roomPort room) := by cases room <;> rfl
  have hoffers := moveToQueue_offers (roomPort room) tel .plain (replyTaken s)
  have hqueue : (s.port (roomPort room)).mode = .active → (s.port (roomPort room)).queue.length < queueCap →
      ((takeReply room tel s).port (roomPort room)).queue =
        (s.port (roomPort room)).queue ++ [{ tel := tel, mark := .plain }] := fun hm hq => by
    rw [← hport] at hm hq ⊢
    rw [takeReply_eq, moveToQueue_joined hm hq, port_setPort_self]
  rw [← takeReply_eq] at hoffers
  generalize takeReply room tel s = u at hoffers hqueue
  have hfin := finish_finishes u
  have hend := hoffers.finishes.trans hfin
  have henabled : enabledSet u = enabledSet s := hoffers.finishes.enabledSet.trans
    (enabledSet_congr rfl rfl rfl rfl rfl rfl rfl rfl rfl rfl)
  have hmgmt : u.mgmt = s.mgmt := hoffers.mgmt
  refine ⟨finish_exchangeOver (by rw [hoffers.sched]; rfl) hoffers.now, hend.relay, by rw [finish_counts, hoffers.sched]; rfl,
    hend.portP, fun hm hq => ?_, ⟨hend.now, hend.pending, hend.freeIdx⟩, hend.zone, hend.sup, hend.recov,
    ⟨hend.level, hend.vol, hend.acct⟩, ?_, hend.nv, hend.keepsNodes⟩
  · obtain ⟨its, _, _, hp⟩ := hfin.port (roomPort room)
    exact ⟨its, by rw [hp, hqueue hm hq]⟩
  · rw [finish_mgmt (by rw [NoticeSettled, henabled, hmgmt]; exact hs.notices)
      (by rw [henabled, hmgmt]; exact hs.timer), hmgmt]

theorem finish_takeStray (hs : Settled s) : finish (takeStray s) = takeStray s := by
  have hcounted : Settled (countSched (fun c => { c with stray := bump c.stray }) s) :=
    hs.congr rfl (enabledSet_congr rfl rfl rfl rfl rfl rfl rfl rfl rfl rfl) rfl rfl
  exact finish_of_settled ((returnBuffer_offers _).settled hcounted)

end

end Sys2Proof.Machine
end

section
/-! Silent windows, strays and replies to a relay (R155, R160, R164, R165, R167). -/

namespace Sys2Proof.Machine

section
variable {x : Exchange} {w : Nat} {s : State}

/-- The window of a relay exchange closes with no reply (R167). -/
theorem relayWindow_counts (hs : Settled s) (hx : s.sched.exch = some x) (hslot : x.kind.slot? = none) {t : State}
    (ht : finish (silentWindow s) = t) :
    ExchangeOver s t ∧ t.sched.ctr.relayNoReply = bump s.sched.ctr.relayNoReply ∧ t.sched.ctr.miss = s.sched.ctr.miss ∧
      KeepsClock s t ∧ KeepsHeat s t ∧ KeepsOil s t ∧ t.mgmt = s.mgmt ∧ t.nv = s.nv ∧ KeepsNodes s t ∧
      PortsOffered s t := by
  subst ht
  rw [silentWindow_relay hx hslot]
  set u := endExchange (countSched (fun c => { c with relayNoReply := bump c.relayNoReply }) s)
  have hfin := finish_finishes u
  have hcounts := finish_counts u
  have henabled : enabledSet u = enabledSet s := enabledSet_congr rfl rfl rfl rfl rfl rfl rfl rfl rfl rfl
  exact ⟨finish_exchangeOver rfl rfl, (congrArg SchedCounters.relayNoReply hcounts :),
    (congrArg SchedCounters.miss hcounts :), ⟨hfin.now, hfin.pending, hfin.freeIdx⟩,
    ⟨hfin.relay, hfin.zone, hfin.sup, hfin.recov⟩, ⟨hfin.level, hfin.vol, hfin.acct⟩,
    finish_mgmt (by rw [NoticeSettled, henabled]; exact hs.notices) (by rw [henabled]; exact hs.timer), hfin.nv,
    hfin.keepsNodes, ⟨hfin.portH, hfin.portY, hfin.portP⟩⟩

/-- The entry of a missed exchange, as the statement shows it (R164). -/
theorem MissEnded.shows {slot : Nat} {e : PollEntry} {t : State} (h : MissEnded slot e s t)
    (he : slotGet s.sched.slots slot = some e) :
    ∃ e', slotGet t.sched.slots slot = some e' ∧ e'.addr = e.addr ∧ e'.interval = e.interval ∧
      e'.lastAnswer = e.lastAnswer ∧ e'.misses = bump8 e.misses ∧
      (e'.present = true ↔ e.present = true ∧ bump8 e.misses < 3) ∧
      (e.present = true → e'.present = false → nodeAbsentCond t = true ∧
        ∀ r, e'.valve? = some r → r.reported = .unknown) ∧
      (e'.present = e.present → valveShown t slot = valveShown s slot ∧ t.sup = s.sup ∧ t.level = s.level) := by
  obtain ⟨e', he', hseen⟩ := Option.map_eq_some_iff.mp h.entry
  obtain ⟨haddr, hinterval, hpresent, hmisses, hlast, hvalve⟩ := nodeSeen_eq_iff.mp hseen
  obtain ⟨maddr, minterval, mlast, mmisses, mpresent, mabsent, msame⟩ := markMissed_spec e
  have hshown : valveShown t slot = (markMissed e).valve?.map fun r => (r.reported, r.fault) := by
    rw [valveShown_eq, he', ← hvalve]; rfl
  have hwas : valveShown s slot = e.valve?.map fun r => (r.reported, r.fault) := by rw [valveShown_eq, he]; rfl
  refine ⟨e', he', haddr.trans maddr, hinterval.trans minterval, hlast.trans mlast, hmisses.trans mmisses,
    by rw [hpresent]; exact mpresent, fun hp hn => ⟨?_, fun r hr => ?_⟩, fun hp => ?_⟩
  · exact List.any_eq_true.mpr ⟨some e', List.mem_of_getElem? (slotGet_eq_some.mp he'), by simp [hn]⟩
  · rw [mabsent hp (hpresent.symm.trans hn), hr, Option.map_map] at hvalve
    obtain ⟨r', -, hr'⟩ := Option.map_eq_some_iff.mp hvalve.symm
    exact (congrArg Prod.fst hr').symm
  · have hsame : valveShown t slot = valveShown s slot := by rw [hshown, hwas, msame (hpresent.symm.trans hp)]
    exact ⟨hsame, h.unheard hsame⟩

end

/-- Settles O46: the window's kind and attempt decide its end; what P hears outside an answer is a stray or a relay's reply. -/
theorem silentWindowRetriesThenMisses : Obligations.SilentWindowRetriesThenMisses := by
  refine ⟨fun x w s hs hx hw hlate hasm => ?_, fun start tel s hs hasm hsilent hsent => ?_⟩
  · rw [exec_windowClose hx hw hlate hasm]
    refine ⟨fun slot hk h1 hq => ?_, fun slot pos hk h1 hq => ?_, fun slot e hslot h1 he => ?_, fun room hk => ?_⟩
    · rw [silentWindow_retries hx (by rw [hk]; rfl) h1, finish_retryExchange hs hq, retryExchange_eq x hq, hk]
      rfl
    · rw [silentWindow_retries hx (by rw [hk]; rfl) h1, finish_retryExchange hs hq, retryExchange_eq x hq, hk,
        requestTel_valve]
      rfl
    · rw [silentWindow_misses hx hslot h1]
      have hend := missEnded_spec he
      have hframe := hend.frame
      obtain ⟨e', he', haddr, hinterval, hlast, hmisses, hpresent, habsent, hsame⟩ := hend.shows he
      exact ⟨_, e', rfl, hend.exch, (congrArg SchedCounters.miss hend.counts :),
        (congrArg SchedCounters.retry hend.counts :), he', haddr, hinterval, hlast, hmisses, hpresent, habsent, hsame,
        hend.others, hframe.clock, hframe.relay, hframe.zone, hframe.recov, hframe.vol, hframe.acct, hframe.stores,
        hframe.ports⟩
    · exact ⟨_, rfl, relayWindow_counts hs hx (by rw [hk]; rfl) rfl⟩
  · rw [exec_received_p hasm hsilent hsent]
    have hheard := heardOnP_settled hs
    refine ⟨fun hno => ?_, fun x w room hx hk hw hsrc => ?_⟩
    · have hstray : takeFromP tel (heardOnP s) = takeStray (heardOnP s) := by
        rcases hno with hidle | ⟨x, hx, hunasked⟩ | ⟨x, slot, e, hx, hslot, he, hbad⟩
        · exact takeFromP_idle hidle
        · exact takeFromP_unasked hx hunasked
        · by_cases hunasked : x.window = none ∨ tel.src ≠ x.node
          · exact takeFromP_unasked hx hunasked
          · rw [not_or, not_not] at hunasked
            obtain ⟨w, hw⟩ := Option.ne_none_iff_exists'.mp hunasked.1
            rw [takeFromP_addressed (s := heardOnP s) hx hslot hw hunasked.2, expectedKind_eq (s := heardOnP s) he, if_neg]
            exact fun ⟨hdest, hkind⟩ => hbad.elim (· hdest) (· hkind)
      rw [hstray, finish_takeStray hheard]
      set counted := countSched (fun c => { c with stray := bump c.stray }) (heardOnP s)
      have hoffers : Offers counted (takeStray (heardOnP s)) := returnBuffer_offers counted
      have hportP : (takeStray (heardOnP s)).portP = deliveredPort s.now s.portP := returnBuffer_portP counted
      obtain ⟨hclock, hheat, hoil, hsched, hmgmt, hnv⟩ := hoffers.onlyPorts
      exact ⟨_, rfl, hsched, by rw [hportP]; rfl, by rw [hportP]; rfl, by rw [hportP]; rfl,
        fun hcalm => congrArg State.pool (returnBuffer_calm (s := counted)
          (hcalm.imp_right fun h => Nat.succ_lt_succ h)), hclock, hheat, hoil, hmgmt, hnv⟩
    · rw [takeFromP_reply (s := heardOnP s) hx hk hw hsrc]
      have hend := replyEnded_spec (tel := tel) room hheard
      have hroom : (heardOnP s).port (roomPort room) = s.port (roomPort room) := by cases room <;> rfl
      obtain ⟨its, _, _, hportP⟩ := hend.portP
      have hqueue := hend.queue
      rw [hroom] at hqueue
      obtain ⟨hclock, hzone, hsup, hrecov, hoil, hmgmt, hnv, hnodes⟩ := hend.frame
      exact ⟨_, rfl, hend.exch, hend.relay, (congrArg SchedCounters.stray hend.counts :),
        (congrArg SchedCounters.relayNoReply hend.counts :), (congrArg SchedCounters.answered hend.counts :), hqueue,
        by rw [hportP]; rfl, by rw [hportP]; rfl, hclock, hzone, hsup, hrecov, hoil, hmgmt, hnv, hnodes⟩

end Sys2Proof.Machine
end

section
/-! SUPPORT. What a change of a slot's valve record makes of the state, with the supervisor's recomputation where it sees the
change (R27, R159, R163, R166). -/

namespace Sys2Proof.Machine

/-! ### What the supervisor's operations are made of (R27 to R36) -/

/-- A property of the state that outlives a change of the supervisor's block, of BURNER_START, and a valve command: what every
operation of the supervisor is made of. -/
structure OutlivesSteering (P : State → Prop) : Prop where
  sup : ∀ s v, P s → P (s.setSup v)
  start : ∀ s b, P s → P (setBurnerStart b s)
  write : ∀ s addr pos, P s → P (writeDesired addr pos s)

namespace OutlivesSteering

variable {P : State → Prop} {s : State}

theorem forEach (hs : P s) {f : Nat → State → State} (hf : ∀ x u, P u → P (f x u)) (xs : List Nat) :
    P (Machine.forEach xs f s) := by
  induction xs generalizing s with
  | nil => exact hs
  | cons x xs ih => exact ih (hf x s hs)

variable (h : OutlivesSteering P)
include h

theorem writeZoneValve (pos : ValvePos) (z : Nat) (s : State) (hs : P s) : P (writeZoneValve pos z s) := by
  unfold Machine.writeZoneValve
  split
  · exact hs
  · exact h.write s _ pos hs

theorem openWanting (z : Nat) (s : State) (hs : P s) : P (openWanting z s) := by
  unfold Machine.openWanting
  split
  · exact hs
  · split
    · exact hs
    · exact h.write s _ _ hs

theorem releaseHeld (hs : P s) : P (releaseHeld s) := h.sup _ _ (forEach hs (h.writeZoneValve .closed) _)

theorem startHoldExtension (hs : P s) : P (startHoldExtension s) := by
  unfold Machine.startHoldExtension
  split
  · exact h.start _ _ (h.sup _ _ hs)
  · exact h.sup _ _ hs

theorem dropCall (next : SupState) (hs : P s) : P (dropCall next s) := by
  unfold Machine.dropCall
  extract_lets _ s1 _ s2
  have h2 : P s2 := by
    simp only [s2]
    split
    · exact h.releaseHeld (h.sup _ _ (h.sup _ _ hs))
    · exact h.sup _ _ (h.sup _ _ hs)
  split
  · exact h2
  · exact h.startHoldExtension (h.sup _ _ h2)

theorem enterCalling (hs : P s) : P (enterCalling s) := by
  unfold Machine.enterCalling
  dsimp only
  split
  · exact h.startHoldExtension (h.sup _ _ (h.start _ _ (h.sup _ _ hs)))
  · exact h.start _ _ (h.sup _ _ hs)

theorem testSupervisor (hs : P s) : P (testSupervisor s) := by
  have drop : P (if !pathExists s then Machine.dropCall .idle s
      else if s.sup.served.isEmpty && minOnPassed s then Machine.dropCall .idle s else s) := by
    split
    · exact h.dropCall _ hs
    · split
      · exact h.dropCall _ hs
      · exact hs
  unfold Machine.testSupervisor
  cases s.sup.state with
  | idle =>
    dsimp only
    split
    · exact hs
    · split
      · exact h.enterCalling hs
      · exact h.sup _ _ hs
  | waitOff =>
    dsimp only
    split
    · exact h.sup _ _ hs
    · split
      · exact h.enterCalling hs
      · exact hs
  | calling => exact drop
  | firing => exact drop
  | holding => exact drop
  | locked => exact hs
  | inhibited => exact hs

theorem recompute (hs : P s) : P (recompute s) := by
  unfold Machine.recompute
  extract_lets _ s1 s2
  have h2 : P s2 := by
    simp only [s2]
    split
    · exact h.sup _ _ hs
    · exact h.releaseHeld (h.sup _ _ hs)
  exact h.testSupervisor (forEach h2 h.openWanting _)

end OutlivesSteering

/-! ### Records of a changed entry -/

section
variable {s : State} {slot other : Nat}

theorem recordOf_modEntry_self {e : PollEntry} (f : PollEntry → PollEntry) (he : slotGet s.sched.slots slot = some e) :
    recordOf (modEntry slot f s) slot = (f e).valve? := by
  have hslot := slotGet_modifySlot s.sched.slots slot f
  rw [he] at hslot
  exact congrArg (·.bind PollEntry.valve?) hslot

theorem recordOf_modEntry_other (h : slot ≠ other) (f : PollEntry → PollEntry) :
    recordOf (modEntry slot f s) other = recordOf s other :=
  congrArg (·.bind PollEntry.valve?) (slotGet_modifySlot_other s.sched.slots h f)

theorem recordOf_eq_some {r : ValveRecord} : recordOf s slot = some r ↔
    ∃ e, slotGet s.sched.slots slot = some e ∧ e.role = .valve r := by
  rw [recordOf, Option.bind_eq_some_iff]
  refine exists_congr fun e => and_congr_right fun _ => ?_
  cases hr : e.role <;> simp [PollEntry.valve?, hr]

theorem Finishes.recordOf {t : State} (h : Finishes s t) (slot : Nat) : recordOf t slot = recordOf s slot := by
  have forget (u : State) : Machine.recordOf u slot =
      ((slotGet u.sched.slots slot).map forgetStart).bind PollEntry.valve? := by
    unfold Machine.recordOf
    cases slotGet u.sched.slots slot <;> rfl
  rw [forget, forget, slotGet_map_congr h.slots]

/-- The end of a command moves no due time (R162). -/
theorem Finishes.dues {t : State} (h : Finishes s t) :
    t.sched.slots.map (Option.map (·.due)) = s.sched.slots.map (Option.map (·.due)) := by
  have hm := congrArg (List.map (Option.map (·.due))) h.slots
  have hforget : (fun e : PollEntry => e.due) ∘ forgetStart = (·.due) := rfl
  rwa [List.map_map, List.map_map, Option.map_comp_map, hforget] at hm

/-- A slot's valve with its fault flag set is a VALVE_FAULT in the pending set (R166, R176). -/
theorem pendingSet_valveFault {rep : Reported} (h : valveShown s slot = some (rep, true)) :
    (pendingSet s).getLsbD 14 = true := by
  obtain ⟨r, hr, heq⟩ := Option.map_eq_some_iff.mp h
  obtain ⟨e, he, hrole⟩ := recordOf_eq_some.mp hr
  have hfault : r.fault = true := congrArg Prod.snd heq
  have hcond : valveFaultCond s = true :=
    List.any_eq_true.mpr ⟨some e, List.mem_of_getElem? (slotGet_eq_some.mp he), by simp [entryFault, hrole, hfault]⟩
  have hbit : (condBit (valveFaultCond s) .valveFault).getLsbD 14 = true := by rw [hcond]; rfl
  simp only [pendingSet, conditionSet, BitVec.getLsbD_or, hbit, Bool.or_true]

end

/-! ### What the supervisor writes to the records (R159) -/

/-- Since `s`, every valve record has stayed as it was or been desired anew, now. -/
def DesiredAnew (s u : State) : Prop :=
  u.tenths = s.tenths ∧ ∀ slot r, recordOf u slot = some r → r.since = s.tenths ∨ recordOf s slot = some r

theorem changeDesired_since (pos : ValvePos) (now : Nat) (r : ValveRecord) : (changeDesired pos now r).since = now := by
  unfold changeDesired stopTravelIfThere
  split <;> rfl

theorem DesiredAnew.writeDesired {s u : State} (h : DesiredAnew s u) (addr : Nat) (pos : ValvePos) :
    DesiredAnew s (writeDesired addr pos u) := by
  obtain ⟨htenths, hrecord⟩ := h
  refine ⟨(congrArg (· / ticksPerTenth) (writeDesired_steers addr pos u).now).trans htenths, fun slot r hr => ?_⟩
  unfold Machine.writeDesired at hr
  split at hr
  · exact hrecord slot r hr
  · next i _ =>
    split at hr
    · exact hrecord slot r hr
    · next old hold =>
      split at hr
      · exact hrecord slot r hr
      · change recordOf (redecide i (modEntry i (PollEntry.modValve (changeDesired pos u.tenths)) u)) slot = some r at hr
        rw [recordOf_redecide] at hr
        by_cases hi : i = slot
        · subst hi
          obtain ⟨e, he, hv⟩ := Option.bind_eq_some_iff.mp hold
          rw [recordOf_modEntry_self _ he, valve_modValve hv] at hr
          cases hr
          exact .inl ((changeDesired_since ..).trans htenths)
        · rw [recordOf_modEntry_other hi] at hr
          exact hrecord slot r hr

theorem desiredAnew_outlives (s : State) : OutlivesSteering (DesiredAnew s) :=
  ⟨fun _ _ h => h, fun _ _ h => h, fun _ addr pos h => h.writeDesired addr pos⟩

/-! ### A record changed and handed to the supervisor (R162, R163, R166) -/

/-- What a change `f` of the valve record `r` of a slot makes of the state. -/
structure RecordChanged (slot : Nat) (f : ValveRecord → ValveRecord) (r : ValveRecord) (s t : State) : Prop where
  frame : t = { s with sup := t.sup, sched := t.sched, level := t.level }
  sched : t.sched = { s.sched with slots := t.sched.slots, wake := t.sched.wake }
  level : t.level = { s.level with burnerStart := t.level.burnerStart }
  kept : t.sched.slots.map (Option.map nodeKept) = s.sched.slots.map (Option.map nodeKept)
  shown : valveShown t slot = some ((f r).reported, (f r).fault)
  others : ∀ other, other ≠ slot → valveShown t other = valveShown s other
  unseen : (f r).reported = r.reported → (f r).fault = r.fault → t = modEntry slot (PollEntry.modValve f) s
  record : ∀ r', recordOf t slot = some r' → r'.since = s.tenths ∨ r' = f r

section
variable {slot : Nat} {f : ValveRecord → ValveRecord} {r : ValveRecord} {s t : State}

theorem RecordChanged.plant (h : RecordChanged slot f r s t) : PlantFrame s t := by
  have hframe := h.frame
  have hlevel := h.level
  generalize t.sup = sup at hframe
  generalize t.sched = sched at hframe
  generalize t.level = level at hframe hlevel
  subst hframe
  exact ⟨.refl s, rfl, rfl, rfl, hlevel, rfl, rfl, .refl s, .refl s⟩

theorem modRecord_eq (hr : recordOf s slot = some r) : modRecord slot f s =
    if (f r).reported = r.reported then modEntry slot (PollEntry.modValve f) s
    else redecide slot (modEntry slot (PollEntry.modValve f) s) := by
  simp only [modRecord, hr]

theorem changeRecord_eq (hr : recordOf s slot = some r) : changeRecord slot f s =
    if (f r).reported = r.reported ∧ (f r).fault = r.fault then modRecord slot f s else recompute (modRecord slot f s) := by
  simp only [changeRecord, hr, ← Bool.decide_and, decide_eq_true_eq]

theorem redecide_sched (slot : Nat) (s : State) : (redecide slot s).sched =
    { s.sched with slots := (redecide slot s).sched.slots, wake := (redecide slot s).sched.wake } :=
  (redecide_steers slot s).sched

theorem modRecord_sched (hr : recordOf s slot = some r) : (modRecord slot f s).sched =
    { s.sched with slots := (modRecord slot f s).sched.slots, wake := (modRecord slot f s).sched.wake } := by
  rw [modRecord_eq hr]
  split
  · rfl
  · rw [redecide_sched]; rfl

theorem changeRecord_spec (hr : recordOf s slot = some r) : RecordChanged slot f r s (changeRecord slot f s) := by
  have hplant := modRecord_keepsPlant slot f s
  have hsched := modRecord_sched (f := f) hr
  have hself : recordOf (modRecord slot f s) slot = some (f r) := by rw [recordOf_modRecord, if_pos rfl, hr]; rfl
  have hother (other : Nat) (ho : other ≠ slot) : recordOf (modRecord slot f s) other = recordOf s other := by
    rw [recordOf_modRecord, if_neg ho.symm]
  have hunseen (hrep : (f r).reported = r.reported) : modRecord slot f s = modEntry slot (PollEntry.modValve f) s := by
    rw [modRecord_eq hr, if_pos hrep]
  have htenths : (modRecord slot f s).tenths = s.tenths := by rw [hplant.frame]; rfl
  rw [changeRecord_eq hr]
  generalize modRecord slot f s = u at hplant hsched hself hother hunseen htenths
  split
  · refine ⟨by rw [hplant.frame]; rfl, hsched, by rw [hplant.frame]; rfl, hplant.kept, ?_, fun other ho => ?_,
      fun hrep _ => hunseen hrep, fun r' hr' => .inr (Option.some.inj (hr'.symm.trans hself))⟩
    · rw [valveShown, hself]; rfl
    · rw [valveShown, hother other ho]; rfl
  · next hseen =>
    have hsteers := recompute_steers u
    have hanew : DesiredAnew u (recompute u) := (desiredAnew_outlives u).recompute ⟨rfl, fun _ _ h => .inr h⟩
    have hulevel : u.level = s.level := by rw [hplant.frame]; rfl
    refine ⟨by rw [hsteers.frame, hplant.frame]; rfl, hsteers.sched.trans (by rw [hsched]),
      hsteers.level.trans (by rw [hulevel]), hsteers.nodes.kept.trans hplant.kept, ?_, fun other ho => ?_,
      fun hrep hfault => absurd ⟨hrep, hfault⟩ hseen, fun r' hr' => ?_⟩
    · rw [hsteers.nodes.valveShown, valveShown, hself]; rfl
    · rw [hsteers.nodes.valveShown, valveShown, hother other ho]; rfl
    · rcases hanew.2 slot r' hr' with hsince | hsame
      · exact .inl (hsince.trans htenths)
      · exact .inr (Option.some.inj (hsame.symm.trans hself))

end

end Sys2Proof.Machine
end

section
/-! SUPPORT. What a travel time that runs out and a VALVE_REPORT that answers on P make of a valve's record, its entry and the other
blocks (R162 to R164, R166). -/

namespace Sys2Proof.Machine

/-! ### The travel timer (R166) -/

/-- The travel time has run out: the fault flag is set, and the timer stops. -/
def travelOver (r : ValveRecord) : ValveRecord := { r with fault := true, travel := false }

theorem exec_travelExpiry {slot : Nat} {r : ValveRecord} {s : State} (hr : recordOf s slot = some r) (ht : r.travel = true)
    (hlate : r.since + 900 ≤ s.tenths) :
    exec (.valveTravelExpiry slot) s = .next (finish (changeRecord slot travelOver s)) := by
  have hcause : ((recordOf s slot).any fun r => r.travel && decide (r.since + valveTravelTenths ≤ s.tenths)) = true := by
    simp [hr, ht, valveTravelTenths, hlate]
  exact act_finish hcause

/-- With the flag set already only the timer stops (R166). -/
theorem travelOver_faulty {slot : Nat} {r : ValveRecord} {s t : State} (hr : recordOf s slot = some r) (hf : r.fault = true)
    (h : RecordChanged slot travelOver r s t) : recordOf t slot = some { r with travel := false } ∧ t.sup = s.sup ∧
      t.level = s.level ∧ t.sched.slots.map (Option.map (·.due)) = s.sched.slots.map (Option.map (·.due)) := by
  obtain ⟨e, he, hv⟩ := Option.bind_eq_some_iff.mp hr
  have hdue (e : PollEntry) : (e.modValve travelOver).due = e.due := by unfold PollEntry.modValve; split <;> rfl
  rw [h.unseen rfl hf.symm, recordOf_modEntry_self _ he, valve_modValve hv]
  refine ⟨by rw [travelOver, ← hf], rfl, rfl, map_modifySlot (g := (·.due)) hdue s.sched.slots slot⟩

/-! ### A VALVE_REPORT (R163, R166) -/

theorem readReport_eq_some {p : List Byte} {rep : Reported} :
    readReport p = some rep ↔ rep ≠ .unknown ∧ p = [rep.code] := by
  constructor
  · intro h
    unfold readReport at h
    split at h
    · split_ifs at h with h0 h1 h2 h3
      · cases h; subst h0; exact ⟨nofun, rfl⟩
      · cases h; subst h1; exact ⟨nofun, rfl⟩
      · cases h; subst h2; exact ⟨nofun, rfl⟩
      · cases h; subst h3; exact ⟨nofun, rfl⟩
    · cases h
  · rintro ⟨hrep, rfl⟩
    cases rep with
    | unknown => exact absurd rfl hrep
    | closed => rfl
    | opened => rfl
    | moving => rfl
    | fault => rfl

theorem readReport_eq_none {p : List Byte} (h : ∀ rep : Reported, rep ≠ .unknown → p ≠ [rep.code]) : readReport p = none := by
  rw [Option.eq_none_iff_forall_ne_some]
  intro rep hrep
  obtain ⟨hne, hp⟩ := readReport_eq_some.mp hrep
  exact h rep hne hp

/-- What a VALVE_REPORT makes of the record: the command answered, and the position read, if one was, taken. -/
def reportEffect (k : ExKind) (o : Option Reported) (r : ValveRecord) : ValveRecord :=
  o.elim (clearPending k r) fun rep => takeReport rep (clearPending k r)

/-- A report that cannot be read is counted BAD_REPORT. -/
def reportCounted (o : Option Reported) (c : SchedCounters) : SchedCounters :=
  if o = none then { c with badReport := bump c.badReport } else c

theorem reportCounted_keeps (o : Option Reported) (c : SchedCounters) :
    (reportCounted o c).answered = c.answered ∧ (reportCounted o c).stray = c.stray := by
  unfold reportCounted
  split <;> exact ⟨rfl, rfl⟩

theorem routeAnswer_report {tel : Telegram} (hk : tel.kind = 0x23) (x : Exchange) (slot : Nat) (s : State) :
    routeAnswer x slot tel s = returnBuffer (countSched (reportCounted (readReport tel.payload))
      (changeRecord slot (reportEffect x.kind (readReport tel.payload)) s)) := by
  have hsample : tel.kind ≠ kindSample := by rw [hk]; decide
  rw [routeAnswer, if_neg hsample]
  cases readReport tel.payload <;> rfl

theorem clearPending_keeps (k : ExKind) (r : ValveRecord) : (clearPending k r).reported = r.reported ∧
    (clearPending k r).fault = r.fault ∧ (clearPending k r).desired = r.desired ∧ (clearPending k r).since = r.since := by
  unfold clearPending
  split
  · split <;> exact ⟨rfl, rfl, rfl, rfl⟩
  · exact ⟨rfl, rfl, rfl, rfl⟩

theorem clearPending_answered {i : Nat} {pos : ValvePos} {r : ValveRecord} (h : r.desired = pos) :
    (clearPending (.valve i pos) r).pending = false := by simp [clearPending, h]

/-- The fault flag after a report: FAULT sets it, the desired position clears it (R166). -/
def faultAfter (rep : Reported) (r : ValveRecord) : Bool :=
  if rep = .fault then true else if matchesDesired rep r.desired then false else r.fault

theorem faultAfter_congr {rep : Reported} {r r' : ValveRecord} (hd : r'.desired = r.desired) (hf : r'.fault = r.fault) :
    faultAfter rep r' = faultAfter rep r := by
  rw [faultAfter, faultAfter, hd, hf]

theorem takeReport_spec (rep : Reported) (r : ValveRecord) : (takeReport rep r).reported = rep ∧
    (takeReport rep r).fault = faultAfter rep r ∧ (takeReport rep r).desired = r.desired ∧
    (takeReport rep r).since = r.since ∧ (takeReport rep r).pending = r.pending := by
  unfold takeReport faultAfter
  dsimp only
  split
  · exact ⟨rfl, rfl, rfl, rfl, rfl⟩
  · split <;> exact ⟨rfl, rfl, rfl, rfl, rfl⟩

theorem reportEffect_spec (k : ExKind) (o : Option Reported) (r : ValveRecord) :
    (reportEffect k o r).reported = o.getD r.reported ∧
    (reportEffect k o r).fault = o.elim r.fault (faultAfter · r) ∧ (reportEffect k o r).desired = r.desired ∧
    (reportEffect k o r).since = r.since ∧ (reportEffect k o r).pending = (clearPending k r).pending := by
  obtain ⟨creported, cfault, cdesired, csince⟩ := clearPending_keeps k r
  cases o with
  | none => exact ⟨creported, cfault, cdesired, csince, rfl⟩
  | some rep =>
    obtain ⟨hrep, hfault, hdesired, hsince, hpending⟩ := takeReport_spec rep (clearPending k r)
    rw [faultAfter_congr cdesired cfault] at hfault
    exact ⟨hrep, hfault, hdesired.trans cdesired, hsince.trans csince, hpending⟩

theorem faultAfter_spec (rep : Reported) (r : ValveRecord) : (rep = .fault → faultAfter rep r = true) ∧
    (rep = .opened ∧ r.desired = .opened ∨ rep = .closed ∧ r.desired = .closed → faultAfter rep r = false) ∧
    (rep = .moving ∨ rep = .opened ∧ r.desired = .closed ∨ rep = .closed ∧ r.desired = .opened →
      faultAfter rep r = r.fault) := by
  refine ⟨fun h => if_pos h, fun h => ?_, fun h => ?_⟩
  · have hmatch : matchesDesired rep r.desired = true := (matchesDesired_iff rep r.desired).mpr (by tauto)
    have hne : rep ≠ .fault := by rintro rfl; simp at h
    rw [faultAfter, if_neg hne, if_pos hmatch]
  · have hmatch : matchesDesired rep r.desired ≠ true := by
      rcases h with rfl | ⟨rfl, hd⟩ | ⟨rfl, hd⟩ <;> simp [matchesDesired, *]
    have hne : rep ≠ .fault := by rintro rfl; simp at h
    rw [faultAfter, if_neg hne, if_neg hmatch]

/-! ### The entry that answered (R163, R164) -/

/-- The record of a valve that has answered: back from ABSENT its command is pending (R164). -/
def answeredRecord (back : Bool) (r : ValveRecord) : ValveRecord := if back then { r with pending := true } else r

theorem answeredRecord_keeps (back : Bool) (r : ValveRecord) : (answeredRecord back r).reported = r.reported ∧
    (answeredRecord back r).fault = r.fault ∧ (answeredRecord back r).desired = r.desired ∧
    (answeredRecord back r).since = r.since := by
  unfold answeredRecord
  split <;> exact ⟨rfl, rfl, rfl, rfl⟩

theorem markAnswered_valve {e : PollEntry} {r : ValveRecord} (hrole : e.role = .valve r) (now : Nat) :
    (markAnswered now e).valve? = some (answeredRecord (!e.present) r) := by
  unfold markAnswered answeredRecord
  dsimp only
  split <;> simp [PollEntry.modValve, PollEntry.valve?, hrole]

theorem markAnswered_kept (now : Nat) (e : PollEntry) :
    nodeKept (markAnswered now e) = (e.addr, e.interval, true, 0, now) := by
  unfold markAnswered PollEntry.modValve
  dsimp only
  split
  · split <;> rfl
  · rfl

/-- The state before its notices settle, when the record takes the report: the exchange over and counted, the entry marked
(R163, steps 1 and 2). -/
def answerMarked (slot : Nat) (s : State) : State :=
  modEntry slot (markAnswered s.sec) (countSched (fun c => { c with answered := bump c.answered }) (endExchange s))

theorem answerTaken_reports (slot : Nat) (s : State) : Reports (answerMarked slot s) (answerTaken slot s) :=
  settleNotices_reports _

/-- What the entry of a slot, its record and the counters show once a VALVE_REPORT has been taken from it, and what the other
entries and blocks keep. -/
structure ReportTaken (slot : Nat) (o : Option Reported) (k : ExKind) (e : PollEntry) (r : ValveRecord) (s u : State) :
    Prop where
  frame : PlantFrame s u
  exch : u.sched.exch = none
  counts : u.sched.ctr = reportCounted o { s.sched.ctr with answered := bump s.sched.ctr.answered }
  kept : (slotGet u.sched.slots slot).map nodeKept = some (e.addr, e.interval, true, 0, s.sec)
  shown : valveShown u slot = some (o.getD r.reported, o.elim r.fault (faultAfter · r))
  others : ∀ other, other ≠ slot → valveShown u other = valveShown s other
  unseen : o.getD r.reported = r.reported → o.elim r.fault (faultAfter · r) = r.fault → u.sup = s.sup ∧
    recordOf u slot = some (reportEffect k o (answeredRecord (!e.present) r))
  record : ∀ r', recordOf u slot = some r' →
    r'.since = s.tenths ∨ r' = reportEffect k o (answeredRecord (!e.present) r)

theorem reportTaken_spec {slot : Nat} {e : PollEntry} {r : ValveRecord} {s : State} (k : ExKind) (o : Option Reported)
    (he : slotGet s.sched.slots slot = some e) (hrole : e.role = .valve r) :
    ReportTaken slot o k e r s
      (countSched (reportCounted o) (changeRecord slot (reportEffect k o) (answerTaken slot s))) := by
  have hrep := answerTaken_reports slot s
  have hget : slotGet (answerTaken slot s).sched.slots slot = some (markAnswered s.sec e) := by
    have hm := slotGet_modifySlot s.sched.slots slot (markAnswered s.sec)
    rw [he] at hm
    rw [hrep.sched]
    exact hm
  have hother (other : Nat) (ho : other ≠ slot) : valveShown (answerTaken slot s) other = valveShown s other :=
    (hrep.finishes.keepsNodes.valveShown other).trans (valveShown_modEntry_other ho ..)
  have hrecord : recordOf (answerTaken slot s) slot = some (answeredRecord (!e.present) r) := by
    rw [recordOf, hget]
    exact markAnswered_valve hrole _
  obtain ⟨kreported, kfault, kdesired, -⟩ := answeredRecord_keeps (!e.present) r
  obtain ⟨ereported, efault, -⟩ := reportEffect_spec k o (answeredRecord (!e.present) r)
  have hfaultAfter : (faultAfter · (answeredRecord (!e.present) r)) = (faultAfter · r) :=
    funext fun rep => faultAfter_congr kdesired kfault
  rw [kreported] at ereported
  rw [kfault, hfaultAfter] at efault
  have hchange := changeRecord_spec (f := reportEffect k o) hrecord
  have htenths : (answerTaken slot s).tenths = s.tenths := congrArg (· / ticksPerTenth) hrep.now
  have hsched : (answerTaken slot s).sched = (answerMarked slot s).sched := hrep.sched
  generalize answerTaken slot s = v at *
  generalize changeRecord slot (reportEffect k o) v = u at hchange
  refine ⟨((setSched_plant s _).trans hrep.finishes.plant).trans (hchange.plant.trans (setSched_plant u _)), ?_, ?_, ?_, ?_,
    fun other ho => ?_, fun hsame hfault => ?_, fun r' hr' => ?_⟩
  · exact (congrArg Scheduler.exch (hchange.sched.trans (by rw [hsched])) :)
  · exact congrArg (reportCounted o) ((congrArg Scheduler.ctr hchange.sched :).trans (by rw [hsched]; rfl))
  · have hkept := slotGet_map_congr hchange.kept slot
    rw [hget, Option.map_some, markAnswered_kept] at hkept
    exact hkept
  · have hshown := hchange.shown
    rw [ereported, efault] at hshown
    exact hshown
  · exact (hchange.others other ho).trans (hother other ho)
  · have hu := hchange.unseen (ereported.trans (hsame.trans kreported.symm)) (efault.trans (hfault.trans kfault.symm))
    have hval : (markAnswered s.sec e).valve? = some (answeredRecord (!e.present) r) := markAnswered_valve hrole _
    rw [hu]
    exact ⟨hrep.sup, (recordOf_modEntry_self _ hget).trans (valve_modValve hval _)⟩
  · rw [← htenths]
    exact hchange.record r' hr'

/-- What the end of the command leaves of the state in which a report has been taken, beside what `AnswerEnded` says. -/
theorem answerEnded_keeps (slot : Nat) {u t : State} (ht : finish (redecide slot (returnBuffer u)) = t) :
    PlantFrame u t ∧ t.sup = u.sup ∧ ∀ i, recordOf t i = recordOf u i := by
  subst ht
  have hoffers := returnBuffer_offers u
  have hsteers := redecide_steers slot (returnBuffer u)
  have hfin := finish_finishes (redecide slot (returnBuffer u))
  have hsup : (redecide slot (returnBuffer u)).sup = (returnBuffer u).sup := by rw [redecide_frame]; rfl
  refine ⟨(hoffers.finishes.plant.trans hsteers.plant).trans hfin.plant, (hfin.sup.trans hsup).trans hoffers.sup,
    fun i => ?_⟩
  rw [hfin.recordOf, recordOf_redecide, hoffers.finishes.recordOf]

/-- A VALVE_REPORT that answers on P, from its last character to the end of its command. -/
theorem exec_report {start w slot : Nat} {tel : Telegram} {exch : Exchange} {e : PollEntry} {r : ValveRecord} {s : State}
    (hasm : s.portP.asm = some { hasBuffer := true, start := start }) (hsilent : s.portP.phase ≠ .sending)
    (hsent : WellSent tel) (hdest : tel.dest = 0) (hkind : tel.kind = 0x23) (hexch : s.sched.exch = some exch)
    (hslot : exch.kind.slot? = some slot) (hw : exch.window = some w) (hsrc : tel.src = exch.node)
    (he : slotGet s.sched.slots slot = some e) (hrole : e.role = .valve r) :
    ∃ u t, ReportTaken slot (readReport tel.payload) exch.kind e r (heardOnP s) u ∧ AnswerEnded u t ∧
      (PlantFrame u t ∧ t.sup = u.sup ∧ ∀ i, recordOf t i = recordOf u i) ∧
      exec (.rxTelegramEnd .p (received tel)) s = .next t := by
  have hexpect : tel.kind = expectedKind (heardOnP s) slot := by
    rw [expectedKind_eq (s := heardOnP s) he, hrole, hkind]; rfl
  have htake : takeFromP tel (heardOnP s) = takeAnswer exch slot tel (heardOnP s) := by
    rw [takeFromP_addressed (s := heardOnP s) hexch hslot hw hsrc, if_pos ⟨hdest, hexpect⟩]
  have hroute : takeAnswer exch slot tel (heardOnP s) =
      redecide slot (routeAnswer exch slot tel (answerTaken slot (heardOnP s))) := rfl
  refine ⟨_, _, reportTaken_spec exch.kind (readReport tel.payload) he hrole, answerEnded_spec slot _,
    answerEnded_keeps slot rfl, ?_⟩
  rw [exec_received_p hasm hsilent hsent, htake, hroute, routeAnswer_report hkind]

end Sys2Proof.Machine
end

section
/-! A valve's travel time that runs out, and a VALVE_REPORT that answers on P (R159, R162 to R164, R166). -/

namespace Sys2Proof.Machine

/-- Settles O47: an expiry and a report are changes of one record; what the supervisor does with them keeps what the other
records show, and dates every position it desires. -/
theorem travelExpiryFlagsTheValve : Obligations.TravelExpiryFlagsTheValve := by
  refine ⟨fun slot r s hr ht hlate => ?_,
    fun start w slot tel exch e r s hasm hsilent hsent hdest hkind hexch hslot hw hsrc he hrole => ?_⟩
  · have hchange := changeRecord_spec (f := travelOver) hr
    rw [exec_travelExpiry hr ht hlate]
    generalize changeRecord slot travelOver s = u at hchange
    have hfin := finish_finishes u
    have hframe := hchange.plant.trans hfin.plant
    have hshown : valveShown (finish u) slot = some (r.reported, true) :=
      (hfin.keepsNodes.valveShown slot).trans hchange.shown
    obtain ⟨-, _, _, hmgmt⟩ := hframe.stores
    refine ⟨_, rfl, hshown, pendingSet_valveFault hshown, by rw [hmgmt], fun other ho => ?_, fun hf => ?_, hframe.level,
      hframe.clock, hframe.relay, hframe.zone, hframe.recov, hframe.vol, hframe.acct, hframe.stores, hframe.ports⟩
    · exact (hfin.keepsNodes.valveShown other).trans (hchange.others other ho)
    · obtain ⟨hrecord, hsup, hlevel, hdue⟩ := travelOver_faulty hr hf hchange
      exact ⟨(hfin.recordOf slot).trans hrecord, hfin.sup.trans hsup, hfin.level.trans hlevel, hfin.dues.trans hdue⟩
  · obtain ⟨u, t, hu, ht, ⟨hut, hsup, hrecord⟩, hexec⟩ :=
      exec_report hasm hsilent hsent hdest hkind hexch hslot hw hsrc he hrole
    have hframe := hu.frame.trans hut
    obtain ⟨r', hr', hseen⟩ := Option.map_eq_some_iff.mp hu.shown
    obtain ⟨hreported, hfault⟩ := Prod.mk.inj hseen
    obtain ⟨e', he', hrole'⟩ := recordOf_eq_some.mp ((hrecord slot).trans hr')
    have hkept := (slotGet_map_congr ht.nodes.kept slot).trans hu.kept
    rw [he', Option.map_some, Option.some.injEq] at hkept
    have hcounts := ht.counts.trans (congrArg withoutRequests hu.counts)
    obtain ⟨-, -, kdesired, -⟩ := answeredRecord_keeps (!e.present) r
    obtain ⟨-, -, edesired, -, epending⟩ := reportEffect_spec exch.kind (readReport tel.payload)
      (answeredRecord (!e.present) r)
    have hcleared (pos : ValvePos) (hk : exch.kind = .valve slot pos) (hd : r.desired = pos)
        (heq : r' = reportEffect exch.kind (readReport tel.payload) (answeredRecord (!e.present) r)) :
        r'.pending = false := by
      rw [heq, epending, hk]
      exact clearPending_answered (kdesired.trans hd)
    obtain ⟨its, _, _, hportP⟩ := hframe.ports.port .p
    have hportP' : t.portP = _ := hportP
    have htenths : u.tenths = s.tenths := hu.frame.clock.tenths
    obtain ⟨hanswered, hstray⟩ := reportCounted_keeps (readReport tel.payload)
      { s.sched.ctr with answered := bump s.sched.ctr.answered }
    refine ⟨t, e', r', hexec, fun x hx => htenths ▸ ht.idle hu.exch x hx, ?_, ?_, he', hrole', congrArg (·.1) hkept,
      congrArg (·.2.1) hkept, congrArg (·.2.2.1) hkept, congrArg (·.2.2.2.1) hkept, congrArg (·.2.2.2.2) hkept,
      fun rep hne hp => ?_, fun hbad => ?_, fun hsame hflag => ?_, fun pos hk hd hlt hsince => ?_, fun other ho => ?_,
      hframe.level, by rw [hportP']; rfl, by rw [hportP']; rfl, hframe.clock, hframe.relay, hframe.zone, hframe.recov,
      hframe.vol, hframe.acct, hframe.stores⟩
    · exact (congrArg SchedCounters.answered hcounts :).trans hanswered
    · exact (congrArg SchedCounters.stray hcounts :).trans hstray
    · have hread := readReport_eq_some.mpr ⟨hne, hp⟩
      rw [hread] at hreported hfault hcounts
      obtain ⟨hset, hclears, hkeeps⟩ := faultAfter_spec rep r
      exact ⟨hreported, (congrArg SchedCounters.badReport hcounts :), fun h => hfault.trans (hset h),
        fun h => hfault.trans (hclears h), fun h => hfault.trans (hkeeps h)⟩
    · have hread := readReport_eq_none hbad
      rw [hread] at hreported hfault hcounts
      exact ⟨(congrArg SchedCounters.badReport hcounts :), hreported, hfault⟩
    · obtain ⟨husup, hurecord⟩ := hu.unseen (hreported.symm.trans hsame) (hfault.symm.trans hflag)
      have heq := Option.some.inj (hr'.symm.trans hurecord)
      exact ⟨hsup.trans husup, by rw [heq, edesired, kdesired], fun pos hk hd => hcleared pos hk hd heq⟩
    · rcases hu.record r' hr' with hnow | heq
      · have : r.since = s.tenths := hsince.symm.trans hnow
        omega
      · exact hcleared pos hk hd heq
    · exact (ht.nodes.valveShown other).trans (hu.others other ho)

end Sys2Proof.Machine
end

section
/-! SUPPORT. What the records that every step keeps rest on, taken out of the state (`Ledger`), and what keeps them (`Keeps`); the
recovery unit's moves within an episode (`Stays`) (R44, R54, R61, R65, R108, R117). -/

namespace Sys2Proof.Machine

/-! ### The ledger -/

/-- What the records rest on: the recovery unit, non-volatile memory with the STORE in progress, the delivery records and the
residue. -/
structure Ledger where
  recov : Recovery
  nv : NonVolatile
  job : StoreJob
  deliveries : List DeliveryRecord
  residue : Nat

/-- The ledger with the recovery unit replaced. -/
def Ledger.withRecov (l : Ledger) (r : Recovery) : Ledger := { l with recov := r }

/-- The ledger of a state. -/
def ledger (s : State) : Ledger :=
  { recov := s.recov, nv := s.nv, job := s.mgmt.job, deliveries := s.acct.deliveries, residue := s.acct.residue }

section
variable {s t : State}

theorem ledger_congr (hr : t.recov = s.recov) (ha : t.acct = s.acct) (hs : KeepsStores s t) : ledger t = ledger s := by
  obtain ⟨hnv, line, timer, hm⟩ := hs
  simp only [ledger, hr, ha, hnv, hm]

theorem DispatchFrame.ledger (h : DispatchFrame s t) : ledger t = ledger s := ledger_congr h.recov h.acct h.stores

theorem Finishes.ledger (h : Finishes s t) : Machine.ledger t = Machine.ledger s := h.dispatch.ledger

theorem Reports.ledger (h : Reports s t) : Machine.ledger t = Machine.ledger s := h.finishes.ledger

theorem Offers.ledger (h : Offers s t) : Machine.ledger t = Machine.ledger s := h.finishes.ledger

theorem Steers.ledger (h : Steers s t) : Machine.ledger t = Machine.ledger s := h.dispatch.ledger

theorem Writes.ledger (h : Writes s t) : Machine.ledger t = Machine.ledger s :=
  ledger_congr h.table.recov h.table.acct h.table.stores

theorem Hears.ledger (h : Hears s t) : Machine.ledger t = Machine.ledger s := ledger_congr h.recov h.acct h.stores

theorem memoryIdle_congr (hn : t.nv.writing = s.nv.writing) (hj : t.mgmt.job = s.mgmt.job) :
    memoryIdle t = memoryIdle s := by
  simp only [memoryIdle, storeWriting, hn, hj]

theorem deliveryOpen_congr (h : t.acct.deliveries = s.acct.deliveries) : deliveryOpen t = deliveryOpen s := by
  rw [deliveryOpen, deliveryOpen, h]

end

/-! ### What keeps the records -/

/-- The recovery unit's records stay sound: AUTOMATIC entries within BUDGET, the episode record empty exactly in CLOSED, and the
hard-lock flag set exactly in HARD_LOCK (R44, R54, R61). -/
structure RecoveryUpheld (r r' : Recovery) : Prop where
  budget : autoCount r.safe.history ≤ r.set.budget → autoCount r'.safe.history ≤ r'.set.budget
  episode : (r.state = .closed ↔ r.episode = none) → (r'.state = .closed ↔ r'.episode = none)
  lock : (r.safe.flag = true ↔ r.state = .hardLock) → (r'.safe.flag = true ↔ r'.state = .hardLock)

/-- Each of the records that is sound at `s` is sound at `t`. -/
structure Upholds (s t : State) : Prop where
  recov : RecoveryUpheld s.recov t.recov
  memory : MemorySound s → MemorySound t
  deliveries : DeliveriesSound s → DeliveriesSound t
  residue : ResidueSound s → ResidueSound t

/-- The records are upheld, and a set hard-lock flag stays set. -/
structure Keeps (s t : State) : Prop where
  upholds : Upholds s t
  flag : s.recov.safe.flag = true → t.recov.safe.flag = true

theorem RecoveryUpheld.refl (r : Recovery) : RecoveryUpheld r r := ⟨id, id, id⟩

theorem RecoveryUpheld.trans {a b c : Recovery} (h : RecoveryUpheld a b) (k : RecoveryUpheld b c) : RecoveryUpheld a c :=
  ⟨k.budget ∘ h.budget, k.episode ∘ h.episode, k.lock ∘ h.lock⟩

theorem Upholds.trans {a b c : State} (h : Upholds a b) (k : Upholds b c) : Upholds a c :=
  ⟨h.recov.trans k.recov, k.memory ∘ h.memory, k.deliveries ∘ h.deliveries, k.residue ∘ h.residue⟩

theorem Keeps.trans {a b c : State} (h : Keeps a b) (k : Keeps b c) : Keeps a c :=
  ⟨h.upholds.trans k.upholds, k.flag ∘ h.flag⟩

theorem memorySound_congr {s t : State} (hn : t.nv = s.nv) (hj : t.mgmt.job = s.mgmt.job) (h : MemorySound s) :
    MemorySound t := by
  rw [MemorySound, memoryIdle_congr (by rw [hn]) hj, hn, hj]
  exact h

/-- A move of the recovery unit that leaves the memory and the oil accounts as they are. -/
theorem upholds_of_recov {s t : State} (hr : RecoveryUpheld s.recov t.recov)
    (h : ledger t = (ledger s).withRecov t.recov) : Upholds s t := by
  refine ⟨hr, memorySound_congr (congrArg Ledger.nv h) (congrArg Ledger.job h), fun hd => ?_, fun hx => ?_⟩
  · have hds : t.acct.deliveries = s.acct.deliveries := congrArg Ledger.deliveries h
    rw [DeliveriesSound, hds]
    exact hd
  · have hxs : t.acct.residue = s.acct.residue := congrArg Ledger.residue h
    rw [ResidueSound, hxs]
    exact hx

theorem keeps_of_ledger {s t : State} (h : ledger t = ledger s) : Keeps s t := by
  have hr : t.recov = s.recov := congrArg Ledger.recov h
  refine ⟨upholds_of_recov (hr ▸ .refl _) (by rw [hr]; exact h), fun hf => ?_⟩
  rw [hr]; exact hf

theorem Keeps.refl (s : State) : Keeps s s := keeps_of_ledger rfl

theorem Keeps.behind {s s' t : State} (k : Keeps s' t) (h : ledger s' = ledger s) : Keeps s t := (keeps_of_ledger h).trans k

theorem Keeps.ahead {s t t' : State} (k : Keeps s t) (h : ledger t' = ledger t) : Keeps s t' := k.trans (keeps_of_ledger h)

/-! ### Moves of the recovery unit -/

/-- The recovery unit stays in its state: the hard-lock flag and BUDGET are as they were, an episode is on record as before, and
no AUTOMATIC entry is new. -/
structure Stays (r r' : Recovery) : Prop where
  state : r'.state = r.state
  flag : r'.safe.flag = r.safe.flag
  budget : r'.set.budget = r.set.budget
  opened : r'.episode.isSome = r.episode.isSome
  autos : autoCount r'.safe.history ≤ autoCount r.safe.history

/-- The states of an open episode outside HARD_LOCK (R44). -/
def Underway (st : RecState) : Prop := st ≠ .closed ∧ st ≠ .hardLock

theorem Stays.refl (r : Recovery) : Stays r r := ⟨rfl, rfl, rfl, rfl, Nat.le_refl _⟩

theorem Stays.trans {a b c : Recovery} (h : Stays a b) (k : Stays b c) : Stays a c :=
  ⟨k.state.trans h.state, k.flag.trans h.flag, k.budget.trans h.budget, k.opened.trans h.opened, k.autos.trans h.autos⟩

theorem episode_none_iff {r r' : Recovery} (h : r'.episode.isSome = r.episode.isSome) :
    r'.episode = none ↔ r.episode = none := by
  rw [← Option.not_isSome_iff_eq_none, h, Option.not_isSome_iff_eq_none]

theorem Stays.upheld {r r' : Recovery} (h : Stays r r') : RecoveryUpheld r r' := by
  refine ⟨fun hb => ?_, fun he => ?_, fun hl => ?_⟩
  · rw [h.budget]; exact h.autos.trans hb
  · rw [h.state, episode_none_iff h.opened]; exact he
  · rw [h.flag, h.state]; exact hl

/-- The recovery unit goes from one state of an episode to another. -/
theorem upheld_of_underway {r r' : Recovery} {st : RecState} (h : Stays { r with state := st } r') (hr : Underway r.state)
    (hst : Underway st) : RecoveryUpheld r r' := by
  refine RecoveryUpheld.trans (b := { r with state := st }) ⟨id, fun he => ?_, fun hl => ?_⟩ h.upheld
  · exact iff_of_false hst.1 fun hn => hr.1 (he.mpr hn)
  · exact iff_of_false (fun hf => hr.2 (hl.mp hf)) hst.2

theorem keeps_of_stays {s t : State} (h : Stays s.recov t.recov) (hl : ledger t = (ledger s).withRecov t.recov) :
    Keeps s t :=
  ⟨upholds_of_recov h.upheld hl, fun hf => h.flag.trans hf⟩

theorem keeps_of_underway {s t : State} {st : RecState} (h : Stays { s.recov with state := st } t.recov)
    (hr : Underway s.recov.state) (hst : Underway st) (hl : ledger t = (ledger s).withRecov t.recov) : Keeps s t :=
  ⟨upholds_of_recov (upheld_of_underway h hr hst) hl, fun hf => h.flag.trans hf⟩

/-! ### The history (R53, R54, R57, R62) -/

/-- A change of entries that makes none AUTOMATIC. -/
theorem autoCount_map_le {f : HistEntry → HistEntry} (h : ∀ e, (f e).kind = .automatic → e.kind = .automatic)
    (es : List HistEntry) : autoCount (es.map f) ≤ autoCount es := by
  unfold autoCount
  rw [← List.countP_eq_length_filter, ← List.countP_eq_length_filter, List.countP_map]
  exact List.countP_mono_left fun e _ he => by simpa using h e (by simpa using he)

theorem autoCount_modify {f : HistEntry → HistEntry} (h : ∀ e, (f e).kind = e.kind) (i : Nat) (es : List HistEntry) :
    autoCount (es.modify i f) = autoCount es := by
  induction es generalizing i with
  | nil => cases i <;> rfl
  | cons e es ih =>
    unfold autoCount at ih ⊢
    cases i with
    | zero =>
      simp only [List.modify_zero_cons, List.filter_cons, h]
      split <;> rfl
    | succ i => simp [List.filter_cons, apply_ite List.length, ih]

theorem autoCount_evictEntry (es : List HistEntry) : autoCount (evictEntry es) ≤ autoCount es := by
  induction es with
  | nil => exact Nat.le_refl _
  | cons e es ih =>
    unfold evictEntry
    unfold autoCount at ih ⊢
    split
    · next h => simpa [h] using ih
    · next h => simp [h]

theorem autoCount_appendEntry (es : List HistEntry) (e : HistEntry) :
    autoCount (appendEntry es e) ≤ autoCount es + if e.kind = .automatic then 1 else 0 := by
  have happend (xs : List HistEntry) : autoCount (xs ++ [e]) = autoCount xs + if e.kind = .automatic then 1 else 0 := by
    unfold autoCount
    rw [List.filter_append, List.length_append]
    split <;> simp [*]
  have hevict := autoCount_evictEntry es
  unfold appendEntry
  rw [happend]
  split <;> omega

theorem autoCount_forgive (number : Nat) (es : List HistEntry) : autoCount (forgive number es) ≤ autoCount es :=
  autoCount_map_le (fun e => by split <;> simp) es

/-! ### Operations within an episode -/

section
variable (s : State)

theorem modEpisode_stays (f : Episode → Episode) : Stays s.recov (modEpisode f s).recov :=
  ⟨rfl, rfl, rfl, Option.isSome_map .., Nat.le_refl _⟩

theorem applyLapses_stays : Stays s.recov (applyLapses s).recov :=
  ⟨rfl, rfl, rfl, rfl, autoCount_map_le (fun e => by unfold lapseEntry; split <;> simp) _⟩

theorem setOutcome_stays (pos : Nat) (o : AttemptOutcome) : Stays s.recov (setOutcome pos o s).recov :=
  ⟨rfl, rfl, rfl, rfl, Nat.le_of_eq (autoCount_modify (f := fun e => { e with outcome := o }) (fun _ => rfl) ..)⟩

theorem endAttempt_stays (a : Attempt) (o : AttemptOutcome) : Stays s.recov (endAttempt a o s).recov := by
  have h := (setOutcome_stays s a.pos o).trans (modEpisode_stays (setOutcome a.pos o s) fun e => { e with attempt := none })
  unfold endAttempt
  dsimp only
  split
  · exact h.trans (modEpisode_stays _ _)
  · exact h

theorem startSafetyWrite_stays : Stays s.recov (startSafetyWrite s).recov := modEpisode_stays _ _

theorem requestSafetyWrite_stays : Stays s.recov (requestSafetyWrite s).recov := by
  unfold requestSafetyWrite
  split
  · exact startSafetyWrite_stays s
  · exact .refl _

theorem startNextWrite_stays : Stays s.recov (startNextWrite s).recov := by
  rcases startNextWrite_cases s with ⟨-, he⟩ | ⟨-, -, he⟩ | ⟨-, -, he⟩
  · rw [he]; exact .refl _
  · rw [he]; exact startSafetyWrite_stays s
  · rw [he, startStoreWrite_mgmt]; exact .refl _

theorem ledger_endAttempt (a : Attempt) (o : AttemptOutcome) :
    ledger (endAttempt a o s) = (ledger s).withRecov (endAttempt a o s).recov := by
  unfold endAttempt
  dsimp only
  split <;> rfl

theorem ledger_leaveLocked : ledger (leaveLocked s) = ledger s := by
  obtain ⟨_, _, h⟩ := leaveLocked_steers s
  exact h.ledger

end

end Sys2Proof.Machine
end


section
/-! SUPPORT. What the recovery unit and the writes of non-volatile memory make of the records, and the clearing of the hard lock
(`Clears`) (R44 to R65, R175). -/

namespace Sys2Proof.Machine

/-! ### Safety writes (R65, R175) -/

/-- A part of a command that leaves the recovery unit in its state, the oil accounts as they are, and the memory sound. -/
theorem keeps_of_memory {s t : State} (hr : Stays s.recov t.recov) (hm : MemorySound s → MemorySound t)
    (ha : t.acct = s.acct) : Keeps s t := by
  refine ⟨⟨hr.upheld, hm, fun hd => ?_, fun hx => ?_⟩, fun hf => hr.flag.trans hf⟩
  · rw [DeliveriesSound, ha]; exact hd
  · rw [ResidueSound, ha]; exact hx

/-- A safety write in progress keeps the memory from being idle. -/
theorem memorySound_of_writing {s : State} {r : SafetyRecord} (h : s.nv.writing = some r) : MemorySound s := fun hi => by
  simp [memoryIdle, h] at hi

/-- A STORE that writes keeps the memory from being idle. -/
theorem memorySound_of_storing {s : State} (h : storeWriting s = true) : MemorySound s := fun hi => by
  simp [memoryIdle, h] at hi

/-- The write that waits starts on an idle memory, so that none waits there (R65, R175). -/
theorem startNextWrite_memorySound (s : State) : MemorySound (startNextWrite s) := by
  rcases startNextWrite_cases s with ⟨hi, he⟩ | ⟨-, -, he⟩ | ⟨-, hw, he⟩
  · rw [he]
    exact fun h => absurd (hi.symm.trans h) nofun
  · rw [he]
    exact memorySound_of_writing (r := s.recov.safe) rfl
  · rw [he]
    unfold startStoreWrite
    split
    · exact memorySound_of_storing rfl
    · next hj => exact fun _ => ⟨hw, fun room src idx => hj room src idx⟩

section
variable (s : State)

theorem requestSafetyWrite_memorySound (h : MemorySound s) : MemorySound (requestSafetyWrite s) := by
  unfold requestSafetyWrite
  split
  · exact memorySound_of_writing (r := s.recov.safe) rfl
  · next hn =>
    intro hi
    have hidle : memoryIdle s = true := hi
    simp [hidle, (h hidle).1] at hn

theorem acct_requestSafetyWrite : (requestSafetyWrite s).acct = s.acct := by
  unfold requestSafetyWrite; split <;> rfl

theorem requestSafetyWrite_keeps : Keeps s (requestSafetyWrite s) :=
  keeps_of_memory (requestSafetyWrite_stays s) (requestSafetyWrite_memorySound s)
    (acct_requestSafetyWrite s)

theorem startSafetyWrite_keeps : Keeps s (startSafetyWrite s) :=
  keeps_of_memory (startSafetyWrite_stays s) (fun _ => memorySound_of_writing (r := s.recov.safe) rfl) rfl

theorem acct_startNextWrite : (startNextWrite s).acct = s.acct := by
  unfold startNextWrite startStoreWrite
  split_ifs
  · rfl
  · split <;> rfl
  · rfl

/-- The next write starts once a write has ended or a STORE has joined: what came before may have left one waiting on an idle
memory (R65, R175; log 10). -/
theorem Keeps.startNextWrite {s s' u : State} (k : Keeps s' u) (hr : s'.recov = s.recov) (ha : s'.acct = s.acct) :
    Keeps s (Machine.startNextWrite u) := by
  obtain ⟨⟨hrecov, -, hdeliveries, hresidue⟩, hflag⟩ := k
  rw [DeliveriesSound, ha] at hdeliveries
  rw [ResidueSound, ha] at hresidue
  rw [hr] at hrecov hflag
  have hstays := startNextWrite_stays u
  refine ⟨⟨hrecov.trans hstays.upheld, fun _ => startNextWrite_memorySound u, fun hd => ?_, fun hx => ?_⟩,
    fun hf => hstays.flag.trans (hflag hf)⟩
  · rw [DeliveriesSound, acct_startNextWrite]; exact hdeliveries hd
  · rw [ResidueSound, acct_startNextWrite]; exact hresidue hx

/-! ### Moves within an episode (R48 to R64) -/

variable {s}

theorem enterWaitRetry_keeps (h : Underway s.recov.state) : Keeps s (enterWaitRetry s) :=
  keeps_of_underway (st := .waitRetry) (modEpisode_stays (s.setRecov { s.recov with state := .waitRetry }) _) h
    ⟨nofun, nofun⟩ rfl

theorem enterFuelWait_keeps (h : Underway s.recov.state) : Keeps s (enterFuelWait s) :=
  keeps_of_underway (st := .fuelWait) (modEpisode_stays (s.setRecov { s.recov with state := .fuelWait }) _) h
    ⟨nofun, nofun⟩ rfl

theorem enterPulsing_keeps (h : Underway s.recov.state) : Keeps s (enterPulsing s) :=
  keeps_of_underway (st := .pulsing) ⟨rfl, rfl, rfl, rfl, Nat.le_refl _⟩ h ⟨nofun, nofun⟩ rfl

theorem modEpisode_keeps (f : Episode → Episode) : Keeps s (modEpisode f s) := keeps_of_stays (modEpisode_stays s f) rfl

theorem enterProving_keeps (h : Underway s.recov.state) : Keeps s (enterProving s) := by
  unfold enterProving
  extract_lets _ s1
  have h1 : Keeps s s1 := keeps_of_underway (st := .proving) ⟨rfl, rfl, rfl, rfl, Nat.le_refl _⟩ h ⟨nofun, nofun⟩ rfl
  exact (h1.trans (modEpisode_keeps _)).ahead (ledger_leaveLocked _)

theorem applyLapses_keeps : Keeps s (applyLapses s) := keeps_of_stays (applyLapses_stays s) rfl

theorem endAttempt_keeps (a : Attempt) (o : AttemptOutcome) : Keeps s (endAttempt a o s) :=
  keeps_of_stays (endAttempt_stays s a o) (ledger_endAttempt s a o)

theorem Stays.underway {r r' : Recovery} (h : Stays r r') (hr : Underway r.state) : Underway r'.state := by
  rwa [h.state]

/-- The hard lock: the flag is set with the state (R61). -/
theorem enterHardLock_keeps (h : Underway s.recov.state) : Keeps s (enterHardLock s) := by
  unfold enterHardLock
  extract_lets number cause _ _ s1
  have h1 : Keeps s s1 :=
    ⟨upholds_of_recov ⟨id, fun he => iff_of_false nofun fun hn => h.1 (he.mpr hn), fun _ => iff_of_true rfl rfl⟩ rfl,
      fun _ => rfl⟩
  exact ((h1.trans (modEpisode_keeps _)).trans (requestSafetyWrite_keeps _)).ahead (settleNotices_reports _).ledger

/-- An attempt within BUDGET, or one that is not AUTOMATIC, keeps the AUTOMATIC entries within BUDGET (R53, R54). -/
theorem startAttempt_keeps {automatic : Bool} (h : automatic = true → autoCount s.recov.safe.history < s.recov.set.budget) :
    Keeps s (startAttempt automatic s) := by
  unfold startAttempt
  extract_lets entry hist
  have hcount : autoCount hist ≤ autoCount s.recov.safe.history + if automatic then 1 else 0 := by
    have := autoCount_appendEntry s.recov.safe.history entry
    cases automatic <;> exact this
  have h1 : Keeps s (setHistory hist s) := by
    refine ⟨upholds_of_recov ⟨fun hb => ?_, id, id⟩ rfl, id⟩
    refine Nat.le_trans hcount ?_
    cases automatic with
    | false => exact hb
    | true => exact h rfl
  exact h1.trans (modEpisode_keeps _)

theorem decideAttempt_keeps (h : Underway s.recov.state) : Keeps s (decideAttempt s) := by
  unfold decideAttempt
  split
  · exact enterFuelWait_keeps h
  · extract_lets s1
    have h1 : Keeps s s1 := applyLapses_keeps
    split
    · exact h1.trans (enterHardLock_keeps h)
    · next hb => exact (h1.trans (startAttempt_keeps fun _ => Nat.lt_of_not_le hb)).trans (requestSafetyWrite_keeps _)

theorem underway_waitRetry {r : Recovery} (h : r.state = .waitRetry) : Underway r.state := by rw [h]; exact ⟨nofun, nofun⟩

theorem checkDue_keeps : Keeps s (checkDue s) := by
  unfold checkDue
  split
  · next hd =>
    simp only [attemptDue, Bool.and_eq_true, decide_eq_true_eq] at hd
    exact decideAttempt_keeps (underway_waitRetry hd.1.1)
  · exact .refl s

theorem attemptCleared_keeps (h : Underway s.recov.state) : Keeps s (attemptCleared s) := by
  unfold attemptCleared
  split
  · exact enterProving_keeps h
  · exact (endAttempt_keeps _ _).trans (enterProving_keeps ((endAttempt_stays s _ _).underway h))

theorem attemptNotCleared_keeps (h : Underway s.recov.state) : Keeps s (attemptNotCleared s) := by
  unfold attemptNotCleared
  extract_lets _ s1 ret
  have h1 : Keeps s s1 := keeps_of_stays ⟨rfl, rfl, rfl, rfl, Nat.le_refl _⟩ rfl
  clear_value ret
  split
  · exact h1.trans (enterWaitRetry_keeps h)
  · next a _ =>
    have h2 : Keeps s (endAttempt a .notCleared s1) := h1.trans (endAttempt_keeps _ _)
    have hu : Underway (endAttempt a .notCleared s1).recov.state := (endAttempt_stays s1 a _).underway h
    dsimp only
    generalize endAttempt a .notCleared s1 = s2 at h2 hu
    split
    · exact h2.trans (enterWaitRetry_keeps hu)
    · split
      · split
        · exact h2.trans (enterFuelWait_keeps hu)
        · exact h2.trans (enterWaitRetry_keeps hu)
      · have h3 : Keeps s2 (s2.setRecov { s2.recov with state := .waitRetry }) :=
          keeps_of_underway (st := .waitRetry) (.refl _) hu ⟨nofun, nofun⟩ rfl
        exact ((h2.trans h3).trans (modEpisode_keeps _)).trans checkDue_keeps

theorem enterConfirming_keeps (h : Underway s.recov.state) : Keeps s (enterConfirming s) := by
  unfold enterConfirming
  extract_lets _ s1
  have h1 : Keeps s s1 := keeps_of_underway (st := .confirming) ⟨rfl, rfl, rfl, rfl, Nat.le_refl _⟩ h ⟨nofun, nofun⟩ rfl
  split
  · exact h1
  · exact h1.trans (attemptCleared_keeps ⟨nofun, nofun⟩)

theorem servicePulse_keeps (ret : ReturnState) (h : Underway s.recov.state) : Keeps s (servicePulse ret s) :=
  ((startAttempt_keeps (automatic := false) nofun).trans (modEpisode_keeps _)).trans (enterPulsing_keeps h)

theorem recRunEdge_keeps (rise : Bool) : Keeps s (recRunEdge rise s) := by
  unfold recRunEdge
  split
  · exact modEpisode_keeps _
  · exact .refl s

theorem recLockoutReleased_keeps : Keeps s (recLockoutReleased s) := by
  unfold recLockoutReleased
  split
  · next h => exact attemptCleared_keeps (by rw [h]; exact ⟨nofun, nofun⟩)
  · next h => exact attemptCleared_keeps (by rw [h]; exact ⟨nofun, nofun⟩)
  · next h => exact attemptCleared_keeps (by rw [h]; exact ⟨nofun, nofun⟩)
  · exact .refl s

theorem recTankChanged_keeps (old : TankState) : Keeps s (recTankChanged old s) := by
  unfold recTankChanged
  split
  · next h =>
    simp only [Bool.and_eq_true, decide_eq_true_eq] at h
    exact enterWaitRetry_keeps (by rw [h.2]; exact ⟨nofun, nofun⟩)
  · exact .refl s

theorem closeEpisode_keeps (h : s.recov.state = .proving) : Keeps s (closeEpisode s) := by
  refine ⟨upholds_of_recov ⟨id, fun _ => iff_of_true rfl rfl, fun hl => iff_of_false (fun hf => ?_) nofun⟩ rfl, id⟩
  cases h.symm.trans (hl.mp hf)

/-! ### Lockouts (R46 to R50) -/

/-- LOCKOUT is raised with the record appended to the log (R46). -/
theorem ledger_appendLockout (cause : Cause) (sup : SupState) (seen : Bool) (u : State) :
    ∃ log, ledger (appendLockout cause sup seen u) = (ledger u).withRecov { u.recov with log := log } :=
  ⟨_, (settleNotices_reports _).ledger⟩

theorem ledger_setRecov {u : State} (h : ledger u = (ledger s).withRecov u.recov) (r : Recovery) :
    ledger (u.setRecov r) = (ledger s).withRecov r :=
  congrArg (fun l : Ledger => l.withRecov r) h

/-- A lockout opens or resumes an episode, which is on record then (R48, R49). -/
theorem afterLockout_keeps {u : State} {cause : Cause} (hl : ledger u = (ledger s).withRecov u.recov)
    (hset : u.recov.set = s.recov.set) (hsafe : u.recov.safe = s.recov.safe)
    (hopen : EpisodeSound s → u.recov.episode ≠ none) (hs : s.recov.state ≠ .hardLock) : Keeps s (afterLockout cause u) := by
  have hstate : Underway (afterLockout cause u).recov.state := by
    unfold afterLockout
    split <;> exact ⟨nofun, nofun⟩
  have hepisode : (afterLockout cause u).recov.episode.isSome = u.recov.episode.isSome := by
    rw [afterLockout_eq]
    exact Option.isSome_map ..
  have hafter : (afterLockout cause u).recov.safe = s.recov.safe ∧ (afterLockout cause u).recov.set = s.recov.set := by
    rw [afterLockout_eq]
    exact ⟨hsafe, hset⟩
  obtain ⟨hsafe', hset'⟩ := hafter
  refine ⟨upholds_of_recov ⟨fun hb => ?_, fun he => ?_, fun hk => ?_⟩ ?_, fun hf => ?_⟩
  · rw [hsafe', hset']; exact hb
  · exact iff_of_false hstate.1 fun hn => hopen he ((episode_none_iff hepisode).mp hn)
  · rw [hsafe']
    exact iff_of_false (fun hf => hs (hk.mp hf)) hstate.2
  · rw [afterLockout_eq]
    exact ledger_setRecov hl _
  · rw [hsafe']; exact hf

theorem recLockoutTaken_keeps (sup : SupState) (call seen : Bool) : Keeps s (recLockoutTaken sup call seen s) := by
  generalize hcause : lockoutCause call seen s = cause
  by_cases hc : s.recov.state = .closed
  · rw [recLockoutTaken_closed sup call seen hc, hcause]
    obtain ⟨log, hu⟩ := ledger_appendLockout cause sup seen (s.setRecov { s.recov with
      counter := lockoutNumber s.recov, episode := lockoutEpisode cause s.recov })
    generalize appendLockout cause sup seen _ = u at hu
    have hr : u.recov = _ := congrArg Ledger.recov hu
    refine afterLockout_keeps (by rw [hr]; exact hu) (by rw [hr]; rfl) (by rw [hr]; rfl) (fun _ => ?_) (by rw [hc]; nofun)
    rw [hr]
    simp [Ledger.withRecov, lockoutEpisode, hc]
  obtain ⟨log, hu⟩ := ledger_appendLockout cause sup seen s
  by_cases hp : s.recov.state = .proving
  · rw [recLockoutTaken_proving sup call seen hp, hcause]
    generalize appendLockout cause sup seen s = u at hu
    have hr : u.recov = { s.recov with log := log } := congrArg Ledger.recov hu
    refine afterLockout_keeps ?_ (by rw [modEpisode, hr]; rfl) (by rw [modEpisode, hr]; rfl) (fun he hn => hc (he.mpr ?_))
      (by rw [hp]; nofun)
    · exact ledger_setRecov (by rw [hr]; exact hu) _
    · simpa [modEpisode, hr] using hn
  · rw [recLockoutTaken_joins sup call seen (by simp [lockoutOpens, hc, hp]), hcause]
    generalize appendLockout cause sup seen s = u at hu
    have hr : u.recov = { s.recov with log := log } := congrArg Ledger.recov hu
    have hkeep : Keeps s u := keeps_of_stays (by rw [hr]; exact ⟨rfl, rfl, rfl, rfl, Nat.le_refl _⟩) (by rw [hr]; exact hu)
    exact (hkeep.trans (modEpisode_keeps _)).trans checkDue_keeps

theorem ledger_enterLocked (u : State) : ledger (enterLocked u) = ledger u := by
  obtain ⟨c, b, hc, he⟩ := enterLocked_eq u
  rw [he, hc.frame]
  rfl

theorem lockoutTaken_keeps : Keeps s (lockoutTaken s) := by
  unfold lockoutTaken
  extract_lets _ s1
  have h1 : Keeps s (recLockoutTaken s1.sup.state (callAsserted s1) s1.sup.rr.seen s1) :=
    (recLockoutTaken_keeps _ _ _).behind rfl
  exact h1.ahead (ledger_enterLocked _)

/-! ### The end of a write (R55, R175) -/

theorem recWriteDone_keeps : Keeps s (recWriteDone s) := by
  unfold recWriteDone
  split
  · exact .refl s
  · next a _ =>
    split
    · next hw =>
      simp only [Bool.and_eq_true, decide_eq_true_eq] at hw
      have hu := underway_waitRetry hw.1.1
      split
      · exact (endAttempt_keeps a _).trans (enterFuelWait_keeps ((endAttempt_stays s a _).underway hu))
      · split
        · exact (modEpisode_keeps _).trans (enterPulsing_keeps hu)
        · exact .refl s
    · exact .refl s

theorem completeSafetyWrite_keeps : Keeps s (completeSafetyWrite s) :=
  Keeps.startNextWrite (s' := s.setNv { s.nv with safety := s.nv.writing, writing := none }) recWriteDone_keeps rfl rfl

theorem startStoreWrite_keeps : Keeps s (startStoreWrite s) := by
  unfold startStoreWrite
  split
  · exact keeps_of_memory (.refl _) (fun _ => memorySound_of_storing rfl) rfl
  · exact .refl s

theorem acceptStore_keeps (room : Room) (src idx : Byte) : Keeps s (acceptStore room src idx s) :=
  (Keeps.refl (setJob (.waiting room src idx) s)).startNextWrite rfl rfl

theorem endStore_keeps (verified : Bool) : Keeps s (endStore verified s) := by
  unfold endStore
  split
  · next room src idx content _ =>
    extract_lets _ s1 s2 s3
    have h2 : s2.recov = s.recov ∧ s2.acct = s.acct := by
      cases verified <;> exact ⟨rfl, rfl⟩
    have hresp : Offers s2 s3 := respond_offers ..
    cases verified with
    | true => exact (Keeps.refl (setJob .none s3)).startNextWrite (hresp.recov.trans h2.1) (hresp.acct.trans h2.2)
    | false =>
      have hraise := settleNotices_reports (s3.setMgmt { s3.mgmt with events := s3.mgmt.events ||| Notice.storeFault.set })
      exact (Keeps.refl (setJob .none (raiseEvent .storeFault s3))).startNextWrite
        ((hraise.recov.trans hresp.recov).trans h2.1) ((hraise.acct.trans hresp.acct).trans h2.2)
  · exact .refl s

/-! ### The hard lock cleared (R62) -/

/-- The hard lock has been cleared: the records are upheld, and the clear record is being written or waits for it (R62, R65). -/
structure Clears (s t : State) : Prop where
  upholds : Upholds s t
  written : t.nv.waiting = true ∨ t.nv.writing = some t.recov.safe

theorem Clears.ahead {s t t' : State} (h : Clears s t) (hl : ledger t' = ledger t) : Clears s t' := by
  have hnv : t'.nv = t.nv := congrArg Ledger.nv hl
  have hr : t'.recov = t.recov := congrArg Ledger.recov hl
  exact ⟨h.upholds.trans (keeps_of_ledger hl).upholds, by rw [hnv, hr]; exact h.written⟩

theorem requestSafetyWrite_written (u : State) : (requestSafetyWrite u).nv.waiting = true ∨
    (requestSafetyWrite u).nv.writing = some u.recov.safe := by
  unfold requestSafetyWrite
  split
  · exact .inr rfl
  · exact .inl rfl

theorem requestSafetyWrite_safe (u : State) : (requestSafetyWrite u).recov.safe = u.recov.safe := by
  unfold requestSafetyWrite
  split <;> rfl

/-- The flag goes as HARD_LOCK is left for another state of the episode (R62). -/
theorem upheld_of_cleared {r r' : Recovery} {st : RecState} (hr : r.state = .hardLock) (hst : Underway st)
    (h : Stays { r with state := st, safe := { r.safe with flag := false } } r') : RecoveryUpheld r r' := by
  refine RecoveryUpheld.trans (b := { r with state := st, safe := { r.safe with flag := false } })
    ⟨id, fun he => iff_of_false hst.1 fun hn => ?_, fun _ => iff_of_false nofun hst.2⟩ h.upheld
  cases hr.symm.trans (he.mpr hn)

/-- Once the lock is lifted the episode waits again or enters PROVING, with the safety record and its write as they are (R62). -/
theorem lifted_goesOn (u : State) : ∃ st, Underway st ∧
    ∀ w, w = (if u.sup.lockout.value then enterWaitRetry (modEpisode (fun e => { e with k := 1 }) u) else enterProving u) →
      Stays { u.recov with state := st } w.recov ∧ w.recov.safe = u.recov.safe ∧
      ledger w = (ledger u).withRecov w.recov := by
  cases u.sup.lockout.value with
  | true =>
    refine ⟨.waitRetry, ⟨nofun, nofun⟩, ?_⟩
    rintro _ rfl
    exact ⟨⟨rfl, rfl, rfl, by simp [enterWaitRetry_eq, modEpisode], Nat.le_refl _⟩, rfl, rfl⟩
  | false =>
    refine ⟨.proving, ⟨nofun, nofun⟩, ?_⟩
    rintro w rfl
    have hl := ledger_leaveLocked (modEpisode (fun e => { e with
      ref := none, ret := none, proving := if u.sup.rr.active then some u.tenths else none })
      (u.setRecov { u.recov with state := .proving, confirmFrom := none }))
    have hr : (enterProving u).recov = _ := congrArg Ledger.recov hl
    rw [if_neg nofun, hr]
    exact ⟨⟨rfl, rfl, rfl, Option.isSome_map .., Nat.le_refl _⟩, rfl, hl⟩

theorem clearLock_clears (h : s.recov.state = .hardLock) : Clears s (clearLock s) := by
  unfold clearLock
  extract_lets number _ _ s1 s2
  have h2 : Stays s1.recov s2.recov := requestSafetyWrite_stays s1
  have hm2 : MemorySound s → MemorySound s2 := requestSafetyWrite_memorySound s1
  have ha2 : s2.acct = s.acct := acct_requestSafetyWrite s1
  have hsafe2 : s2.recov.safe = s1.recov.safe := requestSafetyWrite_safe s1
  have hwritten2 : s2.nv.waiting = true ∨ s2.nv.writing = some s1.recov.safe := requestSafetyWrite_written s1
  obtain ⟨st, hst, hw⟩ := lifted_goesOn s2
  obtain ⟨hstays, hsafe, hledger⟩ := hw _ rfl
  refine Clears.ahead ?_ (settleNotices_reports _).ledger
  generalize (if s2.sup.lockout.value then _ else _) = w at hstays hsafe hledger
  have hnv : w.nv = s2.nv := congrArg Ledger.nv hledger
  have hdeliveries : w.acct.deliveries = s2.acct.deliveries := congrArg Ledger.deliveries hledger
  have hresidue : w.acct.residue = s2.acct.residue := congrArg Ledger.residue hledger
  refine ⟨⟨upheld_of_cleared h hst ⟨hstays.state, hstays.flag.trans h2.flag, hstays.budget.trans h2.budget,
    hstays.opened.trans h2.opened, ?_⟩, fun hm => memorySound_congr hnv (congrArg Ledger.job hledger) (hm2 hm),
    fun hd => ?_, fun hx => ?_⟩, ?_⟩
  · exact (hstays.autos.trans h2.autos).trans (autoCount_forgive number s.recov.safe.history)
  · rw [DeliveriesSound, hdeliveries, ha2]; exact hd
  · rw [ResidueSound, hresidue, ha2]; exact hx
  · rw [hnv, hsafe, hsafe2]; exact hwritten2

end

end Sys2Proof.Machine
end


section
/-! SUPPORT. What the oil side makes of the records: a new tank state, burn credit, periods, deliveries and samples (R63, R76, R80,
R107, R108, R112, R117). -/

namespace Sys2Proof.Machine

/-! ### A new tank state (R107) -/

theorem zoneTankChanged_keeps (s : State) : Keeps s (zoneTankChanged s) :=
  (keeps_of_ledger (evaluateZones_dispatch _ _).ledger).behind rfl

theorem setTank_keeps (tank : TankState) (s : State) : Keeps s (setTank tank s) := by
  unfold setTank
  split
  · exact .refl s
  · extract_lets old _ s1
    have h1 : Keeps s (zoneTankChanged s1) := (zoneTankChanged_keeps s1).behind rfl
    exact (h1.ahead (supTankChanged_dispatch old _).ledger).trans (recTankChanged_keeps old)

theorem setTank_deliveries (tank : TankState) (s : State) : (setTank tank s).acct.deliveries = s.acct.deliveries := by
  rw [(setTank_handsOn tank s).acct]
  rfl

/-! ### Burn credit and periods (R108 to R115) -/

/-- The ledger with another residue. -/
def Ledger.withResidue (l : Ledger) (residue : Nat) : Ledger := { l with residue := residue }

/-- At most the residue of the ledger changes, and it stays below one decilitre's worth (R108). -/
structure Credits (s t : State) : Prop where
  ledger : ledger t = (ledger s).withResidue t.acct.residue
  residue : ResidueSound s → ResidueSound t

theorem credits_of_ledger {s t : State} (h : ledger t = ledger s) : Credits s t :=
  have hx : t.acct.residue = s.acct.residue := congrArg Ledger.residue h
  ⟨by rw [hx]; exact h, fun hs => by rw [ResidueSound, hx]; exact hs⟩

theorem Credits.trans {a b c : State} (h : Credits a b) (k : Credits b c) : Credits a c :=
  ⟨by rw [k.ledger, h.ledger]; rfl, k.residue ∘ h.residue⟩

section
variable {s t t' : State}

theorem Credits.recov (h : Credits s t) : t.recov = s.recov := congrArg Ledger.recov h.ledger

theorem Credits.nv (h : Credits s t) : t.nv = s.nv := congrArg Ledger.nv h.ledger

theorem Credits.deliveries (h : Credits s t) : t.acct.deliveries = s.acct.deliveries := congrArg Ledger.deliveries h.ledger

theorem Credits.upholds (h : Credits s t) : Upholds s t :=
  ⟨by rw [h.recov]; exact .refl _, memorySound_congr h.nv (congrArg Ledger.job h.ledger),
    fun hd => by rw [DeliveriesSound, h.deliveries]; exact hd, h.residue⟩

theorem Credits.keeps (h : Credits s t) : Keeps s t := ⟨h.upholds, fun hf => by rw [h.recov]; exact hf⟩

theorem Clears.credits (h : Clears s t) (k : Credits t t') : Clears s t' :=
  ⟨h.upholds.trans k.upholds, by rw [k.nv, k.recov]; exact h.written⟩

end

theorem creditBurn_credits (t : Nat) (s : State) : Credits s (creditBurn t s) :=
  ⟨rfl, fun _ => Nat.mod_lt _ (by decide)⟩

theorem takePartialBurn_credits (s : State) : Credits s (takePartialBurn s) := by
  obtain ⟨credit, residue, h⟩ := exists_partialCredit s
  rw [takePartialBurn_eq h]
  refine ⟨rfl, fun hx => ?_⟩
  obtain ⟨hidle, hburn⟩ := h
  cases ha : s.sup.rr.active with
  | false =>
    obtain ⟨-, rfl⟩ := hidle ha
    exact hx
  | true =>
    obtain ⟨x, -, -, rfl⟩ := hburn ha
    exact Nat.mod_lt x (by decide)

theorem ledger_logPeriod (r : PeriodRecord) (s : State) : ledger (logPeriod r s) = ledger s := (logPeriod_reports r s).ledger

theorem testPeriod_credits (time v15 : Nat) (s : State) : Credits s (testPeriod time v15 s) := by
  unfold testPeriod
  split
  · exact credits_of_ledger rfl
  · split
    · extract_lets s1 r s2
      have h2 : Credits s s2 := (takePartialBurn_credits s).trans (credits_of_ledger (ledger_logPeriod r s1))
      split
      · exact h2
      · exact h2.trans (credits_of_ledger rfl)
    · exact credits_of_ledger rfl

theorem skipPeriod_credits (reason : SkipReason) (s : State) : Credits s (skipPeriod reason s) := by
  unfold skipPeriod
  split
  · exact credits_of_ledger rfl
  · dsimp only
    split
    · exact takePartialBurn_credits s
    · exact (takePartialBurn_credits s).trans (credits_of_ledger (ledger_logPeriod _ _))

/-! ### Deliveries (R116 to R118) -/

/-- A change of the delivery log that keeps it sound, with all else as it is. -/
theorem keeps_of_deliveries {s t : State} (hl : ledger t = { ledger s with deliveries := t.acct.deliveries })
    (hd : DeliveriesSound s → DeliveriesSound t) : Keeps s t := by
  have hr : t.recov = s.recov := congrArg Ledger.recov hl
  have hx : t.acct.residue = s.acct.residue := congrArg Ledger.residue hl
  exact ⟨⟨by rw [hr]; exact .refl _, memorySound_congr (congrArg Ledger.nv hl) (congrArg Ledger.job hl), hd,
    fun h => by rw [ResidueSound, hx]; exact h⟩, fun hf => by rw [hr]; exact hf⟩

theorem dropLast_modify_last {α : Type} (f : α → α) (xs : List α) : (xs.modify (xs.length - 1) f).dropLast = xs.dropLast := by
  rcases List.eq_nil_or_concat xs with rfl | ⟨ys, y, rfl⟩
  · rfl
  · simp [List.modify_eq_take_drop]

theorem modDelivery_keeps (f : DeliveryRecord → DeliveryRecord) (s : State) : Keeps s (modDelivery f s) := by
  refine keeps_of_deliveries rfl fun hd => ?_
  obtain ⟨hlength, hclosed⟩ := hd
  refine ⟨by simpa [modDelivery] using hlength, fun d hmem => hclosed d ?_⟩
  rwa [modDelivery, State.setAcct_acct, dropLast_modify_last] at hmem

theorem endDelivery_keeps (reason : CloseReason) (s : State) : Keeps s (endDelivery reason s) := by
  unfold endDelivery
  split
  · exact modDelivery_keeps _ s
  · exact .refl s

theorem acctBreak_keeps (reason : SkipReason) (s : State) : Keeps s (acctBreak reason s) :=
  ((endDelivery_keeps .truncated s).trans (skipPeriod_credits reason _).keeps).ahead rfl

/-- With no record open every record of the log is closed (R117). -/
theorem closed_of_not_deliveryOpen {s : State} (hd : DeliveriesSound s) (ho : deliveryOpen s = false) :
    ∀ d ∈ s.acct.deliveries, d.reason.isSome = true := by
  intro d hmem
  obtain ⟨-, hclosed⟩ := hd
  rcases List.eq_nil_or_concat s.acct.deliveries with hnil | ⟨older, newest, hlog⟩
  · simp [hnil] at hmem
  · rw [List.concat_eq_append] at hlog
    rw [hlog, List.dropLast_concat] at hclosed
    rw [hlog, List.mem_append, List.mem_singleton] at hmem
    rcases hmem with hmem | rfl
    · exact hclosed d hmem
    · simpa [deliveryOpen, hlog, Option.isSome_iff_ne_none] using ho

/-- A record joins a log whose records are closed (R117). -/
theorem deliveriesSound_logged {s t : State} {d : DeliveryRecord} (ho : deliveryOpen s = false) (hd : DeliveriesSound s)
    (ht : t.acct.deliveries = logAppend 8 s.acct.deliveries d) : DeliveriesSound t := by
  have hclosed := closed_of_not_deliveryOpen hd ho
  obtain ⟨hlength, -⟩ := hd
  rw [DeliveriesSound, ht, logAppend, List.dropLast_concat, List.length_append]
  split
  · exact ⟨by simp; omega, fun r hr => hclosed r (List.mem_of_mem_drop hr)⟩
  · exact ⟨by simp; omega, hclosed⟩

theorem deliveryOpen_logged {t : State} {xs : List DeliveryRecord} {d : DeliveryRecord} (hd : d.reason = none)
    (ht : t.acct.deliveries = logAppend 8 xs d) : deliveryOpen t = true := by
  rw [deliveryOpen, ht, logAppend, List.getLast?_concat]
  simp [hd]

/-- The records are kept, or a delivery record has opened and granted the clearing of the hard lock (R63). -/
def KeepsOrGrants (s t : State) : Prop := Keeps s t ∨ Clears s t ∧ deliveryOpen s = false ∧ deliveryOpen t = true

section
variable {s s' t t' : State}

theorem Clears.behind (h : Clears s' t) (k : Keeps s s') : Clears s t := ⟨k.upholds.trans h.upholds, h.written⟩

theorem KeepsOrGrants.behind (h : KeepsOrGrants s' t) (k : Keeps s s') (hd : s'.acct.deliveries = s.acct.deliveries) :
    KeepsOrGrants s t := by
  rcases h with h | ⟨h, hs, ht⟩
  · exact .inl (k.trans h)
  · exact .inr ⟨h.behind k, by rw [← deliveryOpen_congr hd]; exact hs, ht⟩

theorem KeepsOrGrants.credits (h : KeepsOrGrants s t) (k : Credits t t') : KeepsOrGrants s t' := by
  rcases h with h | ⟨h, hs, ht⟩
  · exact .inl (h.trans k.keeps)
  · exact .inr ⟨h.credits k, hs, by rw [deliveryOpen_congr k.deliveries]; exact ht⟩

theorem KeepsOrGrants.ahead (h : KeepsOrGrants s t) (hl : ledger t' = ledger t) : KeepsOrGrants s t' :=
  h.credits (credits_of_ledger hl)

/-- A change that leaves the ledger as it is goes before. -/
theorem KeepsOrGrants.after (h : KeepsOrGrants s' t) (hl : ledger s' = ledger s) : KeepsOrGrants s t :=
  h.behind (keeps_of_ledger hl) (congrArg Ledger.deliveries hl)

end

theorem recDelivery_keepsOrClears (s : State) : Keeps s (recDelivery s) ∨ Clears s (recDelivery s) := by
  by_cases h : s.recov.state = .hardLock ∧ LowAtLockout s
  · rw [recDelivery_eq_clearLock h.1 h.2]
    exact .inr (clearLock_clears h.1)
  · rw [recDelivery_eq_self (not_and_or.mp h)]
    exact .inl (.refl s)

theorem openDelivery_keepsOrGrants (h3 : Stage) (time : Nat) {s : State} (ho : deliveryOpen s = false) :
    KeepsOrGrants s (openDelivery h3 time s) := by
  obtain ⟨u, hu, he⟩ := openDelivery_spec h3 time s
  have hlog : u.acct.deliveries = (deliveryLogged h3 time s).deliveries := by rw [hu.acct]
  have hlogged : Keeps s u := by
    refine keeps_of_deliveries ?_ fun hd => deliveriesSound_logged ho hd hlog
    rw [hu.ledger, hlog]
    rfl
  have hopen : deliveryOpen (openDelivery h3 time s) = true := by
    rw [he]
    exact deliveryOpen_logged rfl (by rw [(recDelivery_leaves u).acct, hlog]; rfl)
  rw [he] at hopen ⊢
  rcases recDelivery_keepsOrClears u with hk | hc
  · exact .inl (hlogged.trans hk)
  · exact .inr ⟨hc.behind hlogged, ho, hopen⟩

theorem testDelivery_keepsOrGrants (chain : List Stage) (time : Nat) (s : State) :
    KeepsOrGrants s (testDelivery chain time s) := by
  unfold testDelivery
  split
  · split
    · exact .inl (modDelivery_keeps _ s)
    · next ho =>
      split
      · dsimp only
        split_ifs
        · exact openDelivery_keepsOrGrants _ time (by simpa using ho)
        · exact .inl (.refl s)
      · exact .inl (.refl s)
  · exact .inl (.refl s)

/-! ### Publications and samples (R69 to R76, R80, R98, R103) -/

section
variable (s : State)

theorem acctPublication_keepsOrGrants (r : VolRecord) (chain : List Stage) :
    KeepsOrGrants s (acctPublication r chain s) := by
  unfold acctPublication
  extract_lets _ s1 s2 s3
  have h2 : Keeps s s2 := (setTank_keeps _ s1).behind rfl
  have hd : s2.acct.deliveries = s.acct.deliveries := setTank_deliveries _ s1
  exact ((testDelivery_keepsOrGrants chain r.time s2).behind h2 hd).credits (testPeriod_credits _ _ s3)

theorem publish_keepsOrGrants (b : Box) : KeepsOrGrants s (publish b s) := by
  unfold publish
  split
  · exact .inl (keeps_of_ledger rfl)
  · extract_lets s1
    have h1 : ledger (settleNotices s1) = ledger s := (settleNotices_reports s1).ledger
    exact (acctPublication_keepsOrGrants _ _ _).after h1

theorem outputStage_keepsOrGrants (b : Box) : KeepsOrGrants s (outputStage b s) := by
  unfold outputStage
  split
  · exact publish_keepsOrGrants s b
  · dsimp only
    split
    · exact .inl (keeps_of_ledger rfl)
    · exact (publish_keepsOrGrants _ _).after rfl

theorem acceptSample_keepsOrGrants (depth : Nat) (temp : Option Int) : KeepsOrGrants s (acceptSample depth temp s) := by
  unfold acceptSample
  dsimp only
  split
  · exact (outputStage_keepsOrGrants _ _).after rfl
  · exact .inl (keeps_of_ledger rfl)

theorem checkSpike_keepsOrGrants (depth : Nat) (temp : Option Int) : KeepsOrGrants s (checkSpike depth temp s) := by
  unfold checkSpike
  split
  · split
    · exact .inl (keeps_of_ledger rfl)
    · exact (acceptSample_keepsOrGrants _ depth temp).after rfl
  · exact acceptSample_keepsOrGrants s depth temp

theorem takeFault_keeps : Keeps s (takeFault s) := by
  unfold takeFault
  extract_lets s1
  split
  · have h1 : ledger (settleNotices (modLevel (fun l => restartFilter { l with status := .fault }) s1)) = ledger s :=
      (settleNotices_reports _).ledger
    exact (setTank_keeps .unknown _).behind h1
  · exact keeps_of_ledger rfl

theorem takeSample_keepsOrGrants (payload : List Byte) : KeepsOrGrants s (takeSample payload s) := by
  unfold takeSample
  split
  · exact .inl (keeps_of_ledger rfl)
  · dsimp only
    split
    · exact .inl ((takeFault_keeps _).behind rfl)
    · exact (checkSpike_keepsOrGrants _ _ _).after rfl
    · exact (checkSpike_keepsOrGrants _ _ _).after rfl

/-! ### Swaps, scaling changes and FORGET-LEVEL (R72, R85, R91) -/

theorem scalingChange_keeps (set : LevelSet) : Keeps s (scalingChange set s) := (acctBreak_keeps .scaling _).behind rfl

theorem swapBanks_keeps : Keeps s (swapBanks s) := by
  unfold swapBanks
  extract_lets _ s1 s2 _ s3
  have h2 : Keeps s s2 := (acctBreak_keeps .swap s1).behind rfl
  have h3 : Keeps s s3 := h2.ahead rfl
  split
  · exact h3
  · extract_lets r s4
    have h4 : Keeps s s4 := h3.ahead rfl
    split
    · exact h4
    · exact h4.trans (setTank_keeps _ s4)

theorem forgetLevel_keeps : Keeps s (forgetLevel s) := by
  unfold forgetLevel volForget
  extract_lets s1
  have h1 : ledger (settleNotices s1) = ledger s := (settleNotices_reports s1).ledger
  have h2 : Keeps s (acctBreak .forget ((restartStale (settleNotices s1)).setVol
      { (restartStale (settleNotices s1)).vol with record := none, chain := [] })) := (acctBreak_keeps .forget _).behind h1
  exact h2.trans (setTank_keeps .unknown _)

end

end Sys2Proof.Machine
end

section
/-! SUPPORT. What management requests make of the records: writes, actions, and the one request that clears the hard lock (R62, R170,
R172, R173). -/

namespace Sys2Proof.Machine

/-! ### Writes (R172) -/

/-- A write keeps the records, if its owner takes it. -/
def WriteKeeps (s : State) (r : WriteResult) : Prop := ∀ x, r = some x → Keeps s x.2

theorem writeKeeps_some {b : Bool} {s t : State} (h : Keeps s t) : WriteKeeps s (some (b, t)) := by
  rintro _ ⟨⟩; exact h

theorem writeKeeps_none {s : State} : WriteKeeps s none := by rintro _ ⟨⟩

theorem writeNum_keeps {w lo hi : Nat} {data : List Byte} {k : Nat → State} {s : State} (h : ∀ v, Keeps s (k v)) :
    WriteKeeps s (writeNum w lo hi data k) := by
  unfold writeNum
  split
  · exact writeKeeps_some (h _)
  · exact writeKeeps_none

/-- A number that the ledger does not hold. -/
theorem writeNum_ledger {w lo hi : Nat} {data : List Byte} {k : Nat → State} {s : State}
    (h : ∀ v, ledger (k v) = ledger s) : WriteKeeps s (writeNum w lo hi data k) :=
  writeNum_keeps fun v => keeps_of_ledger (h v)

section
variable (s : State) (idx : Nat) (data : List Byte)

theorem writeEnrol_keeps : WriteKeeps s (writeEnrol idx data s) := by
  have applied (new : Option Enrolment) : Keeps s (applyEnrol idx new s) :=
    keeps_of_ledger (applyEnrol_writes idx new s).ledger
  unfold writeEnrol
  split
  · exact writeKeeps_some (applied _)
  · dsimp only
    split
    · exact writeKeeps_none
    · split
      · exact writeKeeps_none
      · exact writeKeeps_some (applied _)
  · exact writeKeeps_none

theorem ledger_applyZone (z : Nat) (new : ZoneEntry) : ledger (applyZone z new s) = ledger s := by
  cases hz : s.zone.table[z]? with
  | none => simp [applyZone, hz]
  | some old => exact (applyZone_writes hz).ledger

theorem writeZone_keeps : WriteKeeps s (writeZone idx data s) := by
  unfold writeZone
  split
  · split
    · extract_lets setpoint ceiling leadIn valveIn new given
      split
      · exact writeKeeps_some (keeps_of_ledger (ledger_applyZone s idx new))
      · exact writeKeeps_none
    · exact writeKeeps_none
  · exact writeKeeps_none

theorem ledger_polled (slot : Nat) (o : Option PollEntry) (ends : Bool) (stale : Option Nat) :
    ledger (polled slot o ends stale s) = ledger s := rfl

theorem ledger_applyPollWrite (slot : Nat) (new : Option PollCfg) : ledger (applyPollWrite slot new s) = ledger s := by
  cases new with
  | none =>
    cases he : slotGet s.sched.slots slot with
    | none => unfold applyPollWrite; rw [he]; rfl
    | some e => rw [applyPollWrite_removed he, ledger_polled]
  | some c =>
    cases he : slotGet s.sched.slots slot with
    | none => rw [applyPollWrite_new c he, ledger_polled]
    | some e =>
      cases hs : samePollEntry e c with
      | true => rw [applyPollWrite_changed he hs, ledger_polled]
      | false => rw [applyPollWrite_replaced he hs, ledger_polled]

theorem writePoll_keeps : WriteKeeps s (writePoll idx data s) := by
  have applied (new : Option PollCfg) : Keeps s (applyPollWrite idx new s) := keeps_of_ledger (ledger_applyPollWrite s _ _)
  unfold writePoll
  split
  · split
    · exact writeKeeps_none
    · exact writeKeeps_some (applied _)
  · dsimp only
    split
    · exact writeKeeps_none
    · split
      · exact writeKeeps_none
      · exact writeKeeps_some (applied _)
  · exact writeKeeps_none

theorem writeStaged_keeps : WriteKeeps s (writeStaged idx data s) := by
  unfold writeStaged
  split
  · exact writeNum_ledger fun _ => rfl
  · split
    · exact writeKeeps_some (keeps_of_ledger rfl)
    · exact writeKeeps_none

theorem writeTankSet_keeps : WriteKeeps s (writeTankSet idx data s) := by
  have scaling (set : LevelSet) : Keeps s (applyScaling set s) := by
    unfold applyScaling; split
    · exact .refl s
    · exact scalingChange_keeps s set
  have shape (set : LevelSet) : ledger (applyShape set s) = ledger s := by
    unfold applyShape; split <;> rfl
  have levels (w lo hi : Nat) (k : Nat → AcctSet) : WriteKeeps s (writeLevels w lo hi data k s) := fun x hx =>
    writeNum_ledger (k := fun v => setAcctSet (k v) s) (fun _ => rfl) x (Option.filter_eq_some_iff.mp hx).1
  unfold writeTankSet
  dsimp only
  split
  case h_1 =>
    split
    · split_ifs
      · exact writeKeeps_some (scaling _)
      · exact writeKeeps_some (scaling _)
      · exact writeKeeps_none
    · exact writeKeeps_none
  case h_6 =>
    split
    · exact writeKeeps_some (keeps_of_ledger (shape _))
    · exact writeKeeps_none
  case h_7 => exact writeNum_ledger fun _ => shape _
  case h_2 | h_3 | h_4 => exact writeNum_keeps fun _ => scaling _
  case h_9 | h_10 | h_11 => exact levels _ _ _ _
  all_goals exact writeNum_ledger fun _ => rfl

theorem writeBurnerSet_keeps : WriteKeeps s (writeBurnerSet idx data s) := by
  have applied {cond : State → Bool} {effect : State → State} (he : ∀ u, ledger (effect u) = ledger u) (u : State) :
      ledger (applyWhen cond effect u) = ledger u := by
    unfold applyWhen
    split
    · exact he u
    · rfl
  have tested (u : State) : ledger (testSupervisor u) = ledger u := (testSupervisor_steers u).ledger
  unfold writeBurnerSet
  dsimp only
  split
  · exact writeNum_ledger fun _ => tested _
  · exact writeNum_ledger fun _ => tested _
  · exact writeNum_ledger fun _ => applied (fun u => (dropPump_steers u).ledger) _
  · exact writeNum_ledger fun _ => applied (effect := endHoldExtension) (fun _ => rfl) _

/-- A BUDGET written lapses the oldest AUTOMATIC entries beyond it (R54). -/
theorem enforceBudget_keeps (set : RecoverySet) : Keeps s (enforceBudget (applyLapses (setRecoverySet set s))) := by
  refine ⟨upholds_of_recov ⟨fun _ => ?_, id, id⟩ rfl, id⟩
  rw [enforceBudget, setHistory, State.setRecov_recov, autoCount_lapseToBudget]
  exact Nat.min_le_left ..

theorem writeRecoverySet_keeps : WriteKeeps s (writeRecoverySet idx data s) := by
  have changed (set : RecoverySet) (hb : set.budget = s.recov.set.budget) : Keeps s (setRecoverySet set s) :=
    keeps_of_stays ⟨rfl, rfl, hb, rfl, Nat.le_refl _⟩ rfl
  unfold writeRecoverySet
  dsimp only
  split
  · exact writeNum_keeps fun v => (changed _ (by rfl)).trans checkDue_keeps
  · exact writeNum_keeps fun v => (changed _ (by rfl)).trans checkDue_keeps
  · exact writeNum_keeps fun v => (changed _ (by rfl)).trans applyLapses_keeps
  · exact writeNum_keeps fun v => enforceBudget_keeps s _
  · exact writeNum_keeps fun v => changed _ (by rfl)
  · split
    · exact writeKeeps_some (changed _ (by rfl))
    · exact writeKeeps_none

theorem writeRelaySet_keeps : WriteKeeps s (writeRelaySet idx data s) := by
  unfold writeRelaySet
  dsimp only
  split_ifs <;> exact writeNum_ledger fun _ => rfl

theorem writeMask_keeps : WriteKeeps s (writeMask data s) := by
  unfold writeMask
  split
  · exact writeKeeps_some ((keeps_of_ledger (settleNotices_reports _).ledger).behind rfl)
  · exact writeKeeps_none

theorem ledger_countPort (port : Port) (f : PortCounters → PortCounters) : ledger (s.countPort port f) = ledger s := by
  cases port <;> rfl

theorem ledger_clearCounters (o : Obj) : ledger (clearCounters o idx s) = ledger s := by
  unfold clearCounters
  split
  case h_5 =>
    split_ifs
    · exact ledger_countPort s .h _
    · exact ledger_countPort s .y _
    · exact ledger_countPort s .p _
    · rfl
  case h_6 => split_ifs <;> rfl
  all_goals rfl

theorem writeSetback_keeps : WriteKeeps s (writeSetback data s) :=
  writeNum_keeps fun _ => (keeps_of_ledger (evaluateZones_dispatch _ _).ledger).behind rfl

theorem writeItem_keeps (o : Obj) : WriteKeeps s (writeItem o idx data s) := by
  unfold writeItem
  split
  · unfold writeCounter
    split
    · split
      · exact writeKeeps_some (keeps_of_ledger (ledger_clearCounters s idx o))
      · exact writeKeeps_none
    · exact writeKeeps_none
  · split
    · exact writeEnrol_keeps s idx data
    · split
      · exact writeSetback_keeps s data
      · exact writeZone_keeps s idx data
    · exact writePoll_keeps s idx data
    · exact writeStaged_keeps s idx data
    · exact writeTankSet_keeps s idx data
    · exact writeBurnerSet_keeps s idx data
    · exact writeRecoverySet_keeps s idx data
    · exact writeRelaySet_keeps s idx data
    · exact writeMask_keeps s data
    · exact writeKeeps_none

end

/-! ### Actions and requests (R62, R170, R173) -/

/-- The request CLEAR-HARD-LOCK, whole and of a service source (R62, R170, R173). -/
structure AsksToClear (op obj idx src : Byte) (data : List Byte) (s : State) : Prop where
  op : op = 3
  obj : obj = 5
  idx : idx = 0
  data : data = []
  service : isService s src.toNat = true

section
variable (s : State)

theorem actReset_keeps : Keeps s (actReset s).1 := by
  unfold actReset
  split
  · next h =>
    split
    · exact .refl s
    · exact servicePulse_keeps _ (underway_waitRetry h)
  · next h => exact servicePulse_keeps _ (by rw [h]; exact ⟨nofun, nofun⟩)
  all_goals exact .refl s

/-- An action keeps the records, but for CLEAR-HARD-LOCK without data (R62). -/
theorem doAction_keeps (a : Action) (room : Room) (src idx : Byte) (data : List Byte) :
    Keeps s (doAction a room src idx data s).1 ∨
      a = .clearHardLock ∧ data = [] ∧ Clears s (doAction a room src idx data s).1 := by
  unfold doAction
  split
  · exact .inl (.refl s)
  · next hlength =>
    cases a with
    | swapStrap =>
      dsimp only
      unfold actSwap
      split
      · exact .inl (.refl s)
      · exact .inl (swapBanks_keeps s)
    | store => exact .inl (acceptStore_keeps room src idx)
    | clearNotice =>
      dsimp only
      exact .inl ((keeps_of_ledger (settleNotices_reports _).ledger).behind rfl)
    | resetBurner => exact .inl (actReset_keeps s)
    | clearHardLock =>
      dsimp only
      unfold actClearLock
      split
      · next h => exact .inr ⟨rfl, by simpa [Action.dataLength] using hlength, clearLock_clears h⟩
      · exact .inl (.refl s)
    | holdTank => exact .inl (keeps_of_ledger rfl)
    | forgetLevel => exact .inl (forgetLevel_keeps s)
    | restart => exact .inl (keeps_of_ledger rfl)

theorem actionOf_eq_clearHardLock {obj : Byte} (h : actionOf obj = some .clearHardLock) : obj = 5 := by
  revert obj
  decide

theorem readOp_eq_action {op : Byte} (h : readOp op = some .action) : op = 3 := by
  revert op
  decide

/-- A request keeps the records, but for a CLEAR-HARD-LOCK of a service source (R62, R170). -/
theorem handle_keeps (op obj idx : Byte) (room : Room) (src : Byte) (data : List Byte) :
    Keeps s (handle op obj idx room src data s).1 ∨
      AsksToClear op obj idx src data s ∧ Clears s (handle op obj idx room src data s).1 := by
  unfold handle
  split
  · exact .inl (.refl s)
  · exact .inl (.refl s)
  · left
    unfold handleWrite
    split
    · exact .refl s
    · split_ifs
      · exact .refl s
      · exact .refl s
      · exact .refl s
      · exact .refl s
      · split
        · exact .refl s
        · next he => exact writeItem_keeps _ _ _ _ _ he
  · next hop =>
    unfold handleAction
    split
    · exact .inl (.refl s)
    · next a ha =>
      split_ifs with hidx hservice hbusy
      · exact .inl (.refl s)
      · exact .inl (.refl s)
      · exact .inl (.refl s)
      · rcases doAction_keeps s a room src idx data with hk | ⟨rfl, hdata, hc⟩
        · exact .inl hk
        · refine .inr ⟨⟨readOp_eq_action hop, actionOf_eq_clearHardLock ha, ?_, hdata, by simpa using hservice⟩, hc⟩
          simp only [Action.lastIndex, Nat.not_lt, Nat.le_zero_eq] at hidx
          exact BitVec.eq_of_toNat_eq hidx

/-- A request row keeps the records, but for CLEAR_HARD_LOCK (R62). -/
theorem request_keeps (op : Op) (obj idx : Byte) (q : Req) :
    Keeps s (request op obj idx q s) ∨
      AsksToClear op.code obj idx q.src q.data s ∧ Clears s (request op obj idx q s) := by
  have hl : ledger (request op obj idx q s) = ledger (handle op.code obj idx q.room q.src q.data s).1 :=
    (respond_offers ..).ledger
  rcases handle_keeps s op.code obj idx q.room q.src q.data with hk | ⟨ha, hc⟩
  · exact .inl (hk.ahead hl)
  · exact .inr ⟨ha, hc.ahead hl⟩

/-- A MGMT_REQ keeps the records, but for the telegram of a CLEAR-HARD-LOCK (R62). -/
theorem takeRequest_keeps (room : Room) (t : Telegram) :
    Keeps s (takeRequest room t s) ∨
      t.payload = [3, 5, 0] ∧ isService s t.src.toNat = true ∧ Clears s (takeRequest room t s) := by
  unfold takeRequest
  split
  · next op obj idx data hp =>
    extract_lets r
    have hl : ledger (respond room t.src op obj idx r.2 (returnBuffer r.1)) = ledger r.1 :=
      ((returnBuffer_offers r.1).trans (respond_offers ..)).ledger
    rcases handle_keeps s op obj idx room t.src data with hk | ⟨⟨rfl, rfl, rfl, rfl, hservice⟩, hc⟩
    · exact .inl (hk.ahead hl)
    · exact .inr ⟨hp, hservice, hc.ahead hl⟩
  · exact .inl ((keeps_of_ledger (returnBuffer_offers _).ledger).behind rfl)

end

end Sys2Proof.Machine
end

section
/-! SUPPORT. What the ports, the relay unit, the poll scheduler and the zone unit make of the records: nothing, but for a SAMPLE and a
CLEAR-HARD-LOCK that they deliver (R126 to R168). -/

namespace Sys2Proof.Machine

/-! ### Ports (R126 to R136) -/

section
variable (port : Port) (s : State)

theorem ledger_modPort (f : PortState → PortState) : ledger (s.modPort port f) = ledger s := by cases port <;> rfl

theorem ledger_returnBuffer : ledger (returnBuffer s) = ledger s := (returnBuffer_offers s).ledger

theorem ledger_dropHead : ledger (dropHead port s) = ledger s :=
  (ledger_returnBuffer _).trans (ledger_modPort port s headless)

theorem ledger_beginAssembly : ledger (beginAssembly port s) = ledger s :=
  (beginAssembly_offers port s).ledger.trans (ledger_modPort port s _)

theorem ledger_takeOver : ledger (takeOver port s) = ledger s :=
  (ledger_beginAssembly port _).trans (ledger_modPort port s _)

theorem ledger_earlyCollision : ledger (earlyCollision port s) = ledger s := by
  have hcounted : ledger ((takeOver port s).modPort port earlyCounted) = ledger s :=
    (ledger_modPort ..).trans (ledger_takeOver port s)
  rw [earlyCollision_eq rfl rfl]
  split
  · exact ((ledger_dropHead ..).trans (ledger_modPort ..)).trans hcounted
  · exact (ledger_modPort ..).trans hcounted

theorem ledger_lateCollision : ledger (lateCollision port s) = ledger s :=
  ((ledger_dropHead ..).trans (ledger_modPort ..)).trans (ledger_takeOver port s)

theorem ledger_failExchange : ledger (failExchange s) = ledger s := by
  obtain ⟨d, hd, -⟩ := failExchange_spec s
  rw [hd]; rfl

theorem ledger_pMismatch : ledger (pMismatch s) = ledger s := by
  have htaken := ledger_takeOver .p s
  have hdropped : ledger (dropHead .p ((takeOver .p s).modPort .p failCounted)) = ledger s :=
    ((ledger_dropHead ..).trans (ledger_modPort ..)).trans htaken
  rw [pMismatch_eq rfl]
  split_ifs
  · exact (ledger_modPort ..).trans htaken
  · exact (ledger_failExchange _).trans hdropped
  · exact hdropped

theorem ledger_txSent : ledger (txSent port s) = ledger s := by
  unfold txSent
  extract_lets request s1 s2
  have h2 : ledger s2 = ledger s := (ledger_dropHead port s1).trans (ledger_modPort port s _)
  split
  · exact h2
  · exact h2

theorem ledger_broadcastHoldOff (seconds : Nat) : ledger (broadcastHoldOff seconds s) = ledger s :=
  (broadcastHoldOff_offers seconds s).ledger

end

/-! ### The poll scheduler (R160 to R168) -/

section
variable (s : State)

theorem ledger_changeRecord (slot : Nat) (f : ValveRecord → ValveRecord) : ledger (changeRecord slot f s) = ledger s := by
  have hrecord : ledger (modRecord slot f s) = ledger s := by
    rw [(modRecord_keepsPlant slot f s).frame]; rfl
  unfold changeRecord
  split
  · rfl
  · dsimp only
    split
    · exact hrecord
    · exact (recompute_steers _).ledger.trans hrecord

theorem ledger_retryExchange (x : Exchange) : ledger (retryExchange x s) = ledger s := by
  have h := (generate_offers .p (requestTel x.kind x.node) .request s).ledger
  have counted (u : State) : ledger (countRequest x.kind u) = ledger u := by
    unfold countRequest
    split <;> rfl
  unfold retryExchange
  split
  · next he => rw [he] at h; exact (ledger_failExchange _).trans h
  · next s' he => rw [he] at h; exact (counted s').trans h

theorem ledger_silentWindow : ledger (silentWindow s) = ledger s := by
  unfold silentWindow
  split
  · rfl
  · split
    · rfl
    · split
      · exact ledger_retryExchange s _
      · exact (missExchange_steers _ s).ledger

theorem ledger_takeStray : ledger (takeStray s) = ledger s := ledger_returnBuffer _

theorem routeAnswer_keepsOrGrants (x : Exchange) (slot : Nat) (t : Telegram) :
    KeepsOrGrants s (routeAnswer x slot t s) := by
  have routed : KeepsOrGrants s
      (if t.kind = kindSample then takeSample t.payload s
       else
        match readReport t.payload with
        | some rep => changeRecord slot (fun r => takeReport rep (clearPending x.kind r)) s
        | none => countSched (fun c => { c with badReport := bump c.badReport })
            (changeRecord slot (clearPending x.kind) s)) := by
    split
    · exact takeSample_keepsOrGrants s _
    · split
      · exact .inl (keeps_of_ledger (ledger_changeRecord s slot _))
      · exact .inl (keeps_of_ledger (ledger_changeRecord s slot _))
  exact routed.ahead (ledger_returnBuffer _)

theorem takeAnswer_keepsOrGrants (x : Exchange) (slot : Nat) (t : Telegram) : KeepsOrGrants s (takeAnswer x slot t s) := by
  unfold takeAnswer
  extract_lets s1 s2
  have h2 : ledger s2 = ledger s := (settleNotices_reports _).ledger
  exact ((routeAnswer_keepsOrGrants s2 x slot t).after h2).ahead (redecide_steers slot _).ledger

theorem ledger_takeReply (requester : Room) (t : Telegram) : ledger (takeReply requester t s) = ledger s :=
  (moveToQueue_offers ..).ledger

/-- A telegram on P keeps the records, or is a SAMPLE with which a delivery record opens (R63, R163). -/
theorem takeFromP_keepsOrGrants (t : Telegram) : KeepsOrGrants s (takeFromP t s) := by
  have stray : KeepsOrGrants s (takeStray s) := .inl (keeps_of_ledger (ledger_takeStray s))
  have answer (x : Exchange) (slot : Nat) :
      KeepsOrGrants s (if t.dest = 0 && t.kind = expectedKind s slot then takeAnswer x slot t s else takeStray s) := by
    split
    · exact takeAnswer_keepsOrGrants s x slot t
    · exact stray
  unfold takeFromP
  split
  · exact stray
  · next x _ =>
    split
    · exact stray
    · split
      · exact .inl (keeps_of_ledger (ledger_takeReply s _ t))
      · exact answer x _
      · exact answer x _

theorem ledger_enterBreak (port : Port) : ledger (enterBreak port s) = ledger s := by
  have broken (u : State) : ledger (match port with
      | .p => pBreak u
      | _ => u) = ledger u := by
    cases port
    · rfl
    · rfl
    · rw [(pBreak_lost u).frame]; rfl
  have returned (n : Nat) (u : State) : ledger (returnBuffers n u) = ledger u := (returnBuffers_offers n u).ledger
  unfold enterBreak
  extract_lets s1 flushed s2
  have h1 : ledger s1 = ledger s := (dropAssembly_offers port s).ledger.trans (ledger_modPort port s fun q => { q with asm := none })
  have h2 : ledger s2 = ledger s := ((returned ..).trans (ledger_modPort ..)).trans h1
  exact (settleNotices_reports _).ledger.trans ((broken s2).trans h2)

theorem ledger_leaveBreak (port : Port) : ledger (leaveBreak port s) = ledger s := by
  unfold leaveBreak
  extract_lets s1
  have h1 : ledger s1 = ledger s := ledger_modPort port s _
  have returned : ledger (match port with
      | .p => pReturn s1
      | _ => s1) = ledger s1 := by
    cases port <;> rfl
  exact (settleNotices_reports _).ledger.trans (returned.trans h1)

/-! ### The relay unit (R143 to R154) -/

/-- A part of a telegram's way through the relay unit that leaves the ledger and the enrolment map as they are. -/
structure Attends (s t : State) : Prop where
  ledger : ledger t = ledger s
  enrol : t.zone.enrol = s.zone.enrol

theorem Attends.refl : Attends s s := ⟨rfl, rfl⟩

theorem Attends.trans {a b c : State} (h : Attends a b) (k : Attends b c) : Attends a c :=
  ⟨k.ledger.trans h.ledger, k.enrol.trans h.enrol⟩

theorem nodeChanged_attends (addr : Nat) : Attends s (nodeChanged addr s) :=
  ⟨(nodeChanged_hears addr s).ledger, by rw [nodeChanged_zone]⟩

theorem removeNode_attends (slot addr : Nat) (count : RelayCounters → RelayCounters) :
    Attends s (removeNode slot addr count s) := by
  have h : Attends s (countRelay count (setNodes (s.relay.nodes.set slot none) s)) := ⟨rfl, rfl⟩
  exact h.trans (nodeChanged_attends _ addr)

theorem createNode_attends (slot addr : Nat) (room : Room) : Attends s (createNode slot addr room s) := by
  have h : Attends s (countRelay (fun c => { c with learned := bump c.learned }) (setNodes (s.relay.nodes.set slot
      (some { addr := addr, seg := room, heard := s.sec, storm := 0, holdOffSent := false, part := none })) s)) := ⟨rfl, rfl⟩
  exact h.trans (nodeChanged_attends _ addr)

theorem migrate_attends (slot addr : Nat) (room : Room) : Attends s (migrate slot addr room s) := by
  have h : Attends s (countRelay (fun c => { c with migrated := bump c.migrated })
      (modNode slot (fun e => { e with seg := room, heard := s.sec }) s)) := ⟨rfl, rfl⟩
  exact h.trans (nodeChanged_attends _ addr)

theorem learn_attends (addr : Nat) (room : Room) : Attends s (learn addr room s) := by
  unfold learn
  split
  · unfold learnNew
    split
    · exact createNode_attends s _ addr room
    · split
      · exact (removeNode_attends s _ _ _).trans (createNode_attends _ _ addr room)
      · exact .refl s
  · split
    · exact ⟨rfl, rfl⟩
    · exact migrate_attends s _ addr room

theorem ledger_ageNodes : ledger (ageNodes s) = ledger s := by
  have slot (x : Nat) (u : State) : ledger (ageSlot x u) = ledger u := by
    unfold ageSlot
    split
    · rfl
    · split
      · exact (removeNode_attends u _ _ _).ledger
      · rfl
  have all (xs : List Nat) (u : State) : ledger (forEach xs ageSlot u) = ledger u := by
    induction xs generalizing u with
    | nil => rfl
    | cons x xs ih => exact (ih _).trans (slot x u)
  exact all _ s

theorem ledger_discard (f : RelayCounters → RelayCounters) : ledger (discard f s) = ledger s := ledger_returnBuffer _

theorem ledger_discardExcess (addr : Nat) : ledger (discardExcess addr s) = ledger s := by
  have sent (u : State) : ledger (holdOffNode addr u) = ledger u := by
    unfold holdOffNode
    split
    · rfl
    · split
      · rfl
      · exact (generate_offers ..).ledger
  exact (sent _).trans (ledger_discard s _)

theorem ledger_moveToRoom (port : Port) (f : RelayCounters → RelayCounters) (t : Telegram) :
    ledger (moveToRoom port f t s) = ledger s := by
  have counted (u : State) : ledger (bumpBcast port u) = ledger u := by cases port <;> rfl
  unfold moveToRoom
  extract_lets s1 s2
  have h2 : ledger s2 = ledger s := by
    simp only [s2]
    split
    · exact counted s1
    · rfl
  exact (moveToQueue_offers port t .plain s2).ledger.trans h2

theorem ledger_moveToPlant (room : Room) (t : Telegram) : ledger (moveToPlant room t s) = ledger s := by
  unfold moveToPlant
  split
  · rfl
  · exact ledger_discard s _

theorem ledger_relayOn (room : Room) (t : Telegram) : ledger (relayOn room t s) = ledger s := by
  unfold relayOn moveTelegram
  split
  · exact ledger_discard s _
  · split
    · exact ledger_discard s _
    · split
      · exact ledger_moveToRoom s _ _ t
      · exact ledger_moveToRoom s _ _ t
      · exact ledger_moveToPlant s room t

theorem ledger_takeDemand (room : Room) (t : Telegram) : ledger (takeDemand room t s) = ledger s := by
  unfold takeDemand
  split
  · exact ledger_returnBuffer _
  · split
    · exact ledger_returnBuffer _
    · next z _ _ =>
      extract_lets e part stored done
      have hdone : ledger done = ledger s :=
        (ledger_returnBuffer _).trans (evaluateZones_dispatch [z] stored).ledger
      obtain ⟨i, hplant⟩ := statusPlant_fst stored done
      dsimp only
      rw [(generate_offers ..).ledger, hplant]
      exact hdone

/-- A telegram on H or Y keeps the records, or is a CLEAR-HARD-LOCK of a service source (R62). -/
theorem takeFromRoom_keeps (room : Room) (t : Telegram) :
    Keeps s (takeFromRoom room t s) ∨
      t.kind = kindMgmtReq ∧ t.payload = [3, 5, 0] ∧ isService s t.src.toNat = true ∧ Clears s (takeFromRoom room t s) := by
  unfold takeFromRoom
  extract_lets s1
  have h1 : Attends s s1 := (learn_attends s _ room).trans ⟨rfl, rfl⟩
  have kept {u : State} (h : ledger u = ledger s1) : Keeps s u := (keeps_of_ledger h).behind h1.ledger
  split
  · exact .inl (kept (ledger_discardExcess s1 _))
  · unfold resolve
    split_ifs with hown hdest hdemand hrequest
    · exact .inl (kept (ledger_discard s1 _))
    · exact .inl (kept (ledger_takeDemand s1 room t))
    · rcases takeRequest_keeps s1 room t with hk | ⟨hpayload, hservice, hc⟩
      · exact .inl (hk.behind h1.ledger)
      · exact .inr ⟨hrequest, hpayload, by rwa [isService_congr h1.enrol] at hservice,
          hc.behind (keeps_of_ledger h1.ledger)⟩
    · exact .inl (kept (ledger_discard s1 _))
    · exact .inl (kept (ledger_relayOn s1 room t))

/-! ### The end of a telegram (R127) -/

/-- The telegrams that may clear the hard lock: CLEAR-HARD-LOCK of a service source on a room port, and one on P with which a
delivery record opens (R62, R63). -/
def ClearingTelegram (port : Port) (t : Telegram) (s s' : State) : Prop :=
  (∃ room, port = roomPort room ∧ t.kind = kindMgmtReq ∧ t.payload = [3, 5, 0] ∧ isService s t.src.toNat = true) ∨
    port = .p ∧ deliveryOpen s = false ∧ deliveryOpen s' = true

theorem deliver_keeps (port : Port) (t : Telegram) :
    Keeps s (deliver port t s) ∨ ClearingTelegram port t s (deliver port t s) ∧ Clears s (deliver port t s) := by
  have fromRoom (room : Room) : Keeps s (takeFromRoom room t s) ∨
      ClearingTelegram (roomPort room) t s (takeFromRoom room t s) ∧ Clears s (takeFromRoom room t s) := by
    rcases takeFromRoom_keeps s room t with hk | ⟨hkind, hpayload, hservice, hc⟩
    · exact .inl hk
    · exact .inr ⟨.inl ⟨room, rfl, hkind, hpayload, hservice⟩, hc⟩
  cases port with
  | h => exact fromRoom .h
  | y => exact fromRoom .y
  | p =>
    rcases takeFromP_keepsOrGrants s t with hk | ⟨hc, hs, ht⟩
    · exact .inl hk
    · exact .inr ⟨.inr ⟨rfl, hs, ht⟩, hc⟩

/-- Whatever arrives keeps the records, but for a telegram that may clear the hard lock (R62, R63, R127). -/
theorem telegramEnd_keeps (port : Port) (chars : List RxChar) :
    Keeps s (telegramEnd port chars s) ∨
      ClearingTelegram port (parseTel (chars.map (·.data))) s (telegramEnd port chars s) ∧
        Clears s (telegramEnd port chars s) := by
  unfold telegramEnd
  split
  · exact .inl (keeps_of_ledger (ledger_modPort port s _))
  · unfold endAssembly
    dsimp only
    have h1 : ledger (s.modPort port (quietAfterTelegram s.now)) = ledger s := ledger_modPort ..
    have henrol (f : PortCounters → PortCounters) :
        ((s.modPort port (quietAfterTelegram s.now)).countPort port f).zone.enrol = s.zone.enrol := by cases port <;> rfl
    have hcount (f : PortCounters → PortCounters) :
        ledger ((s.modPort port (quietAfterTelegram s.now)).countPort port f) = ledger s := (ledger_countPort ..).trans h1
    have kept {u : State} {f : PortCounters → PortCounters}
        (h : ledger u = ledger ((s.modPort port (quietAfterTelegram s.now)).countPort port f)) : Keeps s u :=
      keeps_of_ledger (h.trans (hcount f))
    split_ifs with hgood haddr hbuffer
    · generalize hu : (s.modPort port (quietAfterTelegram s.now)).countPort port _ = u
      have hl : ledger u = ledger s := hu ▸ hcount _
      have he : u.zone.enrol = s.zone.enrol := hu ▸ henrol _
      rcases deliver_keeps u port (parseTel (chars.map (·.data))) with hk | ⟨hclearing, hc⟩
      · exact .inl (hk.behind hl)
      · refine .inr ⟨?_, hc.behind (keeps_of_ledger hl)⟩
        rcases hclearing with ⟨room, hport, hkind, hpayload, hservice⟩ | ⟨hport, hclosed, hopen⟩
        · exact .inl ⟨room, hport, hkind, hpayload, by rwa [isService_congr he] at hservice⟩
        · exact .inr ⟨hport, by rwa [deliveryOpen_congr (congrArg Ledger.deliveries hl)] at hclosed, hopen⟩
    · exact .inl (kept (ledger_returnBuffer _))
    · exact .inl (kept (ledger_returnBuffer _))
    · exact .inl (kept rfl)

end

end Sys2Proof.Machine
end

section
/-! Every command keeps the records: the resets that load them, and the command that clears the hard lock (R43, R61 to R67, R177). -/

namespace Sys2Proof.Machine

/-! ### The resets (R43, R66, R67, R102, R119) -/

/-- A reset loads sound records, whatever they were. -/
theorem upholds_of_sound {s t : State} (hb : BudgetKept t) (he : EpisodeSound t) (hl : HardLockSound t) (hm : MemorySound t)
    (hd : DeliveriesSound t) (hx : ResidueSound t) : Upholds s t :=
  ⟨⟨fun _ => hb, fun _ => he, fun _ => hl⟩, fun _ => hm, fun _ => hd, fun _ => hx⟩

theorem recoveryAfterReset_budget (img : StoreImage) (found : Option SafetyRecord) :
    autoCount (recoveryAfterReset img found).safe.history ≤ (recoveryAfterReset img found).set.budget := by
  obtain ⟨-, hset, -⟩ := recoveryAfterReset_rest img found
  rw [hset]
  cases found with
  | none => exact Nat.zero_le _
  | some r =>
    rw [recoveryAfterReset_safe, restoreHistory, autoCount_lapseToBudget]
    exact Nat.min_le_left ..

/-- A restored hard lock has its flag and its episode; otherwise the unit is CLOSED with neither (R66). -/
theorem recoveryAfterReset_episode (img : StoreImage) (found : Option SafetyRecord) :
    ((recoveryAfterReset img found).state = .closed ↔ (recoveryAfterReset img found).episode = none) ∧
    ((recoveryAfterReset img found).safe.flag = true ↔ (recoveryAfterReset img found).state = .hardLock) := by
  cases found with
  | none => exact ⟨iff_of_false nofun nofun, iff_of_true rfl rfl⟩
  | some r =>
    rw [recoveryAfterReset_safe]
    cases hf : r.flag with
    | true =>
      obtain ⟨hstate, -, hepisode⟩ := recoveryAfterReset_locked img hf
      rw [hstate, hepisode]
      exact ⟨iff_of_false nofun nofun, iff_of_true rfl rfl⟩
    | false =>
      obtain ⟨hstate, hepisode, -⟩ := recoveryAfterReset_clear img hf
      rw [hstate, hepisode]
      exact ⟨iff_of_true rfl rfl, iff_of_false (by simp) nofun⟩

/-- The state that a reset leaves before its notices settle. -/
def restored (s : State) : State :=
  let img := (storeFound s).getD factoryImage
  { loaded (storeFound s) (safetyFound s) s with
    sup := supervisorRestored img (recoveryAfterReset img (safetyFound s)) s.sup.run.raw s.sup.lockout.raw
    nv := storesRestored (storeFound s) (safetyFound s) (recoveryAfterReset img (safetyFound s)) }

theorem resetPart_restored (s : State) : resetPart s = settleNotices (restored s) :=
  settleReset_loaded _ (storeFound s) (safetyFound s) s rfl

theorem resetPart_settled (s : State) : Settled (resetPart s) := by
  rw [resetPart_restored]
  refine ⟨?_, settleNotices_line _, settleNotices_timer _⟩
  rw [(settleNotices_reports _).sched]
  rfl

theorem resetPart_upholds (s : State) : Upholds s (resetPart s) := by
  rw [resetPart_restored]
  have h : Upholds s (restored s) := by
    obtain ⟨hepisode, hlock⟩ := recoveryAfterReset_episode ((storeFound s).getD factoryImage) (safetyFound s)
    exact upholds_of_sound (recoveryAfterReset_budget _ _) hepisode hlock (fun _ => ⟨rfl, nofun⟩)
      ⟨Nat.zero_le _, fun d hd => absurd hd List.not_mem_nil⟩ (Nat.zero_lt_succ _)
  exact h.trans (keeps_of_ledger (settleNotices_reports _).ledger).upholds

/-! ### Commands -/

/-- What a command from `s` makes of the records: a settled state settled, the records upheld, and the hard-lock flag cleared by
a reset or by a command that may clear it, with the clear record being written or waiting (R61 to R65, R177). -/
structure Recorded (c : Instr) (s t : State) : Prop where
  settled : Settled s → Settled t
  upholds : Upholds s t
  lock : s.recov.safe.flag = true → t.recov.safe.flag = false →
    TakesReset c s ∨ ClearsTheLock c s t ∧ (t.nv.waiting = true ∨ t.nv.writing = some t.recov.safe)

/-- Every outcome of a command leaves the records so. -/
def StepRecords (c : Instr) (s : State) (o : Host.Outcome State Fault Refusal) : Prop := ∀ t, o = .next t → Recorded c s t

theorem stepRecords_next {c : Instr} {s t : State} (h : Recorded c s t) : StepRecords c s (.next t) := by
  rintro _ ⟨⟩; exact h

theorem Keeps.not_cleared {s t : State} {p : Prop} (h : Keeps s t) (hs : s.recov.safe.flag = true)
    (ht : t.recov.safe.flag = false) : p := by
  cases (h.flag hs).symm.trans ht

theorem recorded_refl (c : Instr) (s : State) : Recorded c s s :=
  ⟨id, (Keeps.refl s).upholds, fun hs ht => (Keeps.refl s).not_cleared hs ht⟩

theorem recorded_reset {c : Instr} {s : State} (h : TakesReset c s) : Recorded c s (resetPart s) :=
  ⟨fun _ => resetPart_settled s, resetPart_upholds s, fun _ _ => .inl h⟩

section
variable {c : Instr} {s : State} {cause : Bool} {effect : State → State}

theorem ledger_finish (s : State) : ledger (finish s) = ledger s := (finish_finishes s).ledger

/-- An event keeps the records if its effect does, or clears the hard lock as it may. -/
theorem act_records (he : cause = true → Keeps s (effect s) ∨ Clears s (effect s) ∧ ClearsTheLock c s (finish (effect s))) :
    StepRecords c s (act cause effect s) := by
  cases cause with
  | false => exact stepRecords_next (recorded_refl c s)
  | true =>
    have hl := ledger_finish (effect s)
    refine stepRecords_next ?_
    rcases he rfl with hk | ⟨hc, hclears⟩
    · exact ⟨fun _ => finish_settled _, (hk.ahead hl).upholds, fun hs ht => (hk.ahead hl).not_cleared hs ht⟩
    · exact ⟨fun _ => finish_settled _, (hc.ahead hl).upholds, fun _ _ => .inr ⟨hclears, (hc.ahead hl).written⟩⟩

theorem act_keeps (he : cause = true → Keeps s (effect s)) : StepRecords c s (act cause effect s) :=
  act_records fun hc => .inl (he hc)

theorem act_ledger (he : ledger (effect s) = ledger s) : StepRecords c s (act cause effect s) :=
  act_keeps fun _ => keeps_of_ledger he

/-- A request row other than CLEAR_HARD_LOCK keeps the records. -/
theorem requested_keeps (op : Op) (obj idx : Byte) (q : Req) (h : op ≠ .action ∨ obj ≠ 5) :
    StepRecords c s (requested op obj idx q s) := by
  refine act_keeps fun _ => ?_
  rcases request_keeps s op obj idx q with hk | ⟨⟨hop, hobj, -⟩, -⟩
  · exact hk
  · cases op with
    | read => simp [Op.code] at hop
    | write => simp [Op.code] at hop
    | action => exact absurd hobj (h.resolve_left (by simp))

theorem clearHardLock_records (idx : Byte) (q : Req) : StepRecords (.clearHardLock idx q) s (requested .action 5 idx q s) := by
  refine act_records fun _ => ?_
  rcases request_keeps s .action 5 idx q with hk | ⟨⟨-, -, hidx, hdata, hservice⟩, hc⟩
  · exact .inl hk
  · exact .inr ⟨hc, .inl ⟨q, by rw [hidx], hdata, hservice⟩⟩

theorem telegramEnd_records (port : Port) (chars : List RxChar) (cause : Bool) :
    StepRecords (.rxTelegramEnd port chars) s (act cause (telegramEnd port chars) s) := by
  refine act_records fun _ => ?_
  rcases telegramEnd_keeps s port chars with hk | ⟨hclearing, hc⟩
  · exact .inl hk
  · refine .inr ⟨hc, ?_⟩
    rcases hclearing with ⟨room, hport, hkind, hpayload, hservice⟩ | ⟨hport, hclosed, hopen⟩
    · exact .inr (.inl ⟨room, chars, _, by rw [hport], rfl, hkind, hpayload, hservice⟩)
    · have hd := congrArg Ledger.deliveries (ledger_finish (telegramEnd port chars s))
      exact .inr (.inr ⟨chars, by rw [hport], hclosed, by rw [deliveryOpen_congr hd]; exact hopen⟩)

end

/-! ### The burner's edges and timers (R23, R24, R53) -/

section
variable (s : State)

theorem runRise_keeps : Keeps s (runRise s) := by
  unfold runRise
  extract_lets _ s1 _ s2
  have h2 : ledger s2 = ledger s := by
    simp only [s2]
    split
    · exact (startHoldExtension_steers _).ledger
    · rfl
    · rfl
  exact (recRunEdge_keeps true).behind h2

theorem runFall_keeps : Keeps s (runFall s) := by
  unfold runFall
  extract_lets _ s1 s2 _ _ s3 s4
  have h2 : Keeps s s2 := (creditBurn_credits _ s1).keeps.behind rfl
  have h3 : Keeps s (markMinOff s3) := h2.ahead rfl
  have h4 : Keeps s s4 := h3.trans (recRunEdge_keeps false)
  split
  · exact h4.ahead rfl
  · exact h4

end

/-! ### The statement -/

/-- Every command keeps the records (R44, R54, R61, R65, R108, R117, R175, R177). -/
theorem exec_records (c : Instr) (s : State) : StepRecords c s (exec c s) := by
  cases c with dsimp only [exec]
  | powerOn => exact stepRecords_next (recorded_reset (.inl rfl))
  | pinReset => exact stepRecords_next (recorded_reset (.inr (.inl rfl)))
  | restartTaken =>
    refine stepRecords_next ?_
    split
    · next h =>
      simp only [Bool.and_eq_true, Bool.not_eq_true'] at h
      exact recorded_reset (.inr (.inr ⟨rfl, h.1, h.2⟩))
    · exact recorded_refl _ s
  | rxFirstCharacter port => exact act_ledger (ledger_beginAssembly port s)
  | rxTelegramEnd port chars => exact telegramEnd_records port chars _
  | startupGraceExpiry => exact act_ledger (evaluateZones_dispatch _ _).ledger
  | hourWindowBoundary => exact act_ledger (evaluateZones_dispatch _ _).ledger
  | dutyPortionEnd z => exact act_ledger (evaluateZones_dispatch _ _).ledger
  | runSenseChange level => exact act_ledger rfl
  | lockoutSenseChange level => exact act_ledger rfl
  | runRise => exact act_keeps fun _ => runRise_keeps s
  | runFall => exact act_keeps fun _ => runFall_keeps s
  | lockoutTaken => exact act_keeps fun _ => lockoutTaken_keeps
  | lockoutReleased => exact act_keeps fun _ => recLockoutReleased_keeps.behind rfl
  | minOffElapsed => exact act_ledger (testSupervisor_steers s).ledger
  | minOnExpiry => exact act_ledger (testSupervisor_steers s).ledger
  | startWindowExpiry => exact act_ledger (settleNotices_reports _).ledger
  | pumpOverrunExpiry => exact act_ledger (dropPump_steers s).ledger
  | holdExtendExpiry => exact act_ledger rfl
  | retryDue =>
    refine act_keeps fun hd => ?_
    simp only [attemptDue, Bool.and_eq_true, decide_eq_true_eq] at hd
    exact decideAttempt_keeps (underway_waitRetry hd.1.1)
  | safetyWriteStart => exact act_keeps fun _ => startSafetyWrite_keeps s
  | safetyWriteComplete => exact act_keeps fun _ => completeSafetyWrite_keeps
  | resetPulseEnd =>
    refine act_keeps fun hp => enterConfirming_keeps ?_
    simp only [Bool.and_eq_true, decide_eq_true_eq] at hp
    rw [hp.1]; exact ⟨nofun, nofun⟩
  | confirmTimeout =>
    refine act_keeps fun hp => attemptNotCleared_keeps ?_
    simp only [Bool.and_eq_true, decide_eq_true_eq] at hp
    rw [hp.1]; exact ⟨nofun, nofun⟩
  | provingComplete =>
    refine act_keeps fun hp => closeEpisode_keeps ?_
    simp only [Bool.and_eq_true, decide_eq_true_eq] at hp
    exact hp.1.1
  | resetHistoryLapse => exact act_keeps fun _ => applyLapses_keeps.ahead rfl
  | deliveryTimeout => exact act_keeps fun _ => endDelivery_keeps _ s
  | staleTimerExpiry => exact act_ledger rfl
  | serviceHoldExpiry => exact act_ledger rfl
  | breakEntry port => exact act_ledger (ledger_enterBreak s port)
  | breakExit port => exact act_ledger (ledger_leaveBreak s port)
  | quietWaitMet port => exact act_ledger (ledger_modPort ..)
  | earlyCollision r ch => exact act_ledger (ledger_earlyCollision _ s)
  | lateCollision r ch => exact act_ledger (ledger_lateCollision _ s)
  | backoffEnd r => exact act_ledger (ledger_modPort ..)
  | pTxMismatch => exact act_ledger (ledger_pMismatch s)
  | pRetryPauseEnd => exact act_ledger (ledger_modPort ..)
  | txSent port => exact act_ledger (ledger_txSent port s)
  | holdOffRepeat => exact act_ledger (ledger_broadcastHoldOff _ _)
  | nodeAgingCheck => exact act_ledger (ledger_ageNodes s)
  | stormIntervalStart => exact act_ledger rfl
  | broadcastIntervalStart => exact act_ledger rfl
  | pollDue => exact act_ledger rfl
  | responseWindowClose => exact act_ledger (ledger_silentWindow s)
  | valveTravelExpiry slot => exact act_ledger (ledger_changeRecord s slot _)
  | noticeRepeat => exact act_ledger (composeNotices_offers _).ledger
  | read obj idx q => exact requested_keeps _ _ _ q (.inl nofun)
  | enrolWrite idx q => exact requested_keeps _ _ _ q (.inl nofun)
  | zoneWrite idx q => exact requested_keeps _ _ _ q (.inl nofun)
  | reserveSetbackWrite q => exact requested_keeps _ _ _ q (.inl nofun)
  | pollWrite idx q => exact requested_keeps _ _ _ q (.inl nofun)
  | strapStagedWrite idx q => exact requested_keeps _ _ _ q (.inl nofun)
  | scalingWrite item q => exact requested_keeps _ _ _ q (.inl nofun)
  | filterShapeWrite item q => exact requested_keeps _ _ _ q (.inl nofun)
  | tankLevelsWrite item q => exact requested_keeps _ _ _ q (.inl nofun)
  | burnerSetWrite item q => exact requested_keeps _ _ _ q (.inl nofun)
  | recoverySetWrite item q => exact requested_keeps _ _ _ q (.inl nofun)
  | relaySettingsWrite item q => exact requested_keeps _ _ _ q (.inl nofun)
  | noticeMaskWrite q => exact requested_keeps _ _ _ q (.inl nofun)
  | counterClear obj idx q => exact requested_keeps _ _ _ q (.inl nofun)
  | mgmtWrite obj idx q => exact requested_keeps _ _ _ q (.inl nofun)
  | swapStrap idx q => exact requested_keeps _ _ _ q (.inr (by decide))
  | store idx q => exact requested_keeps _ _ _ q (.inr (by decide))
  | storeWriteStart => exact act_keeps fun _ => startStoreWrite_keeps
  | storeComplete verified => exact act_keeps fun _ => endStore_keeps verified
  | clearNotice idx q => exact requested_keeps _ _ _ q (.inr (by decide))
  | resetBurner idx q => exact requested_keeps _ _ _ q (.inr (by decide))
  | clearHardLock idx q => exact clearHardLock_records idx q
  | holdTank idx q => exact requested_keeps _ _ _ q (.inr (by decide))
  | forgetLevel idx q => exact requested_keeps _ _ _ q (.inr (by decide))
  | restart idx q => exact requested_keeps _ _ _ q (.inr (by decide))
  | segmentLineChange port level => exact act_ledger (ledger_modPort ..)

/-- A change of the clock or of the waiting commands alone. -/
theorem settled_around {s : State} (now : Nat) (pending : List Instr) (h : Settled s) :
    Settled ((s.setNow now).setPending pending) := ⟨h.quiet, h.notices, h.timer⟩

/-- What a step makes of a settled state and of the records, whichever command it takes. -/
theorem step_records {s t : State} (h : step s = .next t) : (Settled s → Settled t) ∧ Upholds s t := by
  unfold step at h
  split at h
  · unfold idle at h
    split at h
    · cases h
      have hticked : Keeps s (s.setNow (s.now + 1)) := keeps_of_ledger rfl
      exact ⟨settled_around (s.now + 1) s.pending, hticked.upholds⟩
    · cases h
  · next c rest _ =>
    have hr := exec_records c (s.setPending rest) t h
    have hwaiting : Keeps s (s.setPending rest) := keeps_of_ledger rfl
    exact ⟨fun hs => hr.settled (settled_around s.now rest hs), hwaiting.upholds.trans hr.upholds⟩

/-- Settles O59: every step keeps the records, and the hard-lock flag goes with a reset or a command that may clear it. -/
theorem stepKeepsTheRecords : Obligations.StepKeepsTheRecords := by
  refine ⟨fun s t h => ?_, fun c s t h => (exec_records c s t h).lock⟩
  obtain ⟨hsettled, hrecov, hmemory, hdeliveries, hresidue⟩ := step_records h
  exact ⟨hsettled, hrecov.budget, hrecov.episode, hrecov.lock, hmemory, hdeliveries, hresidue⟩

end Sys2Proof.Machine
end

section
/-! The notices and the stores after a reset (R65, R174 to R178). -/

namespace Sys2Proof.Machine

/-! ### The stores found (R65, R175) -/

/-- What a cut-off write leaves: the old content, the new content, or content that fails its check (log 7). -/
theorem cutOff_cases {α : Type} (n : Nat) (old : Option α) (content : α) :
    cutOff n old content = old ∨ cutOff n old content = some content ∨ cutOff n old content = none := by
  unfold cutOff
  split
  · exact .inl rfl
  · exact .inr (.inl rfl)
  · exact .inr (.inr rfl)

section
variable {s : State}

theorem storeFound_writing {room : Room} {src idx : Byte} {content : StoreImage}
    (h : s.mgmt.job = .writing room src idx content) : storeFound s = cutOff s.freeIdx s.nv.store content := by
  rw [storeFound, h]

theorem storeFound_kept (h : storeWriting s = false) : storeFound s = s.nv.store := by
  cases hj : s.mgmt.job <;> simp_all [storeFound, storeWriting]

theorem safetyFound_writing {r : SafetyRecord} (h : s.nv.writing = some r) :
    safetyFound s = cutOff s.freeIdx s.nv.safety r := by
  rw [safetyFound, h]

theorem safetyFound_kept (h : s.nv.writing = none) : safetyFound s = s.nv.safety := by
  rw [safetyFound, h]

end

/-! ### The notices (R176, R177) -/

/-- Settling from a released line asserts it for an enabled kind, and starts the repeat timer with it (R177). -/
theorem settleNotices_released {s : State} (h : s.mgmt.line = false) : (settleNotices s).mgmt =
    { s.mgmt with
      line := decide (enabledSet s ≠ 0), repeatFrom := if enabledSet s = 0 then none else some s.now } := by
  unfold settleNotices
  split
  · next h0 => simp [h0]
  · next h0 =>
    rw [h, if_neg Bool.false_ne_true, (composeNotices_offers _).mgmt, decide_eq_true h0]
    rfl

/-- Of the condition kinds a reset leaves at most HARD_LOCK (R176). -/
theorem conditionSet_restored (s : State) : conditionSet (restored s) =
    if (restored s).recov.state = .hardLock then 0x0040 else 0 := by
  have hblind : zoneBlindCond (restored s) = false := loadedStates_not_contains (by decide) (by decide) _
  have hfrost : frostCond (restored s) = false := loadedStates_not_contains (by decide) (by decide) _
  have habsent : nodeAbsentCond (restored s) = false := loadedPoll_any (fun _ => rfl) _
  have hfault : valveFaultCond (restored s) = false := loadedPoll_any entryFault_loadPollEntry _
  have hreserve : reserveCond (restored s) = false := rfl
  have hempty : emptyCond (restored s) = false := rfl
  have hstale : levelStaleCond (restored s) = false := rfl
  have hbreak : segmentBreakCond (restored s) = false := rfl
  rw [conditionSet, hblind, hfrost, habsent, hfault, hreserve, hempty, hstale, hbreak, hardLockCond]
  by_cases hl : (restored s).recov.state = .hardLock <;> simp only [hl, decide_true, decide_false, if_true, if_false] <;> rfl

theorem pendingSet_restored (s : State) : pendingSet (restored s) =
    (if storeFound s = none then 0x0010 else 0) ||| (if (restored s).recov.state = .hardLock then 0x0040 else 0) := by
  have hevents : (restored s).mgmt.events = if storeFound s = none then 0x0010 else 0 := by
    change eventsAfterReset (storeFound s) = _
    cases storeFound s <;> rfl
  rw [pendingSet, hevents, conditionSet_restored]

/-- Settles O6: the loaded management unit, its notices settled, and the stores as the reset finds them. -/
theorem resetSettlesTheNotices : Obligations.ResetSettlesTheNotices := by
  intro c s img hc himg
  refine ⟨_, exec_of_takesReset hc, ?_⟩
  have h := settleNotices_reports (restored s)
  have hpending := h.pendingSet.trans (pendingSet_restored s)
  have henabled : enabledSet (restored s) = pendingSet (settleNotices (restored s)) &&& img.mask := by
    rw [himg, h.pendingSet]; rfl
  have hmgmt := settleNotices_released (s := restored s) rfl
  rw [henabled] at hmgmt
  have hrecov : (settleNotices (restored s)).recov = (restored s).recov := h.recov
  have hstore : (settleNotices (restored s)).nv.store = storeFound s := congrArg NonVolatile.store h.nv
  have hsafety : (settleNotices (restored s)).nv.safety = safetyFound s := congrArg NonVolatile.safety h.nv
  rw [resetPart_restored, hstore, hsafety, hrecov]
  refine ⟨rfl, by rw [hmgmt]; rfl, by rw [hmgmt]; rfl, by rw [hmgmt]; rfl, by rw [hmgmt]; rfl, by rw [hmgmt, himg]; rfl,
    hpending, by rw [hmgmt]; simp, by rw [hmgmt]; rfl, fun room src idx content hj => ?_, fun r hw => ?_, storeFound_kept,
    safetyFound_kept⟩
  · rw [storeFound_writing hj]
    exact cutOff_cases ..
  · rw [safetyFound_writing hw]
    exact cutOff_cases ..

end Sys2Proof.Machine
end

section
/-! SUPPORT. What a composed telegram leaves of the management unit, and the course of a STORE (R138, R174, R175). -/

namespace Sys2Proof.Machine

/-! ### The queues and the pool know nothing of the management unit (R131, R137 to R139) -/

section
variable (v : Management) (s : State)

theorem offerItem_setMgmt (port : Port) (it : QItem) :
    offerItem port it (s.setMgmt v) = ((offerItem port it s).1.setMgmt v, (offerItem port it s).2) := by
  have hport : (s.setMgmt v).port port = s.port port := setMgmt_port v s port
  unfold offerItem
  dsimp only
  rw [hport]
  split
  · cases port <;> rfl
  · split <;> cases port <;> rfl

theorem generateRaw_setMgmt (port : Port) (t : Telegram) :
    generateRaw port t (s.setMgmt v) = (generateRaw port t s).setMgmt v := by
  have hoffer : offerItem port { tel := t, mark := .plain } (setFree (s.pool.free - 1) (s.setMgmt v)) = _ :=
    offerItem_setMgmt v (setFree (s.pool.free - 1) s) port { tel := t, mark := .plain }
  unfold generateRaw
  rw [State.setMgmt_pool, hoffer]
  split
  · rfl
  · obtain ⟨u, joined⟩ := offerItem port { tel := t, mark := .plain } (setFree (s.pool.free - 1) s)
    cases joined <;> rfl

theorem broadcastHoldOff_setMgmt (seconds : Nat) :
    broadcastHoldOff seconds (s.setMgmt v) = (broadcastHoldOff seconds s).setMgmt v := by
  rw [broadcastHoldOff, generateRaw_setMgmt, generateRaw_setMgmt]
  rfl

theorem enterHeld_setMgmt : enterHeld (s.setMgmt v) = (enterHeld s).setMgmt v :=
  broadcastHoldOff_setMgmt v
    (s.setPool { s.pool with held := true, holdEntry := bump s.pool.holdEntry, repeatFrom := some s.now }) 30

theorem enterOpen_setMgmt : enterOpen (s.setMgmt v) = (enterOpen s).setMgmt v :=
  broadcastHoldOff_setMgmt v (s.setPool { s.pool with held := false, repeatFrom := none }) 0

theorem takeBuffer_setMgmt : takeBuffer (s.setMgmt v) = (takeBuffer s).setMgmt v := by
  have htake (u : State) : takeBuffer u = if !u.pool.held && decide (u.pool.free - 1 ≤ holdThreshold) then
      enterHeld (setFree (u.pool.free - 1) u) else setFree (u.pool.free - 1) u := rfl
  rw [htake (s.setMgmt v), htake s, State.setMgmt_pool]
  split
  · exact enterHeld_setMgmt v (setFree (s.pool.free - 1) s)
  · rfl

theorem returnBuffer_setMgmt : returnBuffer (s.setMgmt v) = (returnBuffer s).setMgmt v := by
  have hreturn (u : State) : returnBuffer u = if u.pool.held && decide (openThreshold ≤ u.pool.free + 1) then
      enterOpen (setFree (u.pool.free + 1) u) else setFree (u.pool.free + 1) u := rfl
  rw [hreturn (s.setMgmt v), hreturn s, State.setMgmt_pool]
  split
  · exact enterOpen_setMgmt v (setFree (s.pool.free + 1) s)
  · rfl

theorem generate_setMgmt (port : Port) (t : Telegram) (m : QMark) :
    (generate port t m (s.setMgmt v)).1 = (generate port t m s).1.setMgmt v := by
  have hoffer := offerItem_setMgmt v (takeBuffer s) port { tel := t, mark := m }
  rw [← takeBuffer_setMgmt] at hoffer
  unfold generate
  rw [State.setMgmt_pool, hoffer]
  split
  · rfl
  · obtain ⟨u, joined⟩ := offerItem port { tel := t, mark := m } (takeBuffer s)
    cases joined with
    | true => rfl
    | false => exact returnBuffer_setMgmt v u

theorem respond_setMgmt (room : Room) (src op obj idx : Byte) (r : Reply) :
    respond room src op obj idx r (s.setMgmt v) = (respond room src op obj idx r s).setMgmt v := by
  cases r with
  | later => rfl
  | now st data mark => exact generate_setMgmt v s _ _ _

end

/-- With room for it a response joins the queue of the arrival port (R131, R138). -/
theorem respond_queued {s : State} {room : Room} (h : CanQueue s (roomPort room)) (src op obj idx : Byte) (st : Status)
    (data : List Byte) (mark : QMark) :
    ((respond room src op obj idx (.now st data mark) s).port (roomPort room)).queue =
      (s.port (roomPort room)).queue ++ [{ tel := responseTel src st op obj idx data, mark := mark }] := by
  have hcalm : s.pool.held = true ∨ holdThreshold < s.pool.free - 1 := h.calm.imp_right fun hc => by omega
  rw [respond, generate_joins _ _ _ _ h.buffer hcalm h.active h.room, port_setPort_self]

/-! ### The STORE (R175) -/

section
variable {s : State} {q : Req} {room : Room} {src idx : Byte}

/-- The memory is idle while neither a safety write nor a STORE is in progress (R65, R175). -/
theorem memoryIdle_of_notStoring (h : storeWriting s = false) : memoryIdle s = s.nv.writing.isNone := by
  simp [memoryIdle, h]

/-- The STORE in progress is no notice, so a settled state stays settled with another (R176). -/
theorem settled_setJob {j : StoreJob} (h : Settled s) : Settled (setJob j s) := h.congr rfl rfl rfl rfl

theorem startStoreWrite_waiting (h : s.mgmt.job = .waiting room src idx) :
    startStoreWrite s = setJob (.writing room src idx (storeImage s)) s := by
  rw [startStoreWrite, h]

/-- A STORE of a service source is accepted, and its response comes later (R175). -/
theorem exec_store (hs : Settled s) (hq : isService s q.src.toNat = true) (hd : q.data = []) (hj : s.mgmt.job = .none)
    (hr : s.mgmt.restart = false) : exec (.store 0 q) s = .next (acceptStore q.room q.src 0 s) := by
  have haccepted : Settled (acceptStore q.room q.src 0 s) := startNextWrite_settled (settled_setJob hs)
  have hbusy : actionBusy .store s = false := by simp [actionBusy, storeInProgress, hj, hr]
  exact action_answers (c := .store 0 q) (a := .store) (out := (acceptStore q.room q.src 0 s, .later)) hq rfl (Nat.le_refl _)
    hbusy rfl (by rw [hd]; rfl) haccepted

/-- A service source's STORE is BUSY during a STORE, and while a RESTART waits (R170, R175). -/
theorem store_busy (hq : isService s q.src.toNat = true) (h : s.mgmt.job ≠ .none ∨ s.mgmt.restart = true) :
    answerOf .action 2 0 q s = .bare .busy := by
  have hbusy : actionBusy .store s = true := by simpa [actionBusy, storeInProgress] using h
  have hhandle : answerOf .action 2 0 q s =
      (if !isService s q.src.toNat then (s, Reply.bare .denied)
        else if actionBusy .store s then (s, .bare .busy) else doAction .store q.room q.src 0 q.data s).2 := rfl
  rw [hhandle, hq, hbusy]
  rfl

/-- What a STORE takes is the whole stored content (R174). -/
theorem storeImage_eq : storeImage s =
    { enrol := s.zone.enrol, table := s.zone.table, setback := s.zone.setback
      poll := s.sched.slots.map (Option.map fun e => { addr := e.addr, isValve := !e.isGauge, interval := e.interval })
      bank := if s.vol.activeB then s.vol.bankB else s.vol.bankA
      level := s.level.set, coef := s.vol.coef, acct := s.acct.set, burner := s.sup.set, recovery := s.recov.set
      relay := s.relay.set, mask := s.mgmt.mask } := rfl

/-- A STORE that waits writes once nothing else holds the memory or waits for it (R175). -/
theorem startNextWrite_store (hj : s.mgmt.job = .waiting room src idx) (hw : s.nv.writing = none)
    (hn : s.nv.waiting = false) : startNextWrite s = setJob (.writing room src idx (storeImage s)) s := by
  have hidle : memoryIdle s = true := by simp [memoryIdle, storeWriting, hj, hw]
  rw [startNextWrite, if_pos hidle, if_neg (by simp [hn]), startStoreWrite_waiting hj]

/-- A STORE waits while a safety write is in progress (R65). -/
theorem startNextWrite_busy (hw : s.nv.writing ≠ none) : startNextWrite s = s :=
  if_neg (by simp [memoryIdle, hw])

/-- A safety write that waits goes before a STORE that waits (R65; log 10). -/
theorem startNextWrite_safety (hs : storeWriting s = false) (hw : s.nv.writing = none) (hn : s.nv.waiting = true) :
    startNextWrite s = startSafetyWrite s := by
  rw [startNextWrite, if_pos (by rw [memoryIdle_of_notStoring hs, hw]; rfl), if_pos hn]

/-- With no STORE in progress and no safety write waiting nothing starts. -/
theorem startNextWrite_none (hj : s.mgmt.job = .none) (hn : s.nv.waiting = false) : startNextWrite s = s := by
  have hstore : startStoreWrite s = s := startStoreWrite_none (by rw [hj]; nofun)
  simp [startNextWrite, hn, hstore]

/-- With no STORE in progress only the safety record's write can start: the store and the rest of the state stay (R65). -/
theorem startNextWrite_frame (hj : s.mgmt.job = .none) :
    startNextWrite s = { s with nv := (startNextWrite s).nv, recov := (startNextWrite s).recov } ∧
      (startNextWrite s).nv.store = s.nv.store := by
  rcases startNextWrite_cases s with ⟨-, he⟩ | ⟨-, -, he⟩ | ⟨-, hn, -⟩
  · rw [he]; exact ⟨rfl, rfl⟩
  · rw [he, startSafetyWrite_eq]; exact ⟨rfl, rfl⟩
  · rw [startNextWrite_none hj hn]; exact ⟨rfl, rfl⟩

end

/-! ### The end of a STORE (R175, step 4) -/

/-- The STORE verified, before the write that waits starts: its content stored, and OK answered. -/
def storeVerified (room : Room) (src idx : Byte) (content : StoreImage) (s : State) : State :=
  respond room src 3 2 idx (.bare .ok)
    { s with nv := { s.nv with store := some content }, mgmt := { s.mgmt with job := .none } }

theorem endStore_verified {s : State} {room : Room} {src idx : Byte} {content : StoreImage}
    (hj : s.mgmt.job = .writing room src idx content) :
    endStore true s = startNextWrite (storeVerified room src idx content s) := by
  have hjob : (respond room src 3 2 idx (.bare .ok) (s.setNv { s.nv with store := some content })).mgmt = s.mgmt :=
    (respond_offers ..).mgmt
  have hanswer := respond_setMgmt { s.mgmt with job := .none } (s.setNv { s.nv with store := some content }) room src 3 2 idx
    (.bare .ok)
  have hend : endStore true s = startNextWrite
      (setJob .none (respond room src 3 2 idx (.bare .ok) (s.setNv { s.nv with store := some content }))) := by
    rw [endStore, hj]; rfl
  rw [hend, setJob, hjob, ← hanswer]
  rfl

/-- The state in which a failed STORE answers: the write is over, its outcome in the store (R175). -/
def storeCut (content : StoreImage) (s : State) : State :=
  (s.setNv { s.nv with store := cutOff s.freeIdx s.nv.store content }).setFreeIdx (s.freeIdx + 1)

/-- The STORE failed, before the write that waits starts: the store holds what the free value says, FAILED is answered, and
STORE_FAULT raised. -/
def storeFailed (room : Room) (src idx : Byte) (content : StoreImage) (s : State) : State :=
  setJob .none (raiseEvent .storeFault (respond room src 3 2 idx (.bare .failed)
    (storeCut content s)))

theorem endStore_failed {s : State} {room : Room} {src idx : Byte} {content : StoreImage}
    (hj : s.mgmt.job = .writing room src idx content) :
    endStore false s = startNextWrite (storeFailed room src idx content s) := by
  rw [endStore, hj]
  rfl

theorem raiseEvent_port (k : Notice) (s : State) (port : Port) : PortOffered (s.port port) ((raiseEvent k s).port port) := by
  have h := (settleNotices_reports (s.setMgmt { s.mgmt with events := s.mgmt.events ||| k.set })).finishes.dispatch.ports
  have hport := h.port port
  rwa [setMgmt_port] at hport

theorem Offers.setMgmt {s t : State} (h : Offers s t) (v : Management) : Offers (s.setMgmt v) (t.setMgmt v) :=
  { h with mgmt := rfl }

theorem Reports.setJob {s t : State} (h : Reports s t) (j : StoreJob) : Reports (setJob j s) (Machine.setJob j t) := by
  obtain ⟨line, timer, hm⟩ := h.mgmt
  exact { h with mgmt := ⟨line, timer, by rw [Machine.setJob, hm]; rfl⟩ }

section
variable (room : Room) (src idx : Byte) (content : StoreImage) {s : State}

/-- STORE_FAULT raised after the answer FAILED. -/
theorem storeFault_reports : Reports
    ((storeCut content s).setMgmt { s.mgmt with events := s.mgmt.events ||| 0x0020 })
    (raiseEvent .storeFault (respond room src 3 2 idx (.bare .failed) (storeCut content s))) := by
  have hanswer := respond_offers room src 3 2 idx (.bare .failed) (storeCut content s)
  have hmgmt : (respond room src 3 2 idx (.bare .failed) (storeCut content s)).mgmt = s.mgmt := hanswer.mgmt
  have hraise := settleNotices_reports ((respond room src 3 2 idx (.bare .failed) (storeCut content s)).setMgmt
    { s.mgmt with events := s.mgmt.events ||| 0x0020 })
  rw [raiseEvent, hmgmt]
  exact (hanswer.setMgmt _).reports.trans hraise

/-- Everything a failed STORE changes but the write that waits. -/
theorem storeFailed_reports : Reports
    { s with
      nv := { s.nv with store := cutOff s.freeIdx s.nv.store content }, freeIdx := s.freeIdx + 1
      mgmt := { s.mgmt with events := s.mgmt.events ||| 0x0020, job := .none } }
    (storeFailed room src idx content s) := (storeFault_reports room src idx content).setJob .none

theorem storeFailed_settled (hs : Settled s) : Settled (storeFailed room src idx content s) := by
  refine settled_setJob ⟨?_, settleNotices_line _, settleNotices_timer _⟩
  rw [(storeFault_reports room src idx content).sched]
  exact hs.quiet

theorem storeFailed_queued (h : CanQueue s (roomPort room)) :
    ∃ its, ((storeFailed room src idx content s).port (roomPort room)).queue = (s.port (roomPort room)).queue ++
      [{ tel := composeTel src 0x41 [8, 3, 2, idx], mark := .plain }] ++ its := by
  have hcut : (storeCut content s).port (roomPort room) = s.port (roomPort room) := by cases room <;> rfl
  have hcan : CanQueue (storeCut content s) (roomPort room) :=
    ⟨h.buffer, h.calm, by rw [hcut]; exact h.active, by rw [hcut]; exact h.room⟩
  have hjoined := respond_queued hcan src 3 2 idx .failed [] .plain
  obtain ⟨its, _, _, hq⟩ := raiseEvent_port .storeFault (respond room src 3 2 idx (.bare .failed) (storeCut content s))
    (roomPort room)
  refine ⟨its, ?_⟩
  rw [storeFailed, setJob, setMgmt_port, hq]
  change ((respond room src 3 2 idx (.bare .failed) (storeCut content s)).port (roomPort room)).queue ++ its = _
  rw [Reply.bare, hjoined, hcut]
  rfl

end

/-- Settles O55: the acceptance, the start and the end of a STORE, each with the write that starts next. -/
theorem storeRunsItsCourse : Obligations.StoreRunsItsCourse := by
  intro q content s hs hcontent
  rw [← storeImage_eq] at hcontent
  refine ⟨fun hq hd => ⟨fun hj hr => ⟨fun hw hn => ?free, fun hw => ?taken, fun hw hn => ?safety⟩, store_busy hq⟩,
    fun room src idx t ht hj hw hn => ?starts, fun room src idx old hj => ⟨?verified, ?failed⟩⟩
  case free =>
    rw [exec_store hs hq hd hj hr, acceptStore, startNextWrite_store (s := setJob (.waiting q.room q.src 0) s) rfl hw hn,
      hcontent]
    rfl
  case taken =>
    rw [exec_store hs hq hd hj hr, acceptStore, startNextWrite_busy (s := setJob (.waiting q.room q.src 0) s) hw]
    rfl
  case safety =>
    refine ⟨_, exec_store hs hq hd hj hr, ?_⟩
    rw [acceptStore, startNextWrite_safety (s := setJob (.waiting q.room q.src 0) s) rfl hw hn]
    exact ⟨rfl, rfl⟩
  case starts =>
    have hstart : startNextWrite s = t := by rw [startNextWrite_store hj hw hn, ht, hcontent]; rfl
    have hstore : startStoreWrite s = t := by rw [startStoreWrite_waiting hj, ht, hcontent]; rfl
    refine ⟨hstart, act_next ?_ hstore (hstart ▸ startNextWrite_settled hs)⟩
    simp [storeMayStart, memoryIdle, storeWriting, hj, hw, hn]
  case verified =>
    have hstored : Settled { s with
        nv := { s.nv with store := some old }, mgmt := { s.mgmt with job := .none } } := hs.congr rfl rfl rfl rfl
    exact act_next (by simp [storeWriting, hj]) (endStore_verified hj)
      (startNextWrite_settled ((respond_offers ..).settled hstored))
  case failed =>
    have hfailed := storeFailed_reports room src idx old (s := s)
    have hqueued := storeFailed_queued room src idx old (s := s)
    have hsettled := storeFailed_settled room src idx old hs
    obtain ⟨u, hu⟩ : ∃ u, u = storeFailed room src idx old s := ⟨_, rfl⟩
    have hend : endStore false s = startNextWrite u := hu ▸ endStore_failed hj
    rw [← hu] at hfailed hqueued hsettled
    obtain ⟨line, timer, hmgmt⟩ := hfailed.mgmt
    have hjob : u.mgmt.job = .none := by rw [hmgmt]
    have hnv : u.nv = { s.nv with store := cutOff s.freeIdx s.nv.store old } := hfailed.nv
    have hrecov : u.recov = s.recov := hfailed.recov
    obtain ⟨hframe, hstore⟩ := startNextWrite_frame hjob
    have hstored : (startNextWrite u).nv.store = cutOff s.freeIdx s.nv.store old := by rw [hstore, hnv]
    refine ⟨startNextWrite u, act_next (by simp [storeWriting, hj]) hend (startNextWrite_settled hsettled), ?_, ?kept, ?begun,
      ?rest⟩
    · rw [hstored]
      exact cutOff_cases ..
    case kept =>
      intro h
      have hsame : startNextWrite u = u := by
        rcases h with hn | hw
        · exact startNextWrite_none hjob (by rw [hnv]; exact hn)
        · exact startNextWrite_busy (by rw [hnv]; exact hw)
      rw [hsame, hnv, hrecov]
      exact ⟨rfl, rfl⟩
    case begun =>
      intro hn hw
      have hsafety : startNextWrite u = startSafetyWrite u :=
        startNextWrite_safety (by simp [storeWriting, hjob]) (by rw [hnv]; exact hw) (by rw [hnv]; exact hn)
      rw [hsafety, startSafetyWrite_eq, hnv, hrecov]
      exact ⟨rfl, rfl⟩
    case rest =>
      rw [hframe]
      have hports : PortsOffered s u := ⟨hfailed.portH, hfailed.portY, hfailed.portP⟩
      have hport (port : Port) : ({ u with nv := (startNextWrite u).nv, recov := (startNextWrite u).recov } : State).port port =
          u.port port := by cases port <;> rfl
      refine ⟨hfailed.freeIdx, by rw [hmgmt], fun hcan => by rw [hport]; exact hqueued hcan, hfailed.now, hfailed.pending,
        hfailed.relay, hfailed.zone, hfailed.sup, ⟨hfailed.level, hfailed.vol, hfailed.acct⟩, hfailed.sched, hports⟩

end Sys2Proof.Machine
end

section
/-! The checks of R170 in their order, and what a refused request leaves as it is (R62, R64, R139, R170 to R173). -/

namespace Sys2Proof.Machine

/-! ### Service sources (R1, R170) -/

section
variable {s : State} {addr : Nat}

theorem enrolOf_mem {e : Enrolment} (h : enrolOf s addr = some e) : some e ∈ s.zone.enrol ∧ e.addr = addr := by
  obtain ⟨o, ho, hf⟩ := List.exists_of_findSome?_eq_some h
  obtain ⟨rfl, haddr⟩ := Option.filter_eq_some_iff.mp hf
  exact ⟨ho, of_decide_eq_true haddr⟩

/-- An enrolled address has an enrolment. -/
theorem enrolOf_isSome {e : Enrolment} (he : some e ∈ s.zone.enrol) (ha : e.addr = addr) : (enrolOf s addr).isSome = true := by
  rw [enrolOf, List.isSome_findSome?, List.any_eq_true]
  exact ⟨some e, he, by simp [ha]⟩

/-- Only address 126 and addresses enrolled as SERVICE are service sources (R170). -/
theorem isService_enrolled (h : isService s addr = true) :
    addr = 126 ∨ ∃ e, some e ∈ s.zone.enrol ∧ e.addr = addr ∧ e.role = .service := by
  rw [isService, Bool.or_eq_true, decide_eq_true_eq, Option.any_eq_true] at h
  refine h.imp_right ?_
  rintro ⟨e, he, hrole⟩
  obtain ⟨hmem, haddr⟩ := enrolOf_mem he
  exact ⟨e, hmem, haddr, of_decide_eq_true hrole⟩

theorem isService_of_enrolled {e : Enrolment} (he : some e ∈ s.zone.enrol) (ha : e.addr = addr) (hr : e.role = .service)
    (hunique : ∀ e', some e' ∈ s.zone.enrol → e'.addr = addr → e' = e) : isService s addr = true := by
  obtain ⟨e', he'⟩ := Option.isSome_iff_exists.mp (enrolOf_isSome he ha)
  obtain ⟨hmem, haddr⟩ := enrolOf_mem he'
  rw [isService, he', hunique e' hmem haddr]
  simp [hr]

end

/-! ### Objects and actions by number (R170, R171, R173) -/

/-- The number of an object, its place in the list from 1. -/
def Obj.number (o : Obj) : Nat := allObjects.idxOf o + 1

/-- The number of an action. -/
def Action.number (a : Action) : Nat := allActions.idxOf a + 1

section
variable {obj : Byte}

theorem objOf_eq_none (h : obj = 0 ∨ 25 < obj.toNat) : objOf obj = none := by
  unfold objOf
  split
  · rfl
  · next hne =>
    rw [List.getElem?_eq_none_iff]
    have hlength : allObjects.length = 25 := rfl
    have := h.resolve_left hne
    omega

theorem actionOf_eq_none (h : obj = 0 ∨ 8 < obj.toNat) : actionOf obj = none := by
  unfold actionOf
  split
  · rfl
  · next hne =>
    rw [List.getElem?_eq_none_iff]
    have hlength : allActions.length = 8 := rfl
    have := h.resolve_left hne
    omega

/-- The object of a number in R171's table of ranges. -/
theorem objOf_of_range {last : Nat} (h0 : obj ≠ 0) (h : objectRanges[obj.toNat - 1]? = some last) :
    ∃ o, objOf obj = some o ∧ o.number = obj.toNat ∧ o.lastIndex = last := by
  have hranges : objectRanges = allObjects.map Obj.lastIndex := rfl
  rw [hranges, List.getElem?_map, Option.map_eq_some_iff] at h
  obtain ⟨o, ho, hlast⟩ := h
  obtain ⟨hi, ho'⟩ := List.getElem?_eq_some_iff.mp ho
  have hpos : obj.toNat ≠ 0 := fun hz => h0 (BitVec.eq_of_toNat_eq hz)
  have hplace : allObjects.idxOf o = obj.toNat - 1 := by
    rw [← ho']
    exact List.Nodup.idxOf_getElem (by decide) _ hi
  exact ⟨o, by rw [objOf, if_neg h0, ho], by rw [Obj.number, hplace]; omega, hlast⟩

/-- The action of a number from 1 to 8. -/
theorem actionOf_of_number (h0 : obj ≠ 0) (h : obj.toNat ≤ 8) : ∃ a, actionOf obj = some a ∧ a.number = obj.toNat := by
  have hpos : obj.toNat ≠ 0 := fun hz => h0 (BitVec.eq_of_toNat_eq hz)
  have hi : obj.toNat - 1 < allActions.length := by
    have hlength : allActions.length = 8 := rfl
    omega
  have hplace : allActions.idxOf allActions[obj.toNat - 1] = obj.toNat - 1 := List.Nodup.idxOf_getElem (by decide) _ hi
  exact ⟨allActions[obj.toNat - 1], by rw [actionOf, if_neg h0, List.getElem?_eq_getElem hi],
    by rw [Action.number, hplace]; omega⟩

/-- The number of an action, as the byte of a request. -/
theorem eq_ofNat_number {a : Action} (h : a.number = obj.toNat) : obj = BitVec.ofNat 8 a.number := by
  rw [h, BitVec.ofNat_toNat, BitVec.setWidth_eq]

/-- The last index of each action: only HOLD-TANK has an index 1 (R173). -/
theorem lastIndex_of_number {a : Action} (h : a.number = obj.toNat) : a.lastIndex = if obj = 6 then 1 else 0 := by
  rw [eq_ofNat_number h]
  cases a <;> rfl

/-- The data length of each action: only CLEAR-NOTICE carries data (R173). -/
theorem dataLength_of_number {a : Action} (h : a.number = obj.toNat) : a.dataLength = if obj = 3 then 2 else 0 := by
  rw [eq_ofNat_number h]
  cases a <;> rfl

/-- SWAP-STRAP, STORE and RESTART are BUSY during a STORE, and STORE while a RESTART waits (R170, R175). -/
theorem actionBusy_of_number {a : Action} (h : a.number = obj.toNat) (s : State) : actionBusy a s = true ↔
    (obj ∈ ([1, 2, 8] : List Byte) ∧ s.mgmt.job ≠ .none) ∨ (obj = 2 ∧ s.mgmt.restart = true) := by
  rw [eq_ofNat_number h]
  cases a <;> simp [actionBusy, storeInProgress, Action.number, allActions]

end

/-- The indices that R170 opens to WRITE are the counters and the settings of R171's table. -/
theorem openToWrite_iff {o : Obj} {i : Nat} (hi : i ≤ o.lastIndex) :
    OpenToWrite o.number i ↔ (o.isCounter i || o.isSetting i) = true := by
  cases o with
  | poll =>
    have hi : i ≤ 12 := hi
    simp [OpenToWrite, Obj.number, allObjects, Obj.isCounter, Obj.isSetting]
    omega
  | relayCounters =>
    simp [OpenToWrite, Obj.number, allObjects, Obj.isCounter, Obj.isSetting]
    omega
  | _ => simp [OpenToWrite, Obj.number, allObjects, Obj.isCounter, Obj.isSetting]

/-! ### The checks, one after the other (R170) -/

section
variable {obj idx : Byte} {q : Req} {s : State} {o : Obj} {a : Action}

/-- The answer to a WRITE of an object, by the checks from 4 on. -/
theorem answerOf_write (ho : objOf obj = some o) : answerOf .write obj idx q s =
    if o.lastIndex < idx.toNat then .bare .badIndex
    else if isService s q.src.toNat = false then .bare .denied
    else if (o.isCounter idx.toNat || o.isSetting idx.toNat) = false then .bare .refused
    else if storeInProgress s then .bare .busy
    else ((writeItem o idx.toNat q.data s).map fun x => .bare (if x.1 then .clamped else .ok)).getD (.bare .badValue) := by
  have hwrite : answerOf .write obj idx q s = (handleWrite obj idx q.src q.data s).2 := rfl
  rw [hwrite, handleWrite, ho]
  dsimp only
  simp only [Bool.not_eq_true']
  split_ifs
  · rfl
  · rfl
  · rfl
  · rfl
  · cases writeItem o idx.toNat q.data s <;> rfl

/-- The answer to a READ of an object, by the checks from 4 on. -/
theorem answerOf_read (ho : objOf obj = some o) : answerOf .read obj idx q s =
    if o.lastIndex < idx.toNat then .bare .badIndex
    else ((partOf (showItem s o idx.toNat) q.data).map fun bs => .now .ok bs .plain).getD (.bare .badValue) := by
  have hread : answerOf .read obj idx q s = handleRead obj idx q.data s := rfl
  rw [hread, handleRead, ho]
  dsimp only
  split
  · rfl
  · cases partOf (showItem s o idx.toNat) q.data <;> rfl

/-- The answer to an ACTION, by the checks from 4 on. -/
theorem answerOf_action (ha : actionOf obj = some a) : answerOf .action obj idx q s =
    if a.lastIndex < idx.toNat then .bare .badIndex
    else if isService s q.src.toNat = false then .bare .denied
    else if actionBusy a s then .bare .busy
    else (doAction a q.room q.src idx q.data s).2 := by
  have haction : answerOf .action obj idx q s = (handleAction obj idx q.src q.room q.data s).2 := rfl
  rw [haction, handleAction, ha]
  dsimp only
  simp only [Bool.not_eq_true']
  split_ifs <;> rfl

/-- With data of another length than its own an action is answered BAD_VALUE (R173). -/
theorem doAction_badLength {room : Room} {src : Byte} {data : List Byte} (h : data.length ≠ a.dataLength) :
    doAction a room src idx data s = (s, .bare .badValue) := if_pos h

end

/-! ### What a refusal leaves (R170, R173) -/

/-- The answers to a request that is taken: OK or CLAMPED, or one that comes when a STORE ends. -/
inductive Accepts : Reply → Prop
  | later : Accepts .later
  | ok (data : List Byte) (mark : QMark) : Accepts (.now .ok data mark)
  | clamped : Accepts (.bare .clamped)

/-- A request is accepted, or leaves the state as it is. -/
def UnlessAccepted (s : State) (out : State × Reply) : Prop := Accepts out.2 ∨ out.1 = s

section
variable (s : State)

theorem actSwap_unlessAccepted : UnlessAccepted s (actSwap s) := by
  unfold actSwap
  split
  · exact .inr rfl
  · exact .inl (.ok [] .plain)

theorem actReset_unlessAccepted : UnlessAccepted s (actReset s) := by
  unfold actReset
  split
  · split
    · exact .inr rfl
    · exact .inl (.ok [] .plain)
  · exact .inl (.ok [] .plain)
  all_goals exact .inr rfl

theorem actClearLock_unlessAccepted : UnlessAccepted s (actClearLock s) := by
  unfold actClearLock
  split
  · exact .inl (.ok [] .plain)
  · exact .inr rfl

theorem doAction_unlessAccepted (a : Action) (room : Room) (src idx : Byte) (data : List Byte) :
    UnlessAccepted s (doAction a room src idx data s) := by
  unfold doAction
  split
  · exact .inr rfl
  · cases a with
    | swapStrap => exact actSwap_unlessAccepted s
    | store => exact .inl .later
    | clearNotice => exact .inl (.ok _ .plain)
    | resetBurner => exact actReset_unlessAccepted s
    | clearHardLock => exact actClearLock_unlessAccepted s
    | holdTank => exact .inl (.ok [] .plain)
    | forgetLevel => exact .inl (.ok [] .plain)
    | restart => exact .inl (.ok [] _)

theorem handleWrite_unlessAccepted (obj idx src : Byte) (data : List Byte) :
    UnlessAccepted s (handleWrite obj idx src data s) := by
  unfold handleWrite
  split
  · exact .inr rfl
  · split_ifs
    · exact .inr rfl
    · exact .inr rfl
    · exact .inr rfl
    · exact .inr rfl
    · split
      · exact .inr rfl
      · next clamped s' _ =>
        cases clamped with
        | true => exact .inl .clamped
        | false => exact .inl (.ok [] .plain)

theorem handleAction_unlessAccepted (obj idx src : Byte) (room : Room) (data : List Byte) :
    UnlessAccepted s (handleAction obj idx src room data s) := by
  unfold handleAction
  split
  · exact .inr rfl
  · split_ifs
    · exact .inr rfl
    · exact .inr rfl
    · exact .inr rfl
    · exact doAction_unlessAccepted s _ room src idx data

/-- A READ, and a request answered with another status than OK or CLAMPED, leaves the state as it is (R170, R172, R173). -/
theorem handle_refused {op : Op} {obj idx : Byte} {q : Req} {st : Status} {data : List Byte} {mark : QMark}
    (ha : answerOf op obj idx q s = .now st data mark) (h : op = .read ∨ (st ≠ .ok ∧ st ≠ .clamped)) :
    (handle op.code obj idx q.room q.src q.data s).1 = s := by
  have unchanged {out : State × Reply} (hout : UnlessAccepted s out) (hr : out.2 = .now st data mark)
      (hn : st ≠ .ok ∧ st ≠ .clamped) : out.1 = s := by
    rcases hout with haccepted | hs
    · rw [hr] at haccepted
      obtain ⟨hok, hclamped⟩ := hn
      cases haccepted with
      | ok => exact absurd rfl hok
      | clamped => exact absurd rfl hclamped
    · exact hs
  cases op with
  | read => rfl
  | write => exact unchanged (handleWrite_unlessAccepted s obj idx q.src q.data) ha (h.resolve_left nofun)
  | action => exact unchanged (handleAction_unlessAccepted s obj idx q.src q.room q.data) ha (h.resolve_left nofun)

end

/-! ### The statement -/

/-- Settles O49: the checks of R170 in their order, and a refused request's state, to which only its response is added. -/
theorem refusedRequestsChangeNothing : Obligations.RefusedRequestsChangeNothing := by
  refine ⟨fun c op obj idx q st data mark s hs hc ha hrefused => ?unchanged, fun s addr => ⟨rfl, isService_enrolled,
      fun e => isService_of_enrolled⟩, fun op obj idx src room data s h1 h2 h3 => ?badOp,
    fun op obj idx q s h => ?badObject, fun obj idx last q s h0 hlast => ?objects,
    fun obj idx last q s h0 h8 hlast => ?actions, fun q s hq hd => ?owners⟩
  case unchanged =>
    have hresponse := respond_offers q.room q.src op.code obj idx (.now st data mark) s
    rw [exec_request hc, ha, handle_refused s ha hrefused, finish_of_settled (hresponse.settled hs)]
    exact ⟨rfl, hresponse.onlyPorts⟩
  case badOp =>
    have hop : readOp op = none := by rw [readOp, if_neg h1, if_neg h2, if_neg h3]
    rw [handle, hop]
  case badObject =>
    cases op with
    | read =>
      have hread : answerOf .read obj idx q s = handleRead obj idx q.data s := rfl
      rw [hread, handleRead, objOf_eq_none h]
    | write =>
      have hwrite : answerOf .write obj idx q s = (handleWrite obj idx q.src q.data s).2 := rfl
      rw [hwrite, handleWrite, objOf_eq_none h]
    | action =>
      have haction : answerOf .action obj idx q s = (handleAction obj idx q.src q.room q.data s).2 := rfl
      rw [haction, handleAction, actionOf_eq_none h]
  case objects =>
    obtain ⟨o, ho, hnumber, rfl⟩ := objOf_of_range h0 hlast
    refine ⟨fun hi => ?_, fun hi => ?_⟩
    · rw [answerOf_read ho, answerOf_write ho, if_pos hi, if_pos hi]
      exact ⟨rfl, rfl⟩
    · have hin := Nat.not_lt.mpr hi
      refine ⟨fun hd => ?_, fun q' hd => ?_, fun hsrc => ?_, fun hsrc => ?_⟩
      · rw [answerOf_read ho, if_neg hin, hd]
        exact ⟨_, rfl⟩
      · rw [answerOf_read ho, answerOf_read ho, hd]
      · rw [answerOf_write ho, if_neg hin, if_pos hsrc]
      · rw [answerOf_write ho, if_neg hin, if_neg (by simp [hsrc]), ← hnumber, openToWrite_iff hi]
        refine ⟨fun hclosed => if_pos (by simpa using hclosed), fun hopen hbusy => ?_, fun hopen hfree => ?_⟩
        · rw [if_neg (by simp [hopen]), if_pos (by simp [storeInProgress, hbusy])]
        · rw [if_neg (by simp [hopen]), if_neg (by simp [storeInProgress, hfree])]
          cases writeItem o idx.toNat q.data s with
          | none => exact ⟨.badValue, by simp, rfl⟩
          | some x => exact ⟨if x.1 then .clamped else .ok, by cases x.1 <;> simp, rfl⟩
  case actions =>
    obtain ⟨a, ha, hnumber⟩ := actionOf_of_number h0 h8
    rw [← lastIndex_of_number hnumber] at hlast
    subst hlast
    rw [answerOf_action ha]
    refine ⟨fun hi => if_pos hi, fun hi hsrc => ?_, fun hi hsrc => ?_⟩
    · rw [if_neg (Nat.not_lt.mpr hi), if_pos hsrc]
    · have hbusy := actionBusy_of_number hnumber s
      rw [if_neg (Nat.not_lt.mpr hi), if_neg (by simp [hsrc])]
      refine ⟨fun hobj hjob => if_pos (hbusy.mpr (.inl ⟨hobj, hjob⟩)), fun hobj hr => if_pos (hbusy.mpr (.inr ⟨hobj, hr⟩)),
        fun hjob hr hlength => ?_⟩
      have hfree : actionBusy a s ≠ true := fun hb => by
        rcases hbusy.mp hb with ⟨hobj, hn⟩ | ⟨hobj, hn⟩
        · exact hn (hjob hobj)
        · cases (hr hobj).symm.trans hn
      rw [if_neg hfree, doAction_badLength (by rw [dataLength_of_number hnumber]; exact hlength)]
  case owners =>
    have hreset : answerOf .action 4 0 q s = (actReset s).2 := by
      rw [answerOf_action (a := .resetBurner) rfl, hq, hd]; rfl
    have hclear : answerOf .action 5 0 q s = (actClearLock s).2 := by
      rw [answerOf_action (a := .clearHardLock) rfl, hq, hd]; rfl
    rw [hreset, hclear]
    refine ⟨fun h => ?_, fun h => ?_, fun h => by rw [actClearLock, if_neg h]⟩
    · rcases h with h | h | h <;> rw [actReset, h]
    · rcases h with h | h | ⟨h, e, a, he, hattempt⟩
      · rw [actReset, h]
      · rw [actReset, h]
      · have hinhand : attemptInHand s = some a := by rw [attemptInHand, he]; exact hattempt
        rw [actReset, h, hinhand]
        rfl

end Sys2Proof.Machine
end
